-- ==== Sys2Proof/Word.lean ====
section
/-! DEFINITION. The words of the part's links and store, and the two wayside sources. -/

namespace Sys2Proof

/-- A character's data bits, a store byte, a byte of a frame or record. -/
abbrev Byte := BitVec 8

/-- A 16-bit word: a CRC-16. -/
abbrev Word := BitVec 16

/-- The wayside masters that send requests (R17, R174). -/
inductive Source where
  | rc
  | sc
  deriving DecidableEq, Repr

end Sys2Proof
end

