-- ==== Sys2Proof/Syntax.lean ====
section
/-! DEFINITION. The commands of the part: one constructor per row of spec/opcode_table.json.
A row that takes a wayside request carries no operand of its own: the request is the frame at the head of the request
queue (R175), and its arguments are that frame's argument bytes. -/

namespace Sys2Proof

/-- One event or operation of the HL-640, in the order of spec/opcode_table.json. -/
inductive Instr where
  /-- HARDWARE_RESET (R191). -/
  | hardwareReset
  /-- STRAP_READ (R191 step 1). -/
  | strapRead
  /-- SECTION_READ (R191 steps 2 and 3); `readable` is no when the read of the store failed. -/
  | sectionRead (readable : Bool)
  /-- FRAMING_ERROR (R172). -/
  | framingError
  /-- ADDRESS_CHARACTER (R173); `periods` oscillator periods have passed since the last local millisecond (R107). -/
  | addressCharacter (value : Byte) (periods : Nat)
  /-- DATA_CHARACTER (R174). -/
  | dataCharacter (value : Byte)
  /-- FRAME_TIMEOUT (R173); `quiet` is the quiet time in character times that the receiver measured. -/
  | frameTimeout (quiet : Nat)
  /-- RESPONSE_START (R176); `quiet` is the quiet time in character times that the receiver measured. -/
  | responseStart (quiet : Nat)
  /-- RESPONSE_SENT (R176). -/
  | responseSent
  /-- LINK_RATE_APPLY (R179). -/
  | linkRateApply
  /-- STATUS (R178). -/
  | status
  /-- SHOW_STATUS (R178). -/
  | showStatus
  /-- GO_ONLINE (R5). -/
  | goOnline
  /-- GO_OFFLINE (R6). -/
  | goOffline
  /-- DISPATCH (R8). -/
  | dispatch
  /-- HOLD (R13). -/
  | hold
  /-- RESUME (R16). -/
  | resume
  /-- ADVANCE (R11). -/
  | advance
  /-- STOP_NOW (R14). -/
  | stopNow
  /-- RECOVER (R15). -/
  | recover
  /-- RELEASE (R73). -/
  | release
  /-- BYPASS (R71). -/
  | bypass
  /-- RESTORE (R72). -/
  | restore
  /-- CLEAR_SEAT_EVENTS (R70). -/
  | clearSeatEvents
  /-- SET_SPEED_LIMIT (R159). -/
  | setSpeedLimit
  /-- ANNOUNCE (R133). -/
  | announce
  /-- READ_FAULT_LOG (R168). -/
  | readFaultLog
  /-- SET_PARAM (R188). -/
  | setParam
  /-- GET_PARAM (R188). -/
  | getParam
  /-- SAVE (R190). -/
  | save
  /-- RESTART (R192). -/
  | restart
  /-- PREFACE (R20). -/
  | preface
  /-- TABLE_BEGIN (R23). -/
  | tableBegin
  /-- TABLE_ENTRY (R24). -/
  | tableEntry
  /-- TABLE_END (R25). -/
  | tableEnd
  /-- NOTICES (R104). -/
  | notices
  /-- STORE_WRITE (R189). -/
  | storeWrite
  /-- STORE_ERASE (R189). -/
  | storeErase
  /-- STORE_READ (R189). -/
  | storeRead
  /-- STORE_COMPLETE (R189); `success` is what the store reports. -/
  | storeComplete (success : Bool)
  /-- STORE_TIMEOUT (R189). -/
  | storeTimeout
  /-- SAVE_COMPLETE (R190); `success` is what the store reports. -/
  | saveComplete (success : Bool)
  /-- SAVE_TIMEOUT (R190). -/
  | saveTimeout
  /-- SYNC (R108). -/
  | sync
  /-- VOICE_START (R123). -/
  | voiceStart
  /-- VOICE_STOP (R127). -/
  | voiceStop
  /-- VOICE_GAIN (R128). -/
  | voiceGain
  /-- MASTER_VOLUME (R136). -/
  | masterVolume
  /-- PREFACE_LAPSE (R21), for the slot of one source. -/
  | prefaceLapse (source : Source)
  /-- EXCHANGE_START (R183). -/
  | exchangeStart
  /-- DRIVE_EXCHANGE (R181, R182): `edges` rising clock edges were counted and `bytes` were shifted in. -/
  | driveExchange (edges : Nat) (bytes : List Byte)
  /-- STATIONARY (R162). -/
  | stationary
  /-- DRIVE_TIMEOUT (R184). -/
  | driveTimeout
  /-- RC_LINK_LOST (R177). -/
  | rcLinkLost
  /-- TERMINAL_SAMPLE (R142): the level found on terminal Tn in bit n. -/
  | terminalSample (levels : BitVec 40)
  /-- FILTERED_CHANGE (R143), of one logical input in the numbering of R187. -/
  | filteredChange (input : Fin 27)
  /-- VERIFY_TIME_REACHED (R65); seat k of the manual is `seat` k - 1. -/
  | verifyTimeReached (seat : Fin 8)
  /-- DISAGREEMENT_TIME_REACHED (R66). -/
  | disagreementTimeReached (seat : Fin 8)
  /-- PULSE_TIMEOUT (R77). -/
  | pulseTimeout (seat : Fin 8)
  /-- SOLENOID_MISMATCH (R147), found on one terminal. -/
  | solenoidMismatch (terminal : Fin 40)
  /-- AMP_NOT_READY (R61). -/
  | ampNotReady
  /-- SHOW_CLOCK_ADVANCE (R106). -/
  | showClockAdvance
  /-- SYNC_AGE_EXPIRY (R111). -/
  | syncAgeExpiry
  /-- SCENE_CUE_DUE (R96). -/
  | sceneCueDue
  /-- EFFECT_PULSE_END (R101). -/
  | effectPulseEnd (channel : Fin 12)
  /-- VOICE_JOIN (R124). -/
  | voiceJoin (voice : Fin 6)
  /-- GAIN_RAMP_TICK (R126). -/
  | gainRampTick
  /-- FADE_END (R126). -/
  | fadeEnd (voice : Fin 6)
  /-- SAMPLE_CLOCK (R137). -/
  | sampleClock
  /-- GENERATOR_CLOCK (R151). -/
  | generatorClock (generator : Fin 3)
  /-- UNKNOWN_KIND (R18, R19). -/
  | unknownKind
  deriving DecidableEq, Repr

end Sys2Proof
end

