-- ==== Sys2Proof/Config.lean ====
section
/-! DEFINITION. What an implementation fixes, and the values the manual leaves open. The free values have no body:
nothing can be proved of them but what holds of every value. -/

namespace Sys2Proof

/-- What a byte of the store reads as after its block was erased: the manual does not say (R189). Log 10. -/
opaque Config.erasedByte : Byte

/-- Whether the byte at an address holds its new contents after a hardware reset ended operation number `n` (R189: "either
their old or their new contents"). Log 11. -/
opaque Config.tornIsNew (n address : Nat) : Bool

/-- What the byte at an address reads as after operation number `n` ended in error or passed its limit: the manual does not
say (R189). Log 11. -/
opaque Config.lostByte (n address : Nat) : Byte

/-- What became of section `i` of the image when image write number `n` failed or was cut: 0 it holds the old contents, 1
the new ones, any other value it fails its CRC (R190: "The image may then be partly new"). Log 13. -/
opaque Config.sectionFate (n i : Nat) : Nat

/-- DESIGN CHOICE (log 9): what a byte of the store that nothing has written or erased reads as. -/
def Config.unwrittenByte : Byte := 0xFF

/-- The clip region is store bytes 0 to 16,515,071 (11, introduction). -/
def Config.clipRegionBytes : Nat := 16515072

/-- The store holds 16 MiB (11, introduction). -/
def Config.storeBytes : Nat := 16777216

/-- One erase block: 64 KiB (R189). -/
def Config.eraseBlockBytes : Nat := 65536

end Sys2Proof
end

