-- ==== Sys2Proof/Machine/State.lean ====
section
/-! DEFINITION. The state of the part, block by block as the manual owns it, and the state after a hardware reset.
Each item cites the rule that names it; INVENTORY.md lists them all. -/

namespace Sys2Proof.Machine

/-! ## Enumerations -/

/-- Vehicle mode (R1). -/
inductive Mode where
  | offline | load | ready | run | hold | unload | halt
  deriving DecidableEq, Repr

/-- Held-from mode (R1). -/
inductive HeldFrom where
  | none | run | unload
  deriving DecidableEq, Repr

/-- Permit level, in increasing order (R154). -/
inductive PermitLevel where
  | emergency | stop | creep | run
  deriving DecidableEq, Repr

/-- Seat state (R62). -/
inductive SeatState where
  | disabled | open | closing | locked | verified | disagree | releasing | bypassed
  deriving DecidableEq, Repr

/-- Fault kind (R163). -/
inductive FaultKind where
  | restraintOpen | solenoid | position | guideLost | steerSaturated | ampNotReady | overspeed | driveLinkLost
  | driveReported | rcLinkLost | onboardStop | rcStop
  deriving DecidableEq, Repr

/-- Sub-cause of a POSITION fault (R39); `none` for the other kinds (R165). -/
inductive SubCause where
  | none | discrepancy | order | missed | rollback
  deriving DecidableEq, Repr

/-- Clock state (R105). -/
inductive ClockState where
  | free | slewing | locked
  deriving DecidableEq, Repr

/-- State of a voice that is not IDLE (R119). -/
inductive VoiceState where
  | waiting | playing | paused | stopping
  deriving DecidableEq, Repr

/-- Zone of a segment (R26). -/
inductive Zone where
  | none | load | unload
  deriving DecidableEq, Repr

/-- Hold behaviour of a show voice (R119). -/
inductive HoldBehaviour where
  | continue | pause | fade
  deriving DecidableEq, Repr

/-- Route of a voice, and channel of MASTER_VOLUME (R119, R136). -/
inductive Route where
  | a | b | both
  deriving DecidableEq, Repr

/-- Load status of a table (R22). -/
inductive LoadStatus where
  | invalid | loading | valid
  deriving DecidableEq, Repr

/-- Position state (R29). -/
inductive PositionState where
  | unsync | sync
  deriving DecidableEq, Repr

/-- Steering state (R43). -/
inductive SteeringState where
  | idle | tracking | frozen
  deriving DecidableEq, Repr

/-- Edge sense of a seat input (R63). -/
inductive EdgeSense where
  | none | rising | falling | both
  deriving DecidableEq, Repr

/-- Receiver state (R171). -/
inductive ReceiverState where
  | hunting | receiving | trailing
  deriving DecidableEq, Repr

/-- A queued frame's addressing, fixed when its address character was matched (R175). -/
inductive Addressing where
  | unicast | group | broadcast
  deriving DecidableEq, Repr

/-- Status of a response (R176). -/
inductive Status where
  | done | clamped | authority | mode | argument | preface | busy | order | full | cause | pending | unknown | starting
  deriving DecidableEq, Repr

/-- Request kind (R17, R186). -/
inductive Kind where
  | status | goOnline | goOffline | dispatch | hold | resume | advance | stopNow | recover | release | bypass | restore
  | clearSeatEvents | setSpeedLimit | announce | readFaultLog | setParam | getParam | save | restart | preface
  | tableBegin | tableEntry | tableEnd | showStatus | notices | storeWrite | storeErase | storeRead | sync | voiceStart
  | voiceStop | voiceGain | masterVolume
  deriving DecidableEq, Repr

/-- The four tables, by their table byte (R186). -/
inductive TableId where
  | route | marker | cue | clip
  deriving DecidableEq, Repr

/-- Output selection of a terminal (R138). -/
inductive OutputSelection where
  | input
  | effect (channel : Fin 12)
  | release (seat : Fin 8)
  | permitLamp
  | haltLamp
  | density (generator : Fin 3)
  deriving DecidableEq, Repr

/-! ## Configuration (R187) -/

/-- The parameters of R187 but the read-only items. -/
structure Params where
  rollbackLimit : Nat
  kp : Vector Nat 4
  kd : Vector Nat 4
  steerLimit : Nat
  slewRate : Nat
  guideLossLimit : Nat
  saturationLimit : Nat
  seatMask : Byte
  verifyTime : Nat
  disagreementTime : Nat
  releasePulseTime : Nat
  /-- Edge sense of LOCK_A, LOCK_B, BAR_DOWN. -/
  edgeSense : Vector EdgeSense 3
  stepThreshold : Nat
  lockTolerance : Nat
  holdClip : Nat
  holdGain : Nat
  holdFade : Nat
  duckLevel : Nat
  duckRamp : Nat
  resyncTolerance : Nat
  cueRoute : Vector Route 4
  creepCeiling : Nat
  lookahead : Nat
  overspeedTolerance : Nat
  rcTimeout : Nat
  driveTimeout : Nat
  vehicleAddress : Nat
  groups : Vector Nat 4
  /-- Link rate code: 115,200, 230,400, 460,800, 921,600 bit/s (R179). -/
  linkRate : Fin 4
  debounceTime : Nat
  dgPrecision : Vector Nat 3
  dgDivider : Vector Nat 3
  outputs : Vector OutputSelection 40
  sources : Vector (Option (Fin 40)) 27
  /-- Active level of each logical input: yes for HIGH, no for LOW. -/
  activeHigh : Vector Bool 27
  deriving DecidableEq, Repr

/-- The defaults of R187. -/
def Params.defaults : Params where
  rollbackLimit := 100
  kp := Vector.replicate 4 64
  kd := Vector.replicate 4 96
  steerLimit := 8000
  slewRate := 20
  guideLossLimit := 300
  saturationLimit := 50
  seatMask := 255
  verifyTime := 500
  disagreementTime := 200
  releasePulseTime := 2000
  edgeSense := Vector.replicate 3 .falling
  stepThreshold := 20
  lockTolerance := 500
  holdClip := 0
  holdGain := 4096
  holdFade := 1000
  duckLevel := 1024
  duckRamp := 250
  resyncTolerance := 160
  cueRoute := Vector.replicate 4 .both
  creepCeiling := 300
  lookahead := 1500
  overspeedTolerance := 150
  rcTimeout := 500
  driveTimeout := 50
  vehicleAddress := 239
  groups := Vector.replicate 4 0
  linkRate := 1
  debounceTime := 10
  dgPrecision := #v[12, 16, 16]
  dgDivider := #v[4, 1, 1]
  outputs := Vector.replicate 40 .input
  sources := Vector.replicate 27 none
  activeHigh := Vector.replicate 27 true

/-- The parameters from a reset until start-up puts a configuration in force: the defaults, with DEFAULTS_STRAP read from
T00 (R138, R146; for the parameters that no rule names after a reset DESIGN CHOICE, log 7). -/
def Params.afterReset : Params :=
  { Params.defaults with sources := Params.defaults.sources.set 26 (some 0) }

/-! ## Tables -/

/-- A route segment (R26). -/
structure Segment where
  start : Nat
  feedforward : Int
  ceiling : Nat
  zone : Zone
  scene : Nat
  gainSet : Fin 4
  deriving DecidableEq, Repr

/-- A floor marker (R27). -/
structure Marker where
  id : Nat
  position : Nat
  window : Nat
  deriving DecidableEq, Repr

/-- Start mode of a START_VOICE action (R87). -/
inductive CueStart where
  | now
  | grid (period : Nat)
  deriving DecidableEq, Repr

/-- Operation of an EFFECT action (R87). -/
inductive EffectOp where
  | on
  | off
  | pulse (time : Nat)
  deriving DecidableEq, Repr

/-- A cue action (R87). -/
inductive Action where
  | startVoice (voice : Fin 4) (clip gain : Nat) (hold : HoldBehaviour) (start : CueStart)
  | stopVoice (voice : Fin 4) (fade : Nat)
  | setGain (voice : Fin 4) (target ramp : Nat)
  | effect (channel : Fin 12) (op : EffectOp)
  | notify (code : Byte)
  deriving DecidableEq, Repr

/-- What fires a cue (R86). -/
inductive Trigger where
  | position (mm : Nat)
  | scene (scene offset : Nat)
  deriving DecidableEq, Repr

/-- A cue (R86). -/
structure Cue where
  id : Nat
  trigger : Trigger
  runOnly : Bool
  actions : List Action
  deriving DecidableEq, Repr

/-- A clip directory entry (R117). -/
structure Clip where
  number : Nat
  start : Nat
  length : Nat
  loopStart : Option Nat
  deriving DecidableEq, Repr

/-- A table: load status, entries in load order, and the running CRC-16 of their bytes (R22 to R25). -/
structure Table (α : Type) where
  status : LoadStatus
  entries : List α
  crc : Word
  deriving DecidableEq, Repr

/-- A table that is INVALID and empty. -/
def Table.empty (α : Type) : Table α := ⟨.invalid, [], 0xFFFF⟩

/-- The four tables. The route length L is part of the route table (R26). -/
structure Tables where
  route : Table Segment
  routeLength : Nat
  markers : Table Marker
  cues : Table Cue
  clips : Table Clip
  deriving DecidableEq, Repr

/-! ## Blocks -/

/-- The show time and adjustment total captured at an address character (R107). -/
structure Capture where
  ms : Nat
  us : Nat
  residue : Nat
  adjustment : BitVec 64
  deriving DecidableEq, Repr

/-- A frame in reception (R171). -/
structure PartialFrame where
  address : Byte
  addressing : Addressing
  capture : Capture
  chars : List Byte
  deriving DecidableEq, Repr

/-- A complete frame in the request queue (R171, R174). -/
structure Frame where
  address : Byte
  addressing : Addressing
  capture : Capture
  source : Source
  tag : Byte
  kind : Byte
  args : List Byte
  deriving DecidableEq, Repr

/-- A formed response (R176). -/
structure Response where
  address : Byte
  tag : Byte
  kind : Byte
  status : Status
  data : List Byte
  deriving DecidableEq, Repr

/-- Wayside Link Interface (R171). -/
structure Wli where
  receiver : ReceiverState
  frame : Option PartialFrame
  queue : List Frame
  outgoing : List Response
  transmitting : Bool
  /-- Character times since the last character received (log 5). -/
  quiet : Nat
  rcSilence : Nat
  scSilence : Nat
  rcReported : Bool
  crcDiscards : Nat
  formatDiscards : Nat
  brokenFrames : Nat
  strayCharacters : Nat
  overruns : Nat
  groupDiscards : Nat
  /-- The link rate in force (R179, R185). -/
  linkRate : Fin 4
  /-- The RC timeout in force: a written one applies from the next local millisecond (R177, log 21). -/
  rcTimeout : Nat
  deriving DecidableEq, Repr

/-- What a DC record carries (R186). -/
structure DcRecord where
  cycle : Byte
  brake : Bool
  dcFault : Bool
  forward : Bool
  distance : Int
  speed : Nat
  guide : Int
  marker : Nat
  faultCode : Byte
  deriving DecidableEq, Repr

/-- The record returned to the DC in an exchange (R183). -/
structure DriveRecord where
  echo : Byte
  permit : PermitLevel
  speedCeiling : Nat
  ceilingAhead : Nat
  position : Nat
  y : Int
  deriving DecidableEq, Repr

/-- Drive Link Interface (R180). The drive-link-live flag of R154 is this one (log 30). -/
structure Dli where
  lastAccepted : Option DcRecord
  outgoing : Option DriveRecord
  /-- The exchange in progress began before a restart (R185, log 39). -/
  heldOver : Bool
  silence : Nat
  live : Bool
  badExchanges : Nat
  duplicates : Nat
  missedExchanges : Nat
  /-- The drive timeout in force (R184, log 21). -/
  driveTimeout : Nat
  deriving DecidableEq, Repr

/-- An advance that is present (R1): remaining distance in 0.1 mm, and the starting segment. -/
structure Advance where
  remaining : Int
  startSegment : Option Nat
  deriving DecidableEq, Repr

/-- A filled preface slot (R1, R20). -/
structure Preface where
  kind : Kind
  byte : Byte
  time : Nat
  deriving DecidableEq, Repr

/-- Mode Controller (R1). -/
structure ModeController where
  mode : Mode
  heldFrom : HeldFrom
  berthed : Bool
  berthReached : Bool
  advance : Option Advance
  rcSlot : Option Preface
  scSlot : Option Preface
  protectionFaults : Nat
  dispatchCount : Nat
  deriving DecidableEq, Repr

/-- Position Tracker, less its tables (R29). `p`, `highWater` and `lastCorrection` are in 0.1 mm. -/
structure Tracker where
  p : Nat
  position : PositionState
  segment : Option Nat
  highWater : Nat
  expected : Option Nat
  misses : Nat
  lastCorrection : Int
  unknownMarkers : Nat
  deriving DecidableEq, Repr

/-- Steering Computer (R43). Its DG0 input code is the input code of DG0 (R152, log 30). -/
structure Steering where
  state : SteeringState
  firstPending : Bool
  y : Int
  ePrev : Int
  guideLoss : Nat
  saturation : Nat
  reference : Nat
  guidePresent : Bool
  ampWait : Nat
  deriving DecidableEq, Repr

/-- Seat event latches (R68). -/
structure Latches where
  lockA : Bool
  lockB : Bool
  barDown : Bool
  enteredDisagree : Bool
  releaseDone : Bool
  releaseFailed : Bool
  solenoidFault : Bool
  deriving DecidableEq, Repr

/-- All seven latches clear. -/
def Latches.clear : Latches := ⟨false, false, false, false, false, false, false⟩

/-- One seat record (R62), less its release place, which the queue and the energised set give (log 30). -/
structure Seat where
  state : SeatState
  verifyElapsed : Nat
  disagreeElapsed : Nat
  pulseElapsed : Nat
  pulseTime : Nat
  latches : Latches
  deriving DecidableEq, Repr

/-- Restraint Monitor (R62). The energised set is listed in seat order. -/
structure Restraint where
  seats : Vector Seat 8
  summary : Bool
  queue : List (Fin 8)
  energised : List (Fin 8)
  deriving DecidableEq, Repr

/-- Position cursor (R85); AT names a cue by its place in the table. -/
inductive Cursor where
  | unplaced
  | at (index : Nat)
  | exhausted
  deriving DecidableEq, Repr

/-- Effect channel state (R85). -/
inductive Channel where
  | off
  | on
  | pulsing (remaining : Nat)
  deriving DecidableEq, Repr

/-- A notice (R102). -/
structure Notice where
  cue : Nat
  code : Byte
  showMs : Nat
  position : Nat
  dispatchCount : Nat
  deriving DecidableEq, Repr

/-- Cue Engine, less its table (R85). -/
structure CueEngine where
  cursor : Cursor
  scene : Nat
  timer : Nat
  sceneCursor : Option Nat
  channels : Vector Channel 12
  notices : List Notice
  lostNotices : Nat
  skippedCues : Nat
  skippedActions : Nat
  deriving DecidableEq, Repr

/-- Show Clock (R105). -/
structure ShowClock where
  ms : Nat
  us : Nat
  residue : Nat
  pending : Int
  state : ClockState
  age : Nat
  steps : Nat
  adjustment : BitVec 64
  deriving DecidableEq, Repr

/-- Start show time and unsynced flag of a timed voice (R119). -/
structure Timing where
  ms : Nat
  us : Nat
  unsynced : Bool
  deriving DecidableEq, Repr

/-- The record of a voice that is not IDLE (R119). -/
structure Voice where
  state : VoiceState
  clip : Nat
  position : Nat
  gain : Nat
  target : Nat
  ramp : Nat
  route : Route
  loopPoint : Option Nat
  /-- Present for the show voices V0 to V3. -/
  hold : Option HoldBehaviour
  timing : Option Timing
  deriving DecidableEq, Repr

/-- Sound Engine, less its clip directory (R115). An IDLE voice is `none`. -/
structure Sound where
  voices : Vector (Option Voice) 6
  duckLevel : Nat
  duckTarget : Nat
  duckRamp : Nat
  masterA : Nat
  masterB : Nat
  saturationA : Nat
  saturationB : Nat
  resyncs : Nat
  deriving DecidableEq, Repr

/-- What happened to the bytes of one erase block that no write has listed since (log 10 and 11). -/
inductive BlockMark where
  | erased
  /-- A hardware reset ended erase number `n`: each byte is old or erased. -/
  | torn (n : Nat)
  /-- Erase number `n` failed: the manual does not say what the bytes hold. -/
  | lost (n : Nat)
  deriving DecidableEq, Repr

/-- The clip region of the store: written bytes in canonical form, and what erases did to the others, newest first. -/
structure Memory where
  cells : List Host.Cell
  marks : List (Nat × BlockMark)
  deriving DecidableEq, Repr

/-- One table section of the settings image (R190). -/
inductive Section (α : Type) where
  | absent
  | present (count : Nat) (crc : Word) (entries : List α)
  /-- Marked present, with contents that do not fit their CRC. -/
  | broken
  deriving DecidableEq, Repr

/-- The settings image (R190). A configuration section that fails its CRC is `none`; its layout is not in the manual
(log 12). `routeLength` belongs to the route section. -/
structure Image where
  config : Option Params
  route : Section Segment
  routeLength : Nat
  markers : Section Marker
  cues : Section Cue
  clips : Section Clip
  deriving DecidableEq, Repr

/-- The store state, with the operation in flight and its elapsed local milliseconds (R189, R190). -/
inductive StoreActivity where
  | idle
  | writing (address : Nat) (data : List Byte) (elapsed : Nat)
  | erasing (block : Nat) (elapsed : Nat)
  | saving (copy : Image) (elapsed : Nat)
  | restoring
  deriving DecidableEq, Repr

/-- Store Controller and the external store behind it (R189). -/
structure Store where
  activity : StoreActivity
  errorFlag : Bool
  defaulted : Bool
  memory : Memory
  image : Image
  deriving DecidableEq, Repr

/-- Terminal Matrix, less the terminal map (R138). -/
structure Terminals where
  sampled : BitVec 40
  debounce : Vector Nat 27
  filtered : Vector Bool 27
  mismatch : Vector Nat 40
  /-- The last sample brought the debounce count to the interval and the change is not yet taken (log 22). -/
  changeDue : Vector Bool 27
  /-- The mismatch count reached 21 and the report is not yet taken (log 22). -/
  mismatchDue : Vector Bool 40
  deriving DecidableEq, Repr

/-- A density generator, less its precision and divider (R148). -/
structure Density where
  running : Bool
  accumulator : Nat
  code : Nat
  bit : Bool
  deriving DecidableEq, Repr

/-- A fault record (R165). -/
structure FaultRecord where
  kind : FaultKind
  sub : SubCause
  detail : Nat
  position : Nat
  showMs : Nat
  mode : Mode
  deriving DecidableEq, Repr

/-- Permit Unit (R154). The fault log pairs each record with its record number; the active fault set is listed in the
order of the fault codes. -/
structure PermitUnit where
  level : PermitLevel
  speedCeiling : Nat
  ceilingAhead : Nat
  rcLimit : Nat
  overspeed : Nat
  stationary : Bool
  standstill : Option Nat
  reportSpeed : Nat
  reportBrake : Bool
  reportFault : Bool
  reportCode : Byte
  active : List FaultKind
  first : Option FaultRecord
  log : List (Nat × FaultRecord)
  nextNumber : Nat
  deriving DecidableEq, Repr

/-- Where start-up stands (R191). -/
inductive StartPhase where
  | strap (samples : Nat)
  | config
  | table (table : TableId)
  | complete
  deriving DecidableEq, Repr

/-- Start-up (R191): where it stands, and the configuration it has chosen. -/
structure StartUp where
  phase : StartPhase
  chosen : Params
  deriving DecidableEq, Repr

/-! ## The state -/

/-- The state of the part, with the commands that wait, first in, first out. -/
structure State where
  localMs : Nat
  pending : List Instr
  startUp : StartUp
  params : Params
  tables : Tables
  wli : Wli
  dli : Dli
  mc : ModeController
  tracker : Tracker
  steering : Steering
  restraint : Restraint
  cues : CueEngine
  clock : ShowClock
  sound : Sound
  store : Store
  terminals : Terminals
  density : Vector Density 3
  permit : PermitUnit
  /-- Counts the operations whose outcome the manual leaves open (log 38). -/
  freeDraws : Nat
  deriving DecidableEq, Repr

/-! One update per block: `Laws/State.lean` says what each leaves alone. -/

def State.setLocalMs (s : State) (x : Nat) : State := { s with localMs := x }
def State.setPending (s : State) (x : List Instr) : State := { s with pending := x }
def State.setStartUp (s : State) (x : StartUp) : State := { s with startUp := x }
def State.setParams (s : State) (x : Params) : State := { s with params := x }
def State.setTables (s : State) (x : Tables) : State := { s with tables := x }
def State.setWli (s : State) (x : Wli) : State := { s with wli := x }
def State.setDli (s : State) (x : Dli) : State := { s with dli := x }
def State.setMc (s : State) (x : ModeController) : State := { s with mc := x }
def State.setTracker (s : State) (x : Tracker) : State := { s with tracker := x }
def State.setSteering (s : State) (x : Steering) : State := { s with steering := x }
def State.setRestraint (s : State) (x : Restraint) : State := { s with restraint := x }
def State.setCues (s : State) (x : CueEngine) : State := { s with cues := x }
def State.setClock (s : State) (x : ShowClock) : State := { s with clock := x }
def State.setSound (s : State) (x : Sound) : State := { s with sound := x }
def State.setStore (s : State) (x : Store) : State := { s with store := x }
def State.setTerminals (s : State) (x : Terminals) : State := { s with terminals := x }
def State.setDensity (s : State) (x : Vector Density 3) : State := { s with density := x }
def State.setPermit (s : State) (x : PermitUnit) : State := { s with permit := x }
def State.setFreeDraws (s : State) (x : Nat) : State := { s with freeDraws := x }

/-! ## Faults and refusals -/

/-- Why the model stops. The faults of R163 are not among these: taking one is a next state. -/
inductive Fault where
  /-- Raised by SAMPLE_CLOCK when a voice's next sample lies outside the 16 MiB store (R118); no clip directory entry
  allows it (R117). Safe: the model stops where the manual gives no sample. Log 31. -/
  | noStoreAddress (address : Nat)
  deriving DecidableEq, Repr

/-- Why a command has no meaning. -/
inductive Refusal where
  /-- Raised by exec's arms for a command that has no meaning yet. Safe: nothing is claimed of it. No arm raises it. -/
  | notModelled (mnemonic : String)
  deriving DecidableEq, Repr

/-! ## After a hardware reset -/

/-- A seat record after a reset (R62). -/
def Seat.afterReset : Seat := ⟨.disabled, 0, 0, 0, 2000, Latches.clear⟩

/-- A density generator after a reset (R148). -/
def Density.afterReset : Density := ⟨false, 0, 32768, false⟩

/-- The image region at `State.reset`: nothing was ever saved (DESIGN CHOICE, log 14). -/
def Image.blank : Image := ⟨none, .absent, 0, .absent, .absent, .absent⟩

/-- The part right after a hardware reset, with a store that nothing has written (R191; each block's reset rule). -/
def State.reset : State where
  localMs := 0
  pending := []
  startUp := ⟨.strap 0, Params.defaults⟩
  params := Params.afterReset
  tables := ⟨Table.empty _, 0, Table.empty _, Table.empty _, Table.empty _⟩
  wli :=
    { receiver := .hunting, frame := none, queue := [], outgoing := [], transmitting := false, quiet := 0,
      rcSilence := 0, scSilence := 0, rcReported := false, crcDiscards := 0, formatDiscards := 0, brokenFrames := 0,
      strayCharacters := 0, overruns := 0, groupDiscards := 0, linkRate := 1, rcTimeout := 500 }
  dli :=
    { lastAccepted := none, outgoing := none, heldOver := false, silence := 0, live := false, badExchanges := 0,
      duplicates := 0, missedExchanges := 0, driveTimeout := 50 }
  mc :=
    { mode := .offline, heldFrom := .none, berthed := false, berthReached := false, advance := none, rcSlot := none,
      scSlot := none, protectionFaults := 0, dispatchCount := 0 }
  tracker :=
    { p := 0, position := .unsync, segment := none, highWater := 0, expected := none, misses := 0, lastCorrection := 0,
      unknownMarkers := 0 }
  steering :=
    { state := .idle, firstPending := true, y := 0, ePrev := 0, guideLoss := 0, saturation := 0, reference := 0,
      guidePresent := false, ampWait := 0 }
  restraint := { seats := Vector.replicate 8 Seat.afterReset, summary := false, queue := [], energised := [] }
  cues :=
    { cursor := .unplaced, scene := 0, timer := 0, sceneCursor := none, channels := Vector.replicate 12 .off,
      notices := [], lostNotices := 0, skippedCues := 0, skippedActions := 0 }
  clock :=
    { ms := 0, us := 0, residue := 0, pending := 0, state := .free, age := 0, steps := 0, adjustment := 0 }
  sound :=
    { voices := Vector.replicate 6 none, duckLevel := 4096, duckTarget := 4096, duckRamp := 0, masterA := 4096,
      masterB := 4096, saturationA := 0, saturationB := 0, resyncs := 0 }
  store := { activity := .restoring, errorFlag := false, defaulted := false, memory := ⟨[], []⟩, image := Image.blank }
  terminals :=
    { sampled := 0, debounce := Vector.replicate 27 0, filtered := Vector.replicate 27 false,
      mismatch := Vector.replicate 40 0, changeDue := Vector.replicate 27 false,
      mismatchDue := Vector.replicate 40 false }
  density := Vector.replicate 3 Density.afterReset
  permit :=
    { level := .emergency, speedCeiling := 0, ceilingAhead := 0, rcLimit := 3000, overspeed := 0, stationary := false,
      standstill := none, reportSpeed := 0, reportBrake := false, reportFault := false, reportCode := 0, active := [],
      first := none, log := [], nextNumber := 0 }
  freeDraws := 0

end Sys2Proof.Machine
end

