-- ==== Sys2Proof/Machine/Bytes.lean ====
section
/-! DEFINITION. Byte order, signed fields, CRCs and the codes of enumerated fields (R186), and the integer arithmetic the
manual names (00, Arithmetic). -/

namespace Sys2Proof.Machine

/-! ## Fields, most significant byte first (R186) -/

/-- The value of a field of bytes. -/
def beNat (bytes : List Byte) : Nat := bytes.foldl (fun n b => n * 256 + b.toNat) 0

/-- The value of a signed field of bytes, two's complement. -/
def beInt (bytes : List Byte) : Int :=
  let n := beNat bytes
  if n < 256 ^ bytes.length / 2 then (n : Int) else (n : Int) - (256 ^ bytes.length : Nat)

def be1 (n : Nat) : List Byte := [BitVec.ofNat 8 n]
def be2 (n : Nat) : List Byte := [BitVec.ofNat 8 (n / 256), BitVec.ofNat 8 n]
def be3 (n : Nat) : List Byte := [BitVec.ofNat 8 (n / 65536), BitVec.ofNat 8 (n / 256), BitVec.ofNat 8 n]
def be4 (n : Nat) : List Byte :=
  [BitVec.ofNat 8 (n / 16777216), BitVec.ofNat 8 (n / 65536), BitVec.ofNat 8 (n / 256), BitVec.ofNat 8 n]

def beInt2 (i : Int) : List Byte := be2 (i.emod 65536).toNat
def beInt3 (i : Int) : List Byte := be3 (i.emod 16777216).toNat
def beInt4 (i : Int) : List Byte := be4 (i.emod 4294967296).toNat

/-- Flags gathered into a byte, the first in bit 0. -/
def bits (flags : List Bool) : Nat := flags.foldr (fun b n => b.toNat + 2 * n) 0

/-! ## CRCs (R186) -/

def crc16Bit (crc : Word) : Word := if crc.msb then (crc <<< 1) ^^^ 0x1021 else crc <<< 1

def crc16Byte (crc : Word) (b : Byte) : Word :=
  let c := crc ^^^ (b.zeroExtend 16 <<< 8)
  crc16Bit (crc16Bit (crc16Bit (crc16Bit (crc16Bit (crc16Bit (crc16Bit (crc16Bit c)))))))

/-- The CRC-16 carried on over further bytes: a table's running CRC (R24). -/
def crc16From (crc : Word) (bytes : List Byte) : Word := bytes.foldl crc16Byte crc

/-- Wayside CRC-16: polynomial 1021 hex, initial value FFFF hex, most significant bit first, no final inversion. -/
def crc16 (bytes : List Byte) : Word := crc16From 0xFFFF bytes

def crc8Bit (crc : Byte) : Byte := if crc.msb then (crc <<< 1) ^^^ 0x07 else crc <<< 1

def crc8Byte (crc : Byte) (b : Byte) : Byte :=
  crc8Bit (crc8Bit (crc8Bit (crc8Bit (crc8Bit (crc8Bit (crc8Bit (crc8Bit (crc ^^^ b))))))))

/-- Drive CRC-8: polynomial 07 hex, initial value 00, most significant bit first, no final inversion. -/
def crc8 (bytes : List Byte) : Byte := bytes.foldl crc8Byte 0

/-! ## Arithmetic (00, Arithmetic) -/

/-- A counter that stays at 65535 once it gets there. -/
def bump (n : Nat) : Nat := min (n + 1) 65535

/-- The nearest value in `lo..hi`. -/
def clampInt (lo hi i : Int) : Int := if i < lo then lo else if hi < i then hi else i

/-- A difference of route positions brought into the range greater than -L/2 and at most +L/2, for a route of `len`
(all in 0.1 mm; R30). -/
def shortest (len : Nat) (d : Int) : Int :=
  if len = 0 then d
  else
    let r := d % (len : Int)
    if 2 * r ≤ (len : Int) then r else r - len

/-! ## Codes of enumerated fields (R186) -/

def Mode.code : Mode → Nat
  | .offline => 0
  | .load => 1
  | .ready => 2
  | .run => 3
  | .hold => 4
  | .unload => 5
  | .halt => 6

def HeldFrom.code : HeldFrom → Nat
  | .none => 0
  | .run => 1
  | .unload => 2

def PermitLevel.code : PermitLevel → Nat
  | .emergency => 0
  | .stop => 1
  | .creep => 2
  | .run => 3

def SeatState.code : SeatState → Nat
  | .disabled => 0
  | .open => 1
  | .closing => 2
  | .locked => 3
  | .verified => 4
  | .disagree => 5
  | .releasing => 6
  | .bypassed => 7

def FaultKind.code : FaultKind → Nat
  | .restraintOpen => 1
  | .solenoid => 2
  | .position => 3
  | .guideLost => 4
  | .steerSaturated => 5
  | .ampNotReady => 6
  | .overspeed => 7
  | .driveLinkLost => 8
  | .driveReported => 9
  | .rcLinkLost => 10
  | .onboardStop => 11
  | .rcStop => 12

/-- The fault kinds in the order of their codes. -/
def FaultKind.all : List FaultKind :=
  [.restraintOpen, .solenoid, .position, .guideLost, .steerSaturated, .ampNotReady, .overspeed, .driveLinkLost,
    .driveReported, .rcLinkLost, .onboardStop, .rcStop]

def SubCause.code : SubCause → Nat
  | .none => 0
  | .discrepancy => 1
  | .order => 2
  | .missed => 3
  | .rollback => 4

def StoreActivity.code : StoreActivity → Nat
  | .idle => 0
  | .writing .. => 1
  | .erasing .. => 2
  | .saving .. => 3
  | .restoring => 4

def ClockState.code : ClockState → Nat
  | .free => 0
  | .slewing => 1
  | .locked => 2

/-- Voice state; IDLE is the absent record. -/
def voiceCode : Option Voice → Nat
  | none => 0
  | some v =>
    match v.state with
    | .waiting => 1
    | .playing => 2
    | .paused => 3
    | .stopping => 4

def LoadStatus.code : LoadStatus → Nat
  | .invalid => 0
  | .loading => 1
  | .valid => 2

def Status.code : Status → Nat
  | .done => 0
  | .clamped => 1
  | .authority => 2
  | .mode => 3
  | .argument => 4
  | .preface => 5
  | .busy => 6
  | .order => 7
  | .full => 8
  | .cause => 9
  | .pending => 10
  | .unknown => 11
  | .starting => 12

def Zone.code : Zone → Nat
  | .none => 0
  | .load => 1
  | .unload => 2

def Zone.ofCode : Nat → Option Zone
  | 0 => some .none
  | 1 => some .load
  | 2 => some .unload
  | _ => none

def HoldBehaviour.code : HoldBehaviour → Nat
  | .continue => 0
  | .pause => 1
  | .fade => 2

def HoldBehaviour.ofCode : Nat → Option HoldBehaviour
  | 0 => some .continue
  | 1 => some .pause
  | 2 => some .fade
  | _ => none

def Route.code : Route → Nat
  | .a => 0
  | .b => 1
  | .both => 2

def Route.ofCode : Nat → Option Route
  | 0 => some .a
  | 1 => some .b
  | 2 => some .both
  | _ => none

def EdgeSense.code : EdgeSense → Nat
  | .none => 0
  | .rising => 1
  | .falling => 2
  | .both => 3

def EdgeSense.ofCode : Nat → Option EdgeSense
  | 0 => some .none
  | 1 => some .rising
  | 2 => some .falling
  | 3 => some .both
  | _ => none

def Source.code : Source → Nat
  | .rc => 1
  | .sc => 2

def Source.ofCode : Nat → Option Source
  | 1 => some .rc
  | 2 => some .sc
  | _ => none

def TableId.code : TableId → Nat
  | .route => 1
  | .marker => 2
  | .cue => 3
  | .clip => 4

def TableId.ofCode : Nat → Option TableId
  | 1 => some .route
  | 2 => some .marker
  | 3 => some .cue
  | 4 => some .clip
  | _ => none

/-- Request kind codes (R186). -/
def Kind.code : Kind → Nat
  | .status => 0x01
  | .goOnline => 0x02
  | .goOffline => 0x03
  | .dispatch => 0x04
  | .hold => 0x05
  | .resume => 0x06
  | .advance => 0x07
  | .stopNow => 0x08
  | .recover => 0x09
  | .release => 0x0A
  | .bypass => 0x0B
  | .restore => 0x0C
  | .clearSeatEvents => 0x0D
  | .setSpeedLimit => 0x0E
  | .announce => 0x0F
  | .readFaultLog => 0x10
  | .setParam => 0x11
  | .getParam => 0x12
  | .save => 0x13
  | .restart => 0x14
  | .preface => 0x15
  | .tableBegin => 0x20
  | .tableEntry => 0x21
  | .tableEnd => 0x22
  | .showStatus => 0x40
  | .notices => 0x41
  | .storeWrite => 0x42
  | .storeErase => 0x43
  | .storeRead => 0x44
  | .sync => 0x45
  | .voiceStart => 0x46
  | .voiceStop => 0x47
  | .voiceGain => 0x48
  | .masterVolume => 0x49

/-- Every request kind. -/
def Kind.all : List Kind :=
  [.status, .goOnline, .goOffline, .dispatch, .hold, .resume, .advance, .stopNow, .recover, .release, .bypass, .restore,
    .clearSeatEvents, .setSpeedLimit, .announce, .readFaultLog, .setParam, .getParam, .save, .restart, .preface,
    .tableBegin, .tableEntry, .tableEnd, .showStatus, .notices, .storeWrite, .storeErase, .storeRead, .sync, .voiceStart,
    .voiceStop, .voiceGain, .masterVolume]

/-- The request kind that a kind code names, if it names one. -/
def Kind.ofCode (code : Byte) : Option Kind := Kind.all.find? (fun k => k.code == code.toNat)

def OutputSelection.code : OutputSelection → Nat
  | .input => 0
  | .effect c => 1 + c
  | .release s => 13 + s
  | .permitLamp => 21
  | .haltLamp => 22
  | .density g => 23 + g

def OutputSelection.ofCode (n : Nat) : Option OutputSelection :=
  if n = 0 then some .input
  else if h : n - 1 < 12 then some (.effect ⟨n - 1, h⟩)
  else if h : n - 13 < 8 then some (.release ⟨n - 13, h⟩)
  else if n = 21 then some .permitLamp
  else if n = 22 then some .haltLamp
  else if h : n - 23 < 3 then some (.density ⟨n - 23, h⟩)
  else none

end Sys2Proof.Machine
end

