-- ==== Sys2Proof/Machine/Params.lean ====
section
/-! DEFINITION. The parameter list of R187: numbers, ranges, the modes in which SET_PARAM is taken, reading and writing. -/

namespace Sys2Proof.Machine

/-- A parameter or read-only item of R187. -/
inductive ParamId where
  | rollbackLimit
  | kp (i : Fin 4)
  | kd (i : Fin 4)
  | steerLimit
  | slewRate
  | guideLossLimit
  | saturationLimit
  | seatMask
  | verifyTime
  | disagreementTime
  | releasePulseTime
  | edgeSense (i : Fin 3)
  | stepThreshold
  | lockTolerance
  | holdClip
  | holdGain
  | holdFade
  | duckLevel
  | duckRamp
  | resyncTolerance
  | cueRoute (i : Fin 4)
  | creepCeiling
  | lookahead
  | overspeedTolerance
  | rcTimeout
  | driveTimeout
  | vehicleAddress
  | group (i : Fin 4)
  | linkRate
  | debounceTime
  | dgPrecision (i : Fin 3)
  | dgDivider (i : Fin 3)
  | output (i : Fin 40)
  | source (i : Fin 27)
  | activeLevel (i : Fin 27)
  | filteredLevels
  | sampledLow
  | sampledHigh
  deriving DecidableEq, Repr

/-- The index of `n` in a run of `k` parameter numbers that starts at `base`. -/
def runIndex (base k n : Nat) : Option (Fin k) := if h : base ≤ n ∧ n - base < k then some ⟨n - base, h.2⟩ else none

/-- The first answer of a list of alternatives. -/
def firstSome {α : Type} : List (Option α) → Option α
  | [] => none
  | some a :: _ => some a
  | none :: rest => firstSome rest

/-- The parameter that a number names (R187). -/
def ParamId.ofNumber (n : Nat) : Option ParamId :=
  match n with
  | 0x0001 => some .rollbackLimit
  | 0x0018 => some .steerLimit
  | 0x0019 => some .slewRate
  | 0x001A => some .guideLossLimit
  | 0x001B => some .saturationLimit
  | 0x0020 => some .seatMask
  | 0x0021 => some .verifyTime
  | 0x0022 => some .disagreementTime
  | 0x0023 => some .releasePulseTime
  | 0x0030 => some .stepThreshold
  | 0x0031 => some .lockTolerance
  | 0x0040 => some .holdClip
  | 0x0041 => some .holdGain
  | 0x0042 => some .holdFade
  | 0x0043 => some .duckLevel
  | 0x0044 => some .duckRamp
  | 0x0045 => some .resyncTolerance
  | 0x0050 => some .creepCeiling
  | 0x0051 => some .lookahead
  | 0x0052 => some .overspeedTolerance
  | 0x0060 => some .rcTimeout
  | 0x0061 => some .driveTimeout
  | 0x0062 => some .vehicleAddress
  | 0x0067 => some .linkRate
  | 0x0070 => some .debounceTime
  | 0x0400 => some .filteredLevels
  | 0x0401 => some .sampledLow
  | 0x0402 => some .sampledHigh
  | n =>
    firstSome
      [(runIndex 0x0010 4 n).map .kp, (runIndex 0x0014 4 n).map .kd, (runIndex 0x0024 3 n).map .edgeSense,
        (runIndex 0x0046 4 n).map .cueRoute, (runIndex 0x0063 4 n).map .group, (runIndex 0x0071 3 n).map .dgPrecision,
        (runIndex 0x0074 3 n).map .dgDivider, (runIndex 0x0100 40 n).map .output, (runIndex 0x0200 27 n).map .source,
        (runIndex 0x0300 27 n).map .activeLevel]

/-- The items that SET_PARAM refuses ARGUMENT (R138). -/
def ParamId.readOnly : ParamId → Bool
  | .filteredLevels | .sampledLow | .sampledHigh => true
  | _ => false

/-- The parameters that SET_PARAM writes in any mode (R187, "Changed in"); the others only in OFFLINE. -/
def ParamId.anyMode : ParamId → Bool
  | .releasePulseTime | .edgeSense _ | .stepThreshold | .lockTolerance | .holdClip | .holdGain | .holdFade | .duckLevel
  | .duckRamp | .resyncTolerance | .cueRoute _ | .rcTimeout | .driveTimeout => true
  | _ => false

/-- Minimum and maximum of a numeric parameter (R187); an enumerated one has none. -/
def ParamId.range : ParamId → Option (Int × Int)
  | .rollbackLimit => some (0, 500)
  | .kp _ => some (0, 4095)
  | .kd _ => some (0, 4095)
  | .steerLimit => some (1000, 10000)
  | .slewRate => some (1, 200)
  | .guideLossLimit => some (0, 2000)
  | .saturationLimit => some (1, 255)
  | .seatMask => some (0, 255)
  | .verifyTime => some (100, 2000)
  | .disagreementTime => some (50, 1000)
  | .releasePulseTime => some (500, 5000)
  | .stepThreshold => some (1, 1000)
  | .lockTolerance => some (10, 1000)
  | .holdClip => some (0, 128)
  | .holdGain => some (0, 8191)
  | .holdFade => some (0, 5000)
  | .duckLevel => some (0, 4096)
  | .duckRamp => some (0, 2000)
  | .resyncTolerance => some (0, 3200)
  | .creepCeiling => some (50, 500)
  | .lookahead => some (0, 5000)
  | .overspeedTolerance => some (50, 500)
  | .rcTimeout => some (200, 2000)
  | .driveTimeout => some (20, 200)
  | .vehicleAddress => some (1, 239)
  | .group _ => some (0, 14)
  | .debounceTime => some (2, 50)
  | .dgPrecision _ => some (9, 16)
  | .dgDivider _ => some (1, 65535)
  | .edgeSense _ | .cueRoute _ | .linkRate | .output _ | .source _ | .activeLevel _ => none
  | .filteredLevels | .sampledLow | .sampledHigh => none

/-- A non-negative enumerated value, for the code tables. -/
def codeOf (v : Int) : Option Nat := if 0 ≤ v then some v.toNat else none

/-- The configuration with one parameter written; none when an enumerated value names nothing, or a DENSITY selection
falls outside T32-T39 (R140, R188). A numeric value is given already clamped. -/
def Params.assign (p : Params) (id : ParamId) (v : Int) : Option Params :=
  let n := v.toNat
  match id with
  | .rollbackLimit => some { p with rollbackLimit := n }
  | .kp i => some { p with kp := p.kp.set i n }
  | .kd i => some { p with kd := p.kd.set i n }
  | .steerLimit => some { p with steerLimit := n }
  | .slewRate => some { p with slewRate := n }
  | .guideLossLimit => some { p with guideLossLimit := n }
  | .saturationLimit => some { p with saturationLimit := n }
  | .seatMask => some { p with seatMask := BitVec.ofNat 8 n }
  | .verifyTime => some { p with verifyTime := n }
  | .disagreementTime => some { p with disagreementTime := n }
  | .releasePulseTime => some { p with releasePulseTime := n }
  | .edgeSense i => ((codeOf v).bind EdgeSense.ofCode).map fun e => { p with edgeSense := p.edgeSense.set i e }
  | .stepThreshold => some { p with stepThreshold := n }
  | .lockTolerance => some { p with lockTolerance := n }
  | .holdClip => some { p with holdClip := n }
  | .holdGain => some { p with holdGain := n }
  | .holdFade => some { p with holdFade := n }
  | .duckLevel => some { p with duckLevel := n }
  | .duckRamp => some { p with duckRamp := n }
  | .resyncTolerance => some { p with resyncTolerance := n }
  | .cueRoute i => ((codeOf v).bind Route.ofCode).map fun r => { p with cueRoute := p.cueRoute.set i r }
  | .creepCeiling => some { p with creepCeiling := n }
  | .lookahead => some { p with lookahead := n }
  | .overspeedTolerance => some { p with overspeedTolerance := n }
  | .rcTimeout => some { p with rcTimeout := n }
  | .driveTimeout => some { p with driveTimeout := n }
  | .vehicleAddress => some { p with vehicleAddress := n }
  | .group i => some { p with groups := p.groups.set i n }
  | .linkRate => ((codeOf v).bind (runIndex 0 4)).map fun r => { p with linkRate := r }
  | .debounceTime => some { p with debounceTime := n }
  | .dgPrecision i => some { p with dgPrecision := p.dgPrecision.set i n }
  | .dgDivider i => some { p with dgDivider := p.dgDivider.set i n }
  | .output i =>
    ((codeOf v).bind OutputSelection.ofCode).bind fun o =>
      match o with
      | .density _ => if 32 ≤ i.val then some { p with outputs := p.outputs.set i o } else none
      | _ => some { p with outputs := p.outputs.set i o }
  | .source i =>
    if v = -1 then some { p with sources := p.sources.set i none }
    else ((codeOf v).bind (runIndex 0 40)).map fun t => { p with sources := p.sources.set i (some t) }
  | .activeLevel i =>
    if v = 0 then some { p with activeHigh := p.activeHigh.set i false }
    else if v = 1 then some { p with activeHigh := p.activeHigh.set i true }
    else none
  | .filteredLevels | .sampledLow | .sampledHigh => none

/-- The value of a parameter in the working configuration (R188). The read-only items are levels, which
`readOnlyValue` gives. -/
def Params.value (p : Params) : ParamId → Int
  | .rollbackLimit => p.rollbackLimit
  | .kp i => p.kp[i]
  | .kd i => p.kd[i]
  | .steerLimit => p.steerLimit
  | .slewRate => p.slewRate
  | .guideLossLimit => p.guideLossLimit
  | .saturationLimit => p.saturationLimit
  | .seatMask => p.seatMask.toNat
  | .verifyTime => p.verifyTime
  | .disagreementTime => p.disagreementTime
  | .releasePulseTime => p.releasePulseTime
  | .edgeSense i => (p.edgeSense[i]).code
  | .stepThreshold => p.stepThreshold
  | .lockTolerance => p.lockTolerance
  | .holdClip => p.holdClip
  | .holdGain => p.holdGain
  | .holdFade => p.holdFade
  | .duckLevel => p.duckLevel
  | .duckRamp => p.duckRamp
  | .resyncTolerance => p.resyncTolerance
  | .cueRoute i => (p.cueRoute[i]).code
  | .creepCeiling => p.creepCeiling
  | .lookahead => p.lookahead
  | .overspeedTolerance => p.overspeedTolerance
  | .rcTimeout => p.rcTimeout
  | .driveTimeout => p.driveTimeout
  | .vehicleAddress => p.vehicleAddress
  | .group i => p.groups[i]
  | .linkRate => (p.linkRate.val : Int)
  | .debounceTime => p.debounceTime
  | .dgPrecision i => p.dgPrecision[i]
  | .dgDivider i => p.dgDivider[i]
  | .output i => (p.outputs[i]).code
  | .source i =>
    match p.sources[i] with
    | none => -1
    | some t => (t.val : Int)
  | .activeLevel i => if p.activeHigh[i] then 1 else 0
  | .filteredLevels | .sampledLow | .sampledHigh => 0

/-- The levels that a read-only item holds, one bit each (R186). -/
def readOnlyValue (t : Terminals) : ParamId → Int
  | .filteredLevels => (bits t.filtered.toList : Nat)
  | .sampledLow => (t.sampled.toNat % 4294967296 : Nat)
  | .sampledHigh => (t.sampled.toNat / 4294967296 : Nat)
  | _ => 0

/-- A numeric value brought into its range, with a note of whether it was clamped; an enumerated one as it is (R188). -/
def ParamId.applied (id : ParamId) (v : Int) : Int × Bool :=
  match id.range with
  | some (lo, hi) => (clampInt lo hi v, decide (clampInt lo hi v ≠ v))
  | none => (v, false)

end Sys2Proof.Machine
end

