-- ==== Sys2Proof/Machine/Operands.lean ====
section
/-! DEFINITION. The operand forms: table entries read from and written as bytes (R186), with the ranges that R26, R27, R86,
R87 and R117 give, and the start modes of VOICE_START (R123). -/

namespace Sys2Proof.Machine

/-! ## Route segment, 10 bytes (R26) -/

def Segment.bytes (g : Segment) : List Byte :=
  be3 g.start ++ beInt2 g.feedforward ++ be2 g.ceiling ++ be1 g.zone.code ++ be1 g.scene ++ be1 g.gainSet.val

/-- Every field lies in its range; a start of the route length or more does not (R26). -/
def Segment.inRange (routeLength : Nat) (g : Segment) : Bool :=
  decide (g.start < routeLength) && decide (-10000 ≤ g.feedforward) && decide (g.feedforward ≤ 10000) &&
    decide (g.ceiling ≤ 3000) && decide (g.scene ≤ 63)

def Segment.parse (routeLength : Nat) : List Byte → Option Segment
  | [s2, s1, s0, f1, f0, c1, c0, z, sc, g] =>
    (Zone.ofCode z.toNat).bind fun zone =>
      (runIndex 0 4 g.toNat).bind fun gainSet =>
        let entry : Segment :=
          ⟨beNat [s2, s1, s0], beInt [f1, f0], beNat [c1, c0], zone, beNat [sc], gainSet⟩
        if entry.inRange routeLength then some entry else none
  | _ => none

/-! ## Marker, 7 bytes (R27) -/

def Marker.bytes (m : Marker) : List Byte := be2 m.id ++ be3 m.position ++ be2 m.window

def Marker.inRange (m : Marker) : Bool :=
  decide (1 ≤ m.id) && decide (m.id ≤ 1023) && decide (m.position ≤ 1999999) && decide (50 ≤ m.window) &&
    decide (m.window ≤ 2000)

def Marker.parse : List Byte → Option Marker
  | [i1, i0, p2, p1, p0, w1, w0] =>
    let entry : Marker := ⟨beNat [i1, i0], beNat [p2, p1, p0], beNat [w1, w0]⟩
    if entry.inRange then some entry else none
  | _ => none

/-! ## Clip, 8 or 11 bytes (R117) -/

/-- Samples of the clip region (7.2). -/
def clipRegionSamples : Nat := 8257536

def Clip.bytes (c : Clip) : List Byte :=
  be1 c.number ++ be3 c.start ++ be3 c.length ++
    match c.loopStart with
    | none => be1 0
    | some l => be1 1 ++ be3 l

def Clip.inRange (c : Clip) : Bool :=
  decide (1 ≤ c.number) && decide (c.number ≤ 128) && decide (1 ≤ c.length) &&
    decide (c.start + c.length ≤ clipRegionSamples) &&
    match c.loopStart with
    | none => true
    | some l => decide (l < c.length)

def Clip.parse : List Byte → Option Clip
  | [n, s2, s1, s0, l2, l1, l0, flag] =>
    let entry : Clip := ⟨beNat [n], beNat [s2, s1, s0], beNat [l2, l1, l0], none⟩
    if flag = 0 ∧ entry.inRange then some entry else none
  | [n, s2, s1, s0, l2, l1, l0, flag, p2, p1, p0] =>
    let entry : Clip := ⟨beNat [n], beNat [s2, s1, s0], beNat [l2, l1, l0], some (beNat [p2, p1, p0])⟩
    if flag = 1 ∧ entry.inRange then some entry else none
  | _ => none

/-! ## Cue action, 2 to 9 bytes (R87) -/

def Action.bytes : Action → List Byte
  | .startVoice v clip gain hold start =>
    be1 1 ++ be1 v.val ++ be1 clip ++ be2 gain ++ be1 hold.code ++
      match start with
      | .now => be1 0
      | .grid period => be1 1 ++ be2 period
  | .stopVoice v fade => be1 2 ++ be1 v.val ++ be2 fade
  | .setGain v target ramp => be1 3 ++ be1 v.val ++ be2 target ++ be2 ramp
  | .effect c op =>
    be1 4 ++ be1 c.val ++
      match op with
      | .on => be1 0
      | .off => be1 1
      | .pulse time => be1 2 ++ be2 time
  | .notify code => be1 5 ++ [code]

def CueStart.inRange : CueStart → Bool
  | .now => true
  | .grid period => decide (100 ≤ period) && decide (period ≤ 10000)

def EffectOp.inRange : EffectOp → Bool
  | .on | .off => true
  | .pulse time => decide (10 ≤ time) && decide (time ≤ 10000)

def Action.inRange : Action → Bool
  | .startVoice _ clip gain _ start =>
    decide (1 ≤ clip) && decide (clip ≤ 128) && decide (gain ≤ 8191) && start.inRange
  | .stopVoice _ fade => decide (fade ≤ 5000)
  | .setGain _ target ramp => decide (target ≤ 8191) && decide (ramp ≤ 10000)
  | .effect _ op => op.inRange
  | .notify _ => true

/-- The start mode of a cue's START_VOICE and the bytes after it; AT is no start mode of a cue (R87). -/
def CueStart.parse : List Byte → Option (CueStart × List Byte)
  | m :: rest =>
    if m = 0 then some (.now, rest)
    else if m = 1 then
      match rest with
      | p1 :: p0 :: rest => some (.grid (beNat [p1, p0]), rest)
      | _ => none
    else none
  | [] => none

def EffectOp.parse : List Byte → Option (EffectOp × List Byte)
  | m :: rest =>
    if m = 0 then some (.on, rest)
    else if m = 1 then some (.off, rest)
    else if m = 2 then
      match rest with
      | t1 :: t0 :: rest => some (.pulse (beNat [t1, t0]), rest)
      | _ => none
    else none
  | [] => none

/-- The fields of the action of one kind, and the bytes after them. -/
def Action.parseKind (kind : Byte) (bytes : List Byte) : Option (Action × List Byte) :=
  if kind = 1 then
    match bytes with
    | v :: clip :: g1 :: g0 :: h :: rest =>
      (runIndex 0 4 v.toNat).bind fun voice =>
        (HoldBehaviour.ofCode h.toNat).bind fun hold =>
          (CueStart.parse rest).map fun (start, rest) =>
            (.startVoice voice (beNat [clip]) (beNat [g1, g0]) hold start, rest)
    | _ => none
  else if kind = 2 then
    match bytes with
    | v :: f1 :: f0 :: rest => (runIndex 0 4 v.toNat).map fun voice => (.stopVoice voice (beNat [f1, f0]), rest)
    | _ => none
  else if kind = 3 then
    match bytes with
    | v :: t1 :: t0 :: r1 :: r0 :: rest =>
      (runIndex 0 4 v.toNat).map fun voice => (.setGain voice (beNat [t1, t0]) (beNat [r1, r0]), rest)
    | _ => none
  else if kind = 4 then
    match bytes with
    | c :: rest =>
      (runIndex 0 12 c.toNat).bind fun channel =>
        (EffectOp.parse rest).map fun (op, rest) => (.effect channel op, rest)
    | _ => none
  else if kind = 5 then
    match bytes with
    | code :: rest => some (.notify code, rest)
    | _ => none
  else none

def Action.parse : List Byte → Option (Action × List Byte)
  | kind :: rest =>
    (Action.parseKind kind rest).bind fun (a, rest) => if a.inRange then some (a, rest) else none
  | [] => none

/-- `n` actions that take up all the bytes. -/
def parseActions : Nat → List Byte → Option (List Action)
  | 0, bytes => if bytes = [] then some [] else none
  | n + 1, bytes =>
    (Action.parse bytes).bind fun (a, rest) => (parseActions n rest).map fun as => a :: as

/-! ## Cue (R86). RUN_ONLY is read as 1 for yes and 0 for no (DEDUCED, log 42). -/

def Trigger.bytes : Trigger → List Byte
  | .position mm => be1 0 ++ be3 mm
  | .scene n offset => be1 1 ++ be1 n ++ be3 offset

def Cue.bytes (c : Cue) : List Byte :=
  be2 c.id ++ c.trigger.bytes ++ be1 c.runOnly.toNat ++ be1 c.actions.length ++ c.actions.flatMap Action.bytes

def Trigger.inRange : Trigger → Bool
  | .position mm => decide (mm ≤ 1999999)
  | .scene n offset => decide (1 ≤ n) && decide (n ≤ 63) && decide (offset ≤ 600000)

def Cue.inRange (c : Cue) : Bool :=
  decide (1 ≤ c.id) && decide (c.id ≤ 65535) && c.trigger.inRange && decide (1 ≤ c.actions.length) &&
    decide (c.actions.length ≤ 4) && c.actions.all Action.inRange

def Trigger.parse : List Byte → Option (Trigger × List Byte)
  | k :: a :: b :: c :: rest =>
    if k = 0 then some (.position (beNat [a, b, c]), rest)
    else if k = 1 then
      match rest with
      | d :: rest => some (.scene (beNat [a]) (beNat [b, c, d]), rest)
      | [] => none
    else none
  | _ => none

/-- RUN_ONLY as it is coded. -/
def parseFlag (b : Byte) : Option Bool := if b = 0 then some false else if b = 1 then some true else none

def Cue.parse : List Byte → Option Cue
  | i1 :: i0 :: rest =>
    (Trigger.parse rest).bind fun (trigger, rest) =>
      match rest with
      | flag :: count :: rest =>
        (parseFlag flag).bind fun runOnly =>
          (parseActions count.toNat rest).bind fun actions =>
            let entry : Cue := ⟨beNat [i1, i0], trigger, runOnly, actions⟩
            if entry.inRange then some entry else none
      | _ => none
  | _ => none

/-- The action count that a cue entry's header gives; 0 where the bytes do not reach it (log 25). -/
def Cue.actionCount (bytes : List Byte) : Nat :=
  match (Trigger.parse (bytes.drop 2)).bind fun (_, rest) => rest[1]? with
  | some count => count.toNat
  | none => 0

/-- A cue's key is below another's (R86): position cues by position, then scene cues by scene and offset. -/
def Trigger.below : Trigger → Trigger → Bool
  | .position a, .position b => decide (a < b)
  | .position _, .scene .. => true
  | .scene .., .position _ => false
  | .scene s a, .scene t b => decide (s < t) || (decide (s = t) && decide (a < b))

/-! ## Start mode of VOICE_START (R123) -/

inductive VoiceStartMode where
  | now
  | grid (period : Nat)
  | at (ms us : Nat)
  deriving DecidableEq, Repr

def VoiceStartMode.parse : List Byte → Option VoiceStartMode
  | [m] => if m = 0 then some .now else none
  | [m, p1, p0] => if m = 1 then some (.grid (beNat [p1, p0])) else none
  | [m, t3, t2, t1, t0, u1, u0] => if m = 2 then some (.at (beNat [t3, t2, t1, t0]) (beNat [u1, u0])) else none
  | _ => none

/-- The arguments of VOICE_START: voice, clip, gain, route, hold behaviour, start mode (R186). -/
structure VoiceStartArgs where
  voice : Fin 4
  clip : Nat
  gain : Nat
  route : Route
  hold : HoldBehaviour
  start : VoiceStartMode
  deriving DecidableEq, Repr

def VoiceStartArgs.parse : List Byte → Option VoiceStartArgs
  | v :: c :: g1 :: g0 :: r :: h :: rest =>
    (runIndex 0 4 v.toNat).bind fun voice =>
      (Route.ofCode r.toNat).bind fun route =>
        (HoldBehaviour.ofCode h.toNat).bind fun hold =>
          (VoiceStartMode.parse rest).map fun start => ⟨voice, beNat [c], beNat [g1, g0], route, hold, start⟩
  | _ => none

end Sys2Proof.Machine
end

