-- ==== Sys2Proof/Machine/Clock.lean ====
section
/-! DEFINITION. The Show Clock's operations: advance, capture, offset, step and slew, grid instants (06). -/

namespace Sys2Proof.Machine

/-- 2^32 ms, in ns. -/
def clockWrapNs : Nat := 4294967296000000

/-- Show time as a count of ns. -/
def ShowClock.totalNs (c : ShowClock) : Nat := c.ms * 1000000 + c.us * 1000 + c.residue

/-- Show time moved by `d` ns, carrying through residue, us and ms, with the ms wrapping modulo 2^32 (R106, R110). -/
def ShowClock.addNs (c : ShowClock) (d : Int) : ShowClock :=
  let t := (((c.totalNs : Int) + d) % (clockWrapNs : Int)).toNat
  { c with ms := t / 1000000, us := t / 1000 % 1000, residue := t % 1000 }

/-- The slew adjustment of an advance, in us: the sign of the pending correction (R106). -/
def slewStep (pending : Int) : Int := if 0 < pending then 1 else if pending < 0 then -1 else 0

/-- One local millisecond; the clock is FREE from the event in which the sync age reaches 5000 (R106, R111). -/
def ShowClock.advance (c : ShowClock) : ShowClock :=
  let g := slewStep c.pending
  { c.addNs (1000000 + 1000 * g) with
    pending := c.pending - g
    adjustment := c.adjustment + BitVec.ofInt 64 (1000 * g)
    age := min (c.age + 1) 5000
    state := if 5000 ≤ c.age + 1 then .free else c.state }

/-- The last local millisecond of the sync age, taken by itself (R111, log 48). -/
def ShowClock.expire (c : ShowClock) : ShowClock := { c with age := 5000, state := .free }

/-- The capture at an address character, `periods` oscillator periods after the last local millisecond (R107). -/
def ShowClock.capture (c : ShowClock) (periods : Nat) : Capture :=
  let t := c.addNs (periods * 1000000 / 24000 : Nat)
  { ms := t.ms, us := t.us, residue := t.residue, adjustment := c.adjustment }

/-- A difference of millisecond counts brought into -2^31..2^31 - 1 (R109, R124). -/
def msDifference (a b : Nat) : Int := Int.bmod ((a : Int) - b) 4294967296

/-- D of R109, in ns. -/
def ShowClock.offsetNs (c : ShowClock) (k : Capture) (ms us : Nat) : Int :=
  msDifference ms k.ms * 1000000 + us * 1000 - k.us * 1000 - k.residue - (c.adjustment - k.adjustment).toInt

/-- A sync moves show time at once (R110). -/
def syncSteps (p : Params) (d : Int) : Bool := decide ((p.stepThreshold : Int) * 1000 < |d.tdiv 1000|)

/-- The clock after a sync whose offset is `d` ns (R110, R111). -/
def ShowClock.sync (c : ShowClock) (p : Params) (d : Int) : ShowClock :=
  let o := d.tdiv 1000
  let moved : ShowClock :=
    if syncSteps p d then
      { c.addNs d with pending := 0, steps := bump c.steps, adjustment := c.adjustment + BitVec.ofInt 64 d }
    else { c with pending := o }
  { moved with state := if |o| ≤ (p.lockTolerance : Int) then .locked else .slewing, age := 0 }

/-- The next grid instant for a period, in ms (R113). -/
def ShowClock.nextGrid (c : ShowClock) (period : Nat) : Nat :=
  let t := (c.ms / period + 1) * period
  if 4294967296 ≤ t then t - 4294967296 else t

/-- Time elapsed from a show time to show time as it stands, in us, without the residue (R124). -/
def ShowClock.elapsedUs (c : ShowClock) (ms us : Nat) : Int := msDifference c.ms ms * 1000 + ((c.us : Int) - us)

end Sys2Proof.Machine
end

