-- ==== Sys2Proof/Machine/Flags.lean ====
section
/-! DEFINITION. The conditions the blocks read from the state: modes, seats, READY, release, permit terms, timers. -/

namespace Sys2Proof.Machine

/-! ## Modes -/

/-- The vehicle is online in every mode but OFFLINE (00, Online and offline). -/
def Mode.online (m : Mode) : Bool := m != .offline

/-- Start-up runs until it completes (R191). -/
def startingUp (s : State) : Bool := s.startUp.phase != .complete

def routeValid (s : State) : Bool := s.tables.route.status == .valid

/-- The entries of a table as the blocks use it: none unless VALID (R22). -/
def Table.inUse {α : Type} (t : Table α) : List α := if t.status = .valid then t.entries else []

/-- Route length in 0.1 mm. -/
def routeLen (s : State) : Nat := 10 * s.tables.routeLength

/-! ## Logical inputs, in the numbering of R187 -/

/-- LOCK_A (0), LOCK_B (1) and BAR_DOWN (2) of a seat. -/
def seatInput (seat : Fin 8) (k : Fin 3) : Fin 27 := ⟨3 * seat + k, by omega⟩

def ampReadyInput : Fin 27 := 24
def onboardStopInput : Fin 27 := 25
def strapInput : Fin 27 := 26

def ampReady (s : State) : Bool := s.terminals.filtered[ampReadyInput]
def onboardStop (s : State) : Bool := s.terminals.filtered[onboardStopInput]

/-- The conditioned level of a logical input (R142). -/
def conditioned (p : Params) (sampled : BitVec 40) (input : Fin 27) : Bool :=
  match p.sources[input] with
  | none => false
  | some t => sampled.getLsbD t.val == p.activeHigh[input]

/-- The debounce interval of a logical input: a fixed 5 ms for ONBOARD_STOP (R143). -/
def debounceInterval (p : Params) (input : Fin 27) : Nat := if input = onboardStopInput then 5 else p.debounceTime

/-! ## Seats -/

/-- A seat's three filtered inputs (4.2). -/
structure Picture where
  lockA : Bool
  lockB : Bool
  barDown : Bool
  deriving DecidableEq, Repr

def picture (s : State) (seat : Fin 8) : Picture :=
  ⟨s.terminals.filtered[seatInput seat 0], s.terminals.filtered[seatInput seat 1],
    s.terminals.filtered[seatInput seat 2]⟩

/-- R66: the locks differ, or a lock is active while BAR_DOWN is inactive. -/
def Picture.conflict (p : Picture) : Bool := (p.lockA != p.lockB) || ((p.lockA || p.lockB) && !p.barDown)

/-- The state that a picture gives a seat in evaluation (R64). -/
def Picture.seatState (p : Picture) : SeatState :=
  if !p.barDown then .open else if p.lockA && p.lockB then .locked else .closing

/-- OPEN, CLOSING, LOCKED, VERIFIED, DISAGREE (R64). -/
def SeatState.inEvaluation : SeatState → Bool
  | .open | .closing | .locked | .verified | .disagree => true
  | .disabled | .releasing | .bypassed => false

/-- VERIFIED, BYPASSED, DISABLED (R67). -/
def SeatState.ready : SeatState → Bool
  | .verified | .bypassed | .disabled => true
  | .open | .closing | .locked | .disagree | .releasing => false

/-- The eight seats in ascending number. -/
def allSeats : List (Fin 8) := [0, 1, 2, 3, 4, 5, 6, 7]

def seatState (s : State) (seat : Fin 8) : SeatState := (s.restraint.seats[seat]).state

/-- Every seat satisfies readiness (R67). -/
def allReady (s : State) : Bool := allSeats.all fun i => (seatState s i).ready

/-- Some latch of the seat is set (R68). -/
def Latches.any (l : Latches) : Bool :=
  l.lockA || l.lockB || l.barDown || l.enteredDisagree || l.releaseDone || l.releaseFailed || l.solenoidFault

/-- The latches of a seat as one byte (R186). -/
def Latches.byte (l : Latches) : Nat :=
  bits [l.lockA, l.lockB, l.barDown, l.enteredDisagree, l.releaseDone, l.releaseFailed, l.solenoidFault]

/-- A seat mask holds seat 1 in bit 0 (R186). -/
def inMask (mask : Byte) (seat : Fin 8) : Bool := mask.getLsbD seat.val

/-- The mask of the seats for which a condition holds. -/
def maskOf (f : Fin 8 → Bool) : Nat := bits (allSeats.map f)

/-- R78: a release is in progress while the queue or the energised set is not empty. -/
def releaseInProgress (s : State) : Bool := !s.restraint.queue.isEmpty || !s.restraint.energised.isEmpty

/-- Release place of a seat (R62). -/
def releasePending (s : State) (seat : Fin 8) : Bool :=
  s.restraint.queue.contains seat || s.restraint.energised.contains seat

/-- STOP or EMERGENCY. -/
def PermitLevel.still : PermitLevel → Bool
  | .emergency | .stop => true
  | .creep | .run => false

/-- The release condition (R79), less the end of a release at a mode change out of OFFLINE. -/
def releaseCondition (s : State) : Bool :=
  s.permit.level.still &&
    match s.mc.mode with
    | .offline => true
    | .load | .ready | .halt => s.permit.stationary
    | .unload => s.mc.berthed
    | .hold => s.mc.heldFrom == .unload && s.mc.berthReached && s.permit.stationary
    | .run => false

/-- The mode is watched for restraints (R82). -/
def watched (s : State) : Bool :=
  match s.mc.mode with
  | .run | .halt => true
  | .unload => !s.mc.berthReached
  | .hold => !(s.mc.heldFrom == .unload && s.mc.berthReached)
  | .offline | .load | .ready => false

/-! ## READY and berthing -/

/-- The READY conditions (R7). -/
def readyConditions (s : State) : Bool :=
  allReady s && s.tracker.position == .sync && s.permit.stationary && s.mc.advance.isNone && !releaseInProgress s &&
    s.permit.active.isEmpty

/-- The current segment (R32). -/
def currentSegment (s : State) : Option Segment :=
  match s.tracker.segment with
  | none => none
  | some i => s.tables.route.inUse[i]?

/-- The speed ceiling of the current segment; 0 without one (R31). -/
def segmentCeiling (s : State) : Nat := ((currentSegment s).map (·.ceiling)).getD 0

/-- The current segment is a stop-point segment (R10). -/
def atStopPoint (s : State) : Bool :=
  match currentSegment s with
  | none => false
  | some g => g.ceiling == 0

/-! ## Permit -/

/-- The lower of two permit levels. -/
def PermitLevel.lower (a b : PermitLevel) : PermitLevel := if a.code ≤ b.code then a else b

/-- The mode permit (R3). Where an advance has ended at another stop point in UNLOAD, R157 says that it falls to STOP; here, as
R3 tables it, it is RUN until the vehicle is berthed, under a speed ceiling of 0 (DESIGN CHOICE, log 58). -/
def modePermit (m : ModeController) : PermitLevel :=
  match m.mode with
  | .offline | .ready | .hold => .stop
  | .load => if m.advance.isSome then .creep else .stop
  | .run => .run
  | .unload => if m.advance.isSome then .creep else if m.berthed then .stop else .run
  | .halt => .emergency

/-- The permit level that the terms of R155 give. -/
def permitLevelOf (s : State) : PermitLevel :=
  (modePermit s.mc).lower <|
    (if s.tracker.position = .sync then PermitLevel.run else .creep).lower <|
      (if allReady s then PermitLevel.run else .stop).lower (if onboardStop s then .emergency else .run)

/-- The segment ceiling that R157 uses: the creep ceiling for an advance's starting segment at a stop point. -/
def ceilingInForce (s : State) : Nat :=
  match s.mc.advance with
  | some a =>
    if a.startSegment = s.tracker.segment ∧ segmentCeiling s = 0 then s.params.creepCeiling else segmentCeiling s
  | none => segmentCeiling s

/-- The speed ceiling (R157), from a ceiling ahead. -/
def speedCeilingOf (s : State) (ahead : Nat) : Nat :=
  match s.permit.level, s.tracker.position with
  | .run, .sync => min (ceilingInForce s) (min s.permit.rcLimit ahead)
  | .creep, .sync => min s.params.creepCeiling (min (ceilingInForce s) (min s.permit.rcLimit ahead))
  | .run, .unsync | .creep, .unsync => min s.params.creepCeiling s.permit.rcLimit
  | .stop, _ | .emergency, _ => 0

/-- Each segment with the start of the next one, the last with L (R26). -/
def segmentSpans (len : Nat) : List Segment → List (Segment × Nat)
  | [] => []
  | [g] => [(g, len)]
  | g :: h :: rest => (g, h.start) :: segmentSpans len (h :: rest)

/-- The ceiling ahead while SYNC (R158): the lowest segment ceiling from P to P plus the lookahead, in mm, going on from
0 past L; a ceiling of 0 counts as the creep ceiling. -/
def ceilingAheadOf (s : State) : Nat :=
  let p := s.tracker.p / 10
  let last := p + s.params.lookahead
  let len := s.tables.routeLength
  let touched := (segmentSpans len s.tables.route.inUse).filter fun (g, next) =>
    decide (g.start ≤ last ∧ p < next) || decide (len ≤ last ∧ g.start ≤ last - len)
  (touched.map fun (g, _) => if g.ceiling = 0 then s.params.creepCeiling else g.ceiling).foldl min 3000

/-- The ceiling ahead has a value of its own (R158). -/
def looksAhead (s : State) : Bool := s.tracker.position == .sync && routeValid s

/-! ## Sound, store, scene timer -/

def storeIdle (s : State) : Bool := s.store.activity == .idle

/-- Every voice is IDLE. -/
def voicesIdle (s : State) : Bool := s.sound.voices.toList.all Option.isNone

/-- The scene timer runs (R96). -/
def sceneTimerRuns (s : State) : Bool :=
  (s.mc.mode == .run || s.mc.mode == .unload) && s.tracker.position == .sync && s.cues.scene != 0 &&
    decide (s.cues.timer < 600000)

/-- The level of an effect channel (R101). -/
def Channel.active : Channel → Bool
  | .off => false
  | .on | .pulsing _ => true

/-! ## Terminals -/

/-- The level driven onto a terminal; none for a terminal that is not driven (R139, R153). -/
def driven (s : State) (terminal : Fin 40) : Option Bool :=
  match s.params.outputs[terminal] with
  | .input => none
  | .effect c => some (s.cues.channels[c]).active
  | .release i => some (s.restraint.energised.contains i)
  | .permitLamp => some (!s.permit.level.still)
  | .haltLamp => some (s.mc.mode == .halt)
  | .density g => some (s.density[g]).bit

end Sys2Proof.Machine
end

