-- ==== Sys2Proof/Machine/Memory.lean ====
section
/-! DEFINITION. The clip region of the serial store, byte by byte (R117, R118, R189). Written bytes are listed in rising
address order, and none is listed that equals what an unlisted byte reads as, so equal memories are equal data. -/

namespace Sys2Proof.Machine

/-- What an unlisted byte reads as, from the erase marks of its block, newest first (log 9, 10 and 11). -/
def unlistedFrom : List (Nat × BlockMark) → Nat → Byte
  | [], _ => Config.unwrittenByte
  | (block, mark) :: older, address =>
    if block = address / Config.eraseBlockBytes then
      match mark with
      | .erased => Config.erasedByte
      | .torn n => if Config.tornIsNew n address then Config.erasedByte else unlistedFrom older address
      | .lost n => Config.lostByte n address
    else unlistedFrom older address

def Memory.unlisted (m : Memory) (address : Nat) : Byte := unlistedFrom m.marks address

/-- The byte listed for an address. -/
def findCell : List Host.Cell → Nat → Option Byte
  | [], _ => none
  | (a, b) :: rest, address => if a = address then some b else findCell rest address

/-- The byte that the store holds at an address. -/
def Memory.read (m : Memory) (address : Nat) : Byte := (findCell m.cells address).getD (m.unlisted address)

/-- List a byte for an address, or with `none` list none, keeping the rising order. -/
def putCell (address : Nat) (byte : Option Byte) : List Host.Cell → List Host.Cell
  | [] =>
    match byte with
    | none => []
    | some b => [(address, b)]
  | (a, old) :: rest =>
    if address < a then
      match byte with
      | none => (a, old) :: rest
      | some b => (address, b) :: (a, old) :: rest
    else if address = a then
      match byte with
      | none => rest
      | some b => (address, b) :: rest
    else (a, old) :: putCell address byte rest

/-- Write one byte; writing what an unlisted byte reads as lists nothing. -/
def Memory.write (m : Memory) (address : Nat) (byte : Byte) : Memory :=
  { m with cells := putCell address (if byte = m.unlisted address then none else some byte) m.cells }

/-- Write bytes from an address on: the effect of STORE_WRITE (R189). -/
def Memory.writeAll (m : Memory) (address : Nat) : List Byte → Memory
  | [] => m
  | b :: rest => (m.write address b).writeAll (address + 1) rest

/-- The bytes from an address on (R189, STORE_READ). -/
def Memory.readAll (m : Memory) (address : Nat) : Nat → List Byte
  | 0 => []
  | n + 1 => m.read address :: m.readAll (address + 1) n

/-- Erase a whole 64 KiB block: the effect of STORE_ERASE (R189). -/
def Memory.eraseBlock (m : Memory) (block : Nat) : Memory :=
  { cells := m.cells.filter fun c => c.1 / Config.eraseBlockBytes != block
    marks := (block, .erased) :: m.marks.filter fun k => k.1 != block }

/-- What operation number `n`, a write that a hardware reset ended, leaves: each byte old or new (R189). -/
def Memory.tearWrite (m : Memory) (n address : Nat) : List Byte → Memory
  | [] => m
  | b :: rest =>
    (if Config.tornIsNew n address then m.write address b else m).tearWrite n (address + 1) rest

/-- What operation number `n`, an erase that a hardware reset ended, leaves: each byte old or erased (R189). -/
def Memory.tearErase (m : Memory) (n block : Nat) : Memory :=
  { cells := m.cells.filter fun c => !(c.1 / Config.eraseBlockBytes == block && Config.tornIsNew n c.1)
    marks := (block, .torn n) :: m.marks }

/-- What operation number `n`, a write of `count` bytes that failed, leaves: bytes the manual does not state (log 11). -/
def Memory.loseWrite (m : Memory) (n address : Nat) : Nat → Memory
  | 0 => m
  | count + 1 => (m.write address (Config.lostByte n address)).loseWrite n (address + 1) count

/-- What operation number `n`, an erase that failed, leaves: bytes the manual does not state (log 11). -/
def Memory.loseErase (m : Memory) (n block : Nat) : Memory :=
  { cells := m.cells.filter fun c => c.1 / Config.eraseBlockBytes != block
    marks := (block, .lost n) :: m.marks.filter fun k => k.1 != block }

/-- Addresses strictly rise. -/
def risingCells : List Host.Cell → Bool
  | [] => true
  | [_] => true
  | (a, _) :: (b, y) :: rest => decide (a < b) && risingCells ((b, y) :: rest)

/-- The canonical form. -/
def Memory.wf (m : Memory) : Bool := risingCells m.cells && m.cells.all fun c => c.2 != m.unlisted c.1

/-- The sample at a sample index: bytes 2i and 2i + 1, most significant first, two's complement (R118). -/
def Memory.sample (m : Memory) (index : Nat) : Int := beInt [m.read (2 * index), m.read (2 * index + 1)]

end Sys2Proof.Machine
end

