-- ==== Sys2Proof/Machine/Voices.lean ====
section
/-! DEFINITION. The Sound Engine's operations: voices, duck level, ramps, timed voices, holds (07). -/

namespace Sys2Proof.Machine

def showVoice (v : Fin 4) : Fin 6 := ⟨v.val, by omega⟩
def holdVoice : Fin 6 := 4
def announceVoice : Fin 6 := 5

/-- The six voices in order. -/
def allVoices : List (Fin 6) := [0, 1, 2, 3, 4, 5]

/-- The entry that a start of a clip uses; none when the clip is absent (R118). -/
def findClip (s : State) (n : Nat) : Option Clip := s.tables.clips.inUse.find? fun c => c.number == n

/-! ## Voices and ducking -/

/-- A new duck target (R134). -/
def Sound.duckTo (snd : Sound) (target ramp : Nat) : Sound :=
  { snd with duckTarget := target, duckRamp := ramp, duckLevel := if ramp = 0 then target else snd.duckLevel }

/-- Sets one voice. V5 leaving IDLE or becoming IDLE sets the duck target (R134). -/
def Sound.setVoice (snd : Sound) (p : Params) (i : Fin 6) (v : Option Voice) : Sound :=
  let t := { snd with voices := snd.voices.set i v }
  if i = announceVoice then
    match snd.voices[i], v with
    | none, some _ => t.duckTo p.duckLevel p.duckRamp
    | some _, none => t.duckTo 4096 p.duckRamp
    | _, _ => t
  else t

/-- One voice of the state, set. -/
def putVoice (s : State) (i : Fin 6) (v : Option Voice) : State := s.setSound (s.sound.setVoice s.params i v)

def voiceAt (s : State) (i : Fin 6) : Option Voice := s.sound.voices[i]

/-- The record of a voice that is started (R122). -/
def startedVoice (clip : Clip) (gain : Nat) (route : Route) (hold : Option HoldBehaviour) : Voice :=
  { state := .playing, clip := clip.number, position := 0, gain := gain, target := gain, ramp := 0, route := route,
    loopPoint := clip.loopStart, hold := hold, timing := none }

/-- The same, waiting for a show time (R122). -/
def Voice.waitFor (v : Voice) (c : ShowClock) (ms us : Nat) : Voice :=
  { v with state := .waiting, timing := some ⟨ms, us, c.state == .free⟩ }

/-- A ramp to a target; of time 0 it sets the gain at once (R126). -/
def Voice.rampTo (v : Voice) (target ramp : Nat) : Voice :=
  { v with target := target, ramp := ramp, gain := if ramp = 0 then target else v.gain }

/-- A stop with a fade time (R127). -/
def Voice.stop (fade : Nat) (v : Voice) : Option Voice :=
  match v.state with
  | .waiting | .paused => none
  | .playing | .stopping => if fade = 0 then none else some { v.rampTo 0 fade with state := .stopping, timing := none }

def stopVoice (s : State) (i : Fin 6) (fade : Nat) : State := putVoice s i ((voiceAt s i).bind (Voice.stop fade))

/-- A gain change (R128). -/
def Voice.changeGain (target ramp : Nat) (v : Voice) : Voice :=
  match v.state with
  | .waiting | .playing | .paused => v.rampTo target ramp
  | .stopping => v

def changeGain (s : State) (i : Fin 6) (target ramp : Nat) : State :=
  putVoice s i ((voiceAt s i).map (Voice.changeGain target ramp))

/-! ## Ramps (R126) -/

/-- One local millisecond of a ramp: the level moved toward its target, with `r` ms remaining. -/
def rampStep (level target r : Nat) : Nat :=
  if r = 0 then level
  else if r = 1 then target
  else ((level : Int) + ((target : Int) - level).tdiv r).toNat

/-- The end of a fade: a STOPPING voice's ramp remaining comes to 0 (R126). -/
def Voice.fadeEnds (v : Voice) : Bool := v.state == .stopping && decide (v.ramp ≤ 1)

/-- One local millisecond of a voice's ramp; a STOPPING voice becomes IDLE in the event in which its ramp ends (R126). V5 is
never STOPPING, so no duck target moves with it. -/
def Voice.rampTick (v : Voice) : Option Voice :=
  if v.fadeEnds then none else some { v with gain := rampStep v.gain v.target v.ramp, ramp := v.ramp - 1 }

/-! ## Timed voices (R124, R125) -/

inductive Expected where
  | notDue
  | at (position : Nat)
  | ended
  deriving DecidableEq, Repr

/-- The expected position `elapsed` us after the start show time (R124). -/
def expectedPosition (elapsed : Int) (length : Nat) (loopPoint : Option Nat) : Expected :=
  let n := (elapsed * 32).tdiv 1000
  if n < 0 then .notDue
  else if n.toNat < length then .at n.toNat
  else
    match loopPoint with
    | some l => .at (l + (n.toNat - length) % (length - l))
    | none => .ended

/-- A voice's length: that of its clip (0 for a clip that is not in the directory, which no run reaches; log 29). -/
def voiceLength (s : State) (v : Voice) : Nat := ((findClip s v.clip).map (·.length)).getD 0

/-- A WAITING voice whose start show time has come (R124). -/
def Voice.joinDue (c : ShowClock) (v : Voice) : Bool :=
  v.state == .waiting &&
    match v.timing with
    | none => false
    | some t => decide (0 ≤ c.elapsedUs t.ms t.us)

/-- A voice that joins (R124). -/
def Voice.join (s : State) (v : Voice) : Option Voice :=
  match v.timing with
  | none => some v
  | some t =>
    match expectedPosition (s.clock.elapsedUs t.ms t.us) (voiceLength s v) v.loopPoint with
    | .at x => some { v with state := .playing, position := x }
    | .ended => none
    | .notDue => some v

/-- The difference that R125 judges: around the loop when both positions lie at or beyond the loop point. -/
def resyncDifference (length : Nat) (loopPoint : Option Nat) (x position : Nat) : Int :=
  match loopPoint with
  | some l => if l ≤ x ∧ l ≤ position then shortest (length - l) ((x : Int) - position) else (x : Int) - position
  | none => (x : Int) - position

/-- One voice at a sync report, and whether it counts as a resync (R125). -/
def Voice.resync (s : State) (v : Voice) : Option Voice × Bool :=
  match v.timing with
  | none => (some v, false)
  | some t =>
    let checked : Voice := { v with timing := some { t with unsynced := false } }
    match v.state with
    | .waiting => (if v.joinDue s.clock then checked.join s else some checked, false)
    | .playing =>
      match expectedPosition (s.clock.elapsedUs t.ms t.us) (voiceLength s v) v.loopPoint with
      | .notDue => (some { checked with state := .waiting, position := 0 }, true)
      | .at x =>
        if (s.params.resyncTolerance : Int) < |resyncDifference (voiceLength s v) v.loopPoint x v.position| then
          (some { checked with position := x }, true)
        else (some checked, false)
      | .ended =>
        if s.params.resyncTolerance < voiceLength s v - v.position then (none, true) else (some checked, false)
    | .paused | .stopping => (some v, false)

def resyncVoice (s : State) (i : Fin 6) : State :=
  match voiceAt s i with
  | none => s
  | some v =>
    let t := putVoice s i (v.resync s).1
    if (v.resync s).2 then t.setSound { t.sound with resyncs := bump t.sound.resyncs } else t

/-- The Sound Engine at a sync report (R125). -/
def resyncAll (s : State) : State := allVoices.foldl resyncVoice s

/-! ## Mode changes (R129 to R132) -/

/-- Hold behaviour at entry into HOLD (R130). -/
def Voice.enterHold (fade : Nat) (v : Voice) : Option Voice :=
  match v.hold with
  | none | some .continue => some v
  | some .pause =>
    match v.state with
    | .playing => some { v with state := .paused, timing := none }
    | .waiting => some { v with state := .paused, position := 0, timing := none }
    | .paused | .stopping => some v
  | some .fade =>
    match v.state with
    | .playing | .waiting => v.stop fade
    | .paused | .stopping => some v

/-- V4's record at entry into HOLD (R130). -/
def holdVoiceStart (p : Params) (clip : Clip) : Voice :=
  { startedVoice clip 0 .both none with loopPoint := some (clip.loopStart.getD 0) }.rampTo p.holdGain p.holdFade

/-- The clip that V4 starts with, when it starts (R130). -/
def holdClipStart (s : State) : Option Clip :=
  if s.params.holdClip ≠ 0 ∧ storeIdle s then findClip s s.params.holdClip else none

def soundEnterHold (s : State) : State :=
  let voices := Vector.ofFn fun i : Fin 6 => (s.sound.voices[i]).bind (Voice.enterHold s.params.holdFade)
  match holdClipStart s with
  | none => s.setSound { s.sound with voices := voices }
  | some clip => s.setSound { s.sound with voices := voices.set 4 (some (holdVoiceStart s.params clip)) }

/-- PAUSED show voices play on, and V4 fades (R131). -/
def soundResume (s : State) : State :=
  let wake (v : Voice) : Voice := if v.state = .paused ∧ v.hold.isSome then { v with state := .playing } else v
  stopVoice (s.setSound { s.sound with voices := Vector.ofFn fun i : Fin 6 => (s.sound.voices[i]).map wake })
    holdVoice s.params.holdFade

/-- V0 to V4 become IDLE at once; V5 is not touched (R132). -/
def soundSilence (s : State) : State :=
  s.setSound { s.sound with
    voices := Vector.ofFn fun i : Fin 6 => if i = announceVoice then s.sound.voices[i] else none }

/-- What the Sound Engine does at a mode change (R129). -/
def soundModeChange (old new : Mode) (s : State) : State :=
  match new with
  | .hold => soundEnterHold s
  | .halt | .offline => soundSilence s
  | .run | .unload => if old = .hold then soundResume s else s
  | .load | .ready => s

/-! ## Mixing (R120, R135, R137) -/

/-- A voice that produces a sample at a sample clock. -/
def Voice.sounds (v : Voice) : Bool :=
  match v.state with
  | .playing | .stopping => true
  | .waiting | .paused => false

def Route.feedsA : Route → Bool
  | .a | .both => true
  | .b => false

def Route.feedsB : Route → Bool
  | .b | .both => true
  | .a => false

/-- The store index of a voice's next sample (R118). -/
def sampleIndex (s : State) (v : Voice) : Nat := ((findClip s v.clip).map (·.start)).getD 0 + v.position

/-- Effective gain (R135). -/
def effectiveGain (snd : Sound) (i : Fin 6) (v : Voice) : Nat :=
  if i = announceVoice then v.gain else v.gain * snd.duckLevel / 4096

/-- A voice's share of a channel's sum: its sample times its effective gain, when it sounds on that channel. -/
def contribution (s : State) (feeds : Route → Bool) (i : Fin 6) : Int :=
  match voiceAt s i with
  | none => 0
  | some v =>
    if v.sounds && feeds v.route then s.store.memory.sample (sampleIndex s v) * effectiveGain s.sound i v else 0

/-- Steps 1 to 3 of R137. `Int` division by a positive number rounds toward minus infinity. -/
def mixed (s : State) (feeds : Route → Bool) (master : Nat) : Int :=
  let acc := (allVoices.map (contribution s feeds)).sum
  acc / 4096 * master / 4096

/-- A voice after its sample (R120). -/
def Voice.afterSample (s : State) (v : Voice) : Option Voice :=
  if v.sounds then
    if v.position + 1 < voiceLength s v then some { v with position := v.position + 1 }
    else v.loopPoint.map fun l => { v with position := l }
  else some v

/-- The first address outside the store that a sample clock would read (log 31). -/
def badSample (s : State) : Option Nat :=
  firstSome <| allVoices.map fun i =>
    (voiceAt s i).bind fun v =>
      if v.sounds ∧ Config.storeBytes ≤ 2 * sampleIndex s v + 1 then some (2 * sampleIndex s v + 1) else none

end Sys2Proof.Machine
end

