-- ==== Sys2Proof/Machine/Cues.lean ====
section
/-! DEFINITION. The Cue Engine's operations: firing, actions, notices, the position cursor, scenes (05). -/

namespace Sys2Proof.Machine

def modCues (s : State) (f : CueEngine → CueEngine) : State := s.setCues (f s.cues)

/-! ## Actions (R98 to R103) -/

def countSkippedAction (s : State) : State := modCues s fun c => { c with skippedActions := bump c.skippedActions }

/-- Append a notice, or lose it to a full queue (R103). -/
def CueEngine.notify (c : CueEngine) (n : Notice) : CueEngine :=
  if c.notices.length < 16 then { c with notices := c.notices ++ [n] }
  else { c with lostNotices := bump c.lostNotices }

def noticeOf (s : State) (cue : Nat) (code : Byte) : Notice :=
  ⟨cue, code, s.clock.ms, s.tracker.p / 10, s.mc.dispatchCount⟩

/-- The voice that a START_VOICE action starts (R98, R122). -/
def cueVoice (s : State) (v : Fin 4) (clip : Clip) (gain : Nat) (hold : HoldBehaviour) (start : CueStart) : Voice :=
  let voice := startedVoice clip gain s.params.cueRoute[v] (some hold)
  match start with
  | .now => voice
  | .grid period => voice.waitFor s.clock (s.clock.nextGrid period) 0

def EffectOp.channel : EffectOp → Channel
  | .on => .on
  | .off => .off
  | .pulse t => .pulsing t

/-- HALT skips ON and PULSE, not OFF (R100). -/
def effectSkipped (m : Mode) (op : EffectOp) : Bool := m == .halt && op != .off

def fireAction (cue : Nat) (s : State) : Action → State
  | .startVoice v clip gain hold start =>
    match findClip s clip with
    | none => countSkippedAction s
    | some c =>
      if s.mc.mode = .halt ∨ storeIdle s = false then countSkippedAction s
      else putVoice s (showVoice v) (some (cueVoice s v c gain hold start))
  | .stopVoice v fade => stopVoice s (showVoice v) fade
  | .setGain v target ramp => changeGain s (showVoice v) target ramp
  | .effect c op =>
    if effectSkipped s.mc.mode op then countSkippedAction s
    else modCues s fun e => { e with channels := e.channels.set c op.channel }
  | .notify code => modCues s fun e => e.notify (noticeOf s cue code)

/-- Fire one cue (R89). -/
def fireCue (c : Cue) (s : State) : State :=
  if c.runOnly ∧ s.permit.level ≠ .run then modCues s fun e => { e with skippedCues := bump e.skippedCues }
  else c.actions.foldl (fireAction c.id) s

/-! ## The position cursor (R91 to R94) -/

def setCursor (s : State) (c : Cursor) : State := modCues s fun e => { e with cursor := c }

/-- From the cue at place `i` on, fire position cues while `due` holds of their trigger, and leave the cursor at the first
that is not due, or EXHAUSTED past the last (R92). -/
def firePositionCues (due : Nat → Bool) : List Cue → Nat → State → State
  | [], _, s => setCursor s .exhausted
  | c :: rest, i, s =>
    match c.trigger with
    | .scene .. => setCursor s .exhausted
    | .position mm => if due mm then firePositionCues due rest (i + 1) (fireCue c s) else setCursor s (.at i)

/-- The same from the cursor, which fires nothing unless it is AT a cue. -/
def fireFromCursor (due : Nat → Bool) (s : State) : State :=
  match s.cues.cursor with
  | .at i => firePositionCues due (s.tables.cues.inUse.drop i) i s
  | .unplaced | .exhausted => s

/-- Place the cursor at the first position cue whose trigger is greater than P (R91). -/
def placeCursor (s : State) : State :=
  let ahead (c : Cue) : Bool :=
    match c.trigger with
    | .position mm => decide (s.tracker.p < 10 * mm)
    | .scene .. => false
  match s.tables.cues.inUse.findIdx? ahead with
  | some i => setCursor s (.at i)
  | none => setCursor s .exhausted

/-- Step 2 of a forward wrap (R93): the first position cue of the table. -/
def firstCursor (s : State) : Cursor :=
  match s.tables.cues.inUse with
  | { trigger := .position _, .. } :: _ => .at 0
  | _ => .exhausted

/-- A trigger is at or below P. -/
def reachedBy (p mm : Nat) : Bool := decide (10 * mm ≤ p)

/-- The three steps of a forward wrap (R93). -/
def wrapCursor (p : Nat) (s : State) : State :=
  let t := fireFromCursor (fun mm => decide (mm < s.tables.routeLength)) s
  fireFromCursor (reachedBy p) (setCursor t (firstCursor t))

/-! ## Scenes (R95 to R97) -/

/-- From the cue at place `i` on, fire the cues of a scene whose offset is at or below the timer, and leave the scene cursor
at the next one, or none past the scene's last (R96). -/
def fireSceneCues (scene timer : Nat) : List Cue → Nat → State → State
  | [], _, s => modCues s fun e => { e with sceneCursor := none }
  | c :: rest, i, s =>
    match c.trigger with
    | .position _ => modCues s fun e => { e with sceneCursor := none }
    | .scene n offset =>
      if n = scene then
        if offset ≤ timer then fireSceneCues scene timer rest (i + 1) (fireCue c s)
        else modCues s fun e => { e with sceneCursor := some i }
      else modCues s fun e => { e with sceneCursor := none }

/-- The same from the scene cursor. -/
def fireDueSceneCues (s : State) : State :=
  match s.cues.sceneCursor with
  | none => s
  | some i => fireSceneCues s.cues.scene s.cues.timer (s.tables.cues.inUse.drop i) i s

/-- The place of the first scene cue of a scene. -/
def firstSceneCue (s : State) (scene : Nat) : Option Nat :=
  s.tables.cues.inUse.findIdx? fun c =>
    match c.trigger with
    | .scene n _ => n == scene
    | .position _ => false

/-- Enter a scene (R95). -/
def enterScene (scene : Nat) (s : State) : State :=
  let t := modCues s fun e =>
    { e with scene := scene, timer := 0,
             sceneCursor := if scene = 0 then none else firstSceneCue s scene }
  if sceneTimerRuns t then fireDueSceneCues t else t

/-- One local millisecond of the scene timer: while it runs it goes up by one, and the scene cues that the advance reaches fire
in the same event (R89, R96). -/
def advanceScene (s : State) : State :=
  if sceneTimerRuns s then fireDueSceneCues (modCues s fun e => { e with timer := e.timer + 1 }) else s

/-- The next advance of the scene timer reaches the cue at the scene cursor (R96). -/
def sceneCueIsDue (s : State) : Bool :=
  sceneTimerRuns s &&
    match s.cues.sceneCursor.bind fun i => s.tables.cues.inUse[i]? with
    | some { trigger := .scene _ offset, .. } => decide (offset ≤ s.cues.timer + 1)
    | _ => false

/-- What the Cue Engine does at a mode change, less the re-entry of the scene at DISPATCH (R97, R101, R103). -/
def cuesModeChange (new : Mode) (e : CueEngine) : CueEngine :=
  match new with
  | .halt =>
    { e with scene := 0, timer := 0, sceneCursor := none, channels := Vector.replicate 12 .off }
  | .offline =>
    { e with scene := 0, timer := 0, sceneCursor := none, channels := Vector.replicate 12 .off,
             cursor := .unplaced, notices := [] }
  | .hold | .load | .ready | .run | .unload => e

/-! ## Movements (R32 step 4) -/

/-- A movement handed to the Cue Engine in an online mode (R90, R92 to R95). -/
def cueMovement (before after : Nat) (forward wrap : Bool) (s : State) : State :=
  if s.mc.mode.online = false then s
  else if forward then
    let t := if wrap then wrapCursor after s else fireFromCursor (reachedBy after) s
    let scene := ((currentSegment s).map (·.scene)).getD 0
    if scene = t.cues.scene then t else enterScene scene t
  else if before < after then setCursor s .exhausted
  else s

/-- The Cue Engine is told of the change to UNSYNC (R91). -/
def cuesUnsync (s : State) : State := modCues s fun e => { e with cursor := .unplaced }

end Sys2Proof.Machine
end

