-- ==== Sys2Proof/Machine/Ops.lean ====
section
/-! DEFINITION. The operations that join the blocks: seats and releases, the permit, mode changes, faults, READY and
berthing. Later operations call earlier ones only, which fixes the order of the blocks inside one event (log 15, 17, 19). -/

namespace Sys2Proof.Machine

def modPermit (s : State) (f : PermitUnit → PermitUnit) : State := s.setPermit (f s.permit)
def modMc (s : State) (f : ModeController → ModeController) : State := s.setMc (f s.mc)
def modTracker (s : State) (f : Tracker → Tracker) : State := s.setTracker (f s.tracker)
def modSteering (s : State) (f : Steering → Steering) : State := s.setSteering (f s.steering)
def modRestraint (s : State) (f : Restraint → Restraint) : State := s.setRestraint (f s.restraint)
def modWli (s : State) (f : Wli → Wli) : State := s.setWli (f s.wli)
def modDli (s : State) (f : Dli → Dli) : State := s.setDli (f s.dli)
def modStore (s : State) (f : Store → Store) : State := s.setStore (f s.store)
def modTerminals (s : State) (f : Terminals → Terminals) : State := s.setTerminals (f s.terminals)

/-! ## Seats and releases (04) -/

/-- Enter evaluation with both timers afresh (R64). -/
def Seat.enterEvaluation (p : Picture) (seat : Seat) : Seat :=
  { seat with state := p.seatState, verifyElapsed := 0, disagreeElapsed := 0 }

def Restraint.modSeat (r : Restraint) (i : Fin 8) (f : Seat → Seat) : Restraint :=
  { r with seats := r.seats.set i (f r.seats[i]) }

/-- Set a latch of a seat, and the summary with it (R69). -/
def Restraint.latch (r : Restraint) (i : Fin 8) (f : Latches → Latches) : Restraint :=
  { r.modSeat i (fun seat => { seat with latches := f seat.latches }) with summary := true }

/-- A set of seats with one more, in seat order. -/
def insertSeat (i : Fin 8) (set : List (Fin 8)) : List (Fin 8) := allSeats.filter fun j => j == i || set.contains j

/-- Energise the head of the queue while the set has room (R74). -/
def Restraint.energiseOne (pulse : Nat) (r : Restraint) : Restraint :=
  match r.queue with
  | [] => r
  | i :: rest =>
    if r.energised.length < 2 then
      { r.modSeat i (fun seat => { seat with pulseElapsed := 0, pulseTime := pulse }) with
        queue := rest, energised := insertSeat i r.energised }
    else r

/-- The set holds two seats or the queue is empty afterwards (R74). -/
def Restraint.fill (pulse : Nat) (r : Restraint) : Restraint := (r.energiseOne pulse).energiseOne pulse

def fillEnergised (s : State) : State := modRestraint s (Restraint.fill s.params.releasePulseTime)

/-- Take one seat out of the queue and the energised set (R76, R77). -/
def Restraint.leaveRelease (i : Fin 8) (r : Restraint) : Restraint :=
  { r.modSeat i (fun seat => { seat with pulseElapsed := 0 }) with
    queue := r.queue.filter (· != i), energised := r.energised.filter (· != i) }

/-- A seat whose release the loss of the release condition ends (R79). -/
def Seat.releaseLost (p : Picture) (seat : Seat) : Seat :=
  { seat.enterEvaluation p with pulseElapsed := 0, latches := { seat.latches with releaseFailed := true } }

/-- The end of a release without its bars rising (R79). -/
def endRelease (s : State) : State :=
  modRestraint s fun r =>
    { seats := Vector.ofFn fun i : Fin 8 =>
        if releasePending s i then (r.seats[i]).releaseLost (picture s i) else r.seats[i]
      summary := true, queue := [], energised := [] }

/-- Judge the release condition (R79). -/
def judgeRelease (s : State) : State :=
  if releaseInProgress s ∧ releaseCondition s = false then endRelease s else s

/-! ## Permit (09) -/

/-- Form the speed ceiling (R157); while the ceiling ahead has no value of its own it is the same (R158). A fall of the
speed ceiling clears the overspeed count (R161). -/
def formCeilings (s : State) : State :=
  let c := speedCeilingOf s s.permit.ceilingAhead
  modPermit s fun u =>
    { u with speedCeiling := c, ceilingAhead := if looksAhead s then u.ceilingAhead else c,
             overspeed := if c < u.speedCeiling then 0 else u.overspeed }

/-- Form the ceiling ahead, where it has a value of its own, and the speed ceiling (R157, R158). -/
def formAhead (s : State) : State :=
  formCeilings (if looksAhead s then modPermit s fun u => { u with ceilingAhead := ceilingAheadOf s } else s)

/-- Form the permit level again, and hand on a change (R155, R156). Until start-up completes it stays EMERGENCY (R154). -/
def refreshPermit (s : State) : State :=
  let new := permitLevelOf s
  if startingUp s ∨ new = s.permit.level then s
  else
    let t := modPermit s fun u => { u with level := new, overspeed := if new.still then 0 else u.overspeed }
    let t := modSteering t fun c => { c with ampWait := if new.still then 0 else c.ampWait }
    judgeRelease (formCeilings t)

/-! ## Steering state (R44, R59) -/

/-- GUIDE_LOST, STEER_SATURATED, AMP_NOT_READY. -/
def FaultKind.freezes : FaultKind → Bool
  | .guideLost | .steerSaturated | .ampNotReady => true
  | _ => false

def frozenSet (active : List FaultKind) : Bool := active.any FaultKind.freezes

/-- TRACKING from IDLE or FROZEN: a first update is pending, and the reference time starts (R44). -/
def Steering.track (now : Nat) (c : Steering) : Steering :=
  { c with state := .tracking, firstPending := true, reference := now }

/-- The steering state after a mode change or a change of the active fault set, in an online mode (R44). -/
def Steering.react (mode : Mode) (active : List FaultKind) (now : Nat) (c : Steering) : Steering :=
  match c.state with
  | .tracking => if mode = .halt ∧ frozenSet active then { c with state := .frozen } else c
  | .frozen => if frozenSet active then c else c.track now
  | .idle => c

/-- Entry into OFFLINE (R59). -/
def Steering.rest (c : Steering) : Steering :=
  { c with state := .idle, y := 0, ePrev := 0, guideLoss := 0, saturation := 0, ampWait := 0, firstPending := true }

def steeringReact (s : State) : State :=
  modSteering s (Steering.react s.mc.mode s.permit.active s.localMs)

/-! ## Density generators at a mode change (R150, R59) -/

def Density.start (g : Density) : Density := { g with running := true, accumulator := 0 }
def Density.stop (g : Density) : Density := { g with running := false, accumulator := 0, bit := false }

/-- Hand a generator its input code (R152). -/
def handCode (s : State) (g : Fin 3) (code : Nat) : State :=
  s.setDensity (s.density.set g { s.density[g] with code := code })

def densityStart (s : State) : State := s.setDensity (Vector.ofFn fun g : Fin 3 => (s.density[g]).start)
def densityStop (s : State) : State := s.setDensity (Vector.ofFn fun g : Fin 3 => (s.density[g]).stop)

/-! ## Mode changes (R2) -/

/-- The Mode Controller's items after a mode change; the causing rule gives the held-from mode (R2). -/
def ModeController.enter (new : Mode) (held : HeldFrom) (m : ModeController) : ModeController :=
  { m with
    mode := new
    heldFrom :=
      match new with
      | .offline | .load | .ready | .run => .none
      | .hold | .unload | .halt => held
    berthed := false
    berthReached :=
      match new with
      | .offline | .load | .ready | .run => false
      | .unload => m.mode != .run && m.berthReached
      | .hold | .halt => m.berthReached
    advance :=
      match new with
      | .load | .unload => m.advance
      | .offline | .ready | .run | .hold | .halt => none }

/-- GO_ONLINE: the position is unconfirmed, and H is P (R40). -/
def Tracker.goOnline (t : Tracker) : Tracker :=
  { t with position := .unsync, expected := none, misses := 0, highWater := t.p }

/-- Every block but the Permit Unit and the Restraint Monitor, told of the old and the new mode. -/
def tellBlocks (old new : Mode) (s : State) : State :=
  let goesOnline := old == .offline && new.online
  let s := if goesOnline then modTracker s Tracker.goOnline
           else if old = .ready ∧ new = .run then modTracker s fun t => { t with highWater := t.p } else s
  let s := modCues s (cuesModeChange new)
  let s := if goesOnline then modSteering s (Steering.track s.localMs)
           else if new = .offline then modSteering s Steering.rest else steeringReact s
  let s := if new = .offline then handCode s 0 32768 else s
  let s := if goesOnline then densityStart s else if new = .offline then densityStop s else s
  let s := soundModeChange old new s
  if new = .offline then modWli s fun w => { w with rcReported := false } else s

/-- A mode change out of OFFLINE ends a release whatever the new mode; else the release condition is judged (R79). -/
def releaseAtModeChange (old : Mode) (s : State) : State :=
  if old = .offline ∧ releaseInProgress s then endRelease s else judgeRelease s

/-- DISPATCH re-enters the scene that the vehicle waited in (R97). -/
def dispatchScene (old : Mode) (s : State) : State :=
  if old = .ready ∧ s.mc.mode = .run ∧ s.cues.scene ≠ 0 then enterScene s.cues.scene s else s

/-- One mode change, with every block told (R2). -/
def enterMode (new : Mode) (held : HeldFrom) (s : State) : State :=
  let old := s.mc.mode
  let s := tellBlocks old new (modMc s (ModeController.enter new held))
  dispatchScene old (releaseAtModeChange old (formCeilings (refreshPermit s)))

/-! ## Faults (R165, R167) -/

/-- Append to the fault log: at most 16 records, the oldest removed (R168). -/
def PermitUnit.appendLog (u : PermitUnit) (r : FaultRecord) : PermitUnit :=
  { u with log := (if u.log.length < 16 then u.log else u.log.drop 1) ++ [(u.nextNumber, r)],
           nextNumber := (u.nextNumber + 1) % 65536 }

def faultRecordOf (s : State) (k : FaultKind) (sub : SubCause) (detail : Nat) : FaultRecord :=
  ⟨k, sub, detail, s.tracker.p / 10, s.clock.ms, s.mc.mode⟩

/-- A set of fault kinds with one more, in the order of the codes. -/
def insertKind (k : FaultKind) (set : List FaultKind) : List FaultKind :=
  FaultKind.all.filter fun j => j == k || set.contains j

/-- Steps 1 to 4 of R165 online; steps 1 and 2 in OFFLINE (R167). -/
def recordFault (k : FaultKind) (sub : SubCause) (detail : Nat) (s : State) : State :=
  let r := faultRecordOf s k sub detail
  modPermit s fun u =>
    if s.mc.mode.online then
      { u.appendLog r with first := some (u.first.getD r), active := insertKind k u.active }
    else u.appendLog r

/-- The held-from mode on entry to HALT (R14). -/
def haltHeld (m : ModeController) : HeldFrom :=
  match m.mode with
  | .run => .run
  | .unload => .unload
  | .hold | .halt => m.heldFrom
  | .offline | .load | .ready => .none

/-- The Permit Unit takes a fault (R165, R167, R14). -/
def raiseFault (k : FaultKind) (sub : SubCause) (detail : Nat) (s : State) : State :=
  let r := recordFault k sub detail s
  match s.mc.mode with
  | .offline => r
  | .halt => steeringReact r
  | .load | .ready | .run | .hold | .unload => enterMode .halt (haltHeld s.mc) r

/-- RC silence beyond the RC timeout, not yet reported, in an online mode (R177). -/
def rcSilent (s : State) : Bool :=
  s.mc.mode.online && decide (s.wli.rcTimeout < s.wli.rcSilence) && !s.wli.rcReported

/-- RC_LINK_LOST, in the event that finds the silence (R177). -/
def rcCheck (s : State) : State :=
  if rcSilent s then raiseFault .rcLinkLost .none 0 (modWli s fun w => { w with rcReported := true }) else s

/-- A fault that a block reports; the entry into HALT is a mode change into an online mode (R165, R177). -/
def takeFault (k : FaultKind) (sub : SubCause) (detail : Nat) (s : State) : State :=
  let t := raiseFault k sub detail s
  if t.mc.mode = s.mc.mode then t else rcCheck t

/-- A mode change that is no fault's. -/
def changeMode (new : Mode) (held : HeldFrom) (s : State) : State := rcCheck (enterMode new held s)

/-! ## READY, berthing, advance (R7, R10, R12) -/

/-- Evaluate the READY conditions (R7). -/
def evalReady (s : State) : State :=
  match s.mc.mode with
  | .load => if readyConditions s then changeMode .ready .none s else s
  | .ready => if readyConditions s then s else changeMode .load .none s
  | .offline | .run | .hold | .unload | .halt => s

/-- A change of berthed or of the advance: a new mode permit (R3), the ceilings (R157), the release condition (R79). -/
def permitMoved (s : State) : State := judgeRelease (formCeilings (refreshPermit s))

/-- Evaluate berthing (R10). -/
def evalBerth (s : State) : State :=
  if s.mc.mode = .unload ∧ s.mc.advance = none ∧ s.permit.stationary ∧ atStopPoint s then
    permitMoved (modMc s fun m => { m with berthed := true, berthReached := true })
  else s

/-- The end of an advance (R12). -/
def endAdvance (s : State) : State :=
  evalReady (evalBerth (permitMoved (modMc s fun m => { m with advance := none })))

/-- The vehicle becomes stationary (R4, R162). -/
def becomeStationary (s : State) : State :=
  evalReady (evalBerth (judgeRelease (modPermit s fun u => { u with stationary := true })))

/-- The vehicle stops being stationary: berthed becomes no in that event (R4, R10, R162). -/
def stopStationary (s : State) : State :=
  let s := modPermit s fun u => { u with stationary := false, standstill := none }
  evalReady (permitMoved (modMc s fun m => { m with berthed := false }))

/-! ## Seat changes (R67, R82) -/

/-- A seat left VERIFIED or LOCKED for a state other than VERIFIED in a watched mode (R82). -/
def opensRestraint (s : State) (old new : SeatState) : Bool :=
  watched s && (old == .verified || old == .locked) && new != .verified && new != old && new != .bypassed &&
    new != .disabled

/-- A seat's change of state, reported to the Permit Unit and the Mode Controller (R67), with RESTRAINT_OPEN (R82). -/
def seatMoved (i : Fin 8) (old : SeatState) (s : State) : State :=
  let new := seatState s i
  if new = old then s
  else
    let t := refreshPermit s
    let t := if opensRestraint s old new then takeFault .restraintOpen .none (i.val + 1) t else t
    evalReady t

/-- A seat enters evaluation from its filtered inputs (R64). -/
def evaluateSeat (i : Fin 8) (s : State) : State :=
  modRestraint s fun r => r.modSeat i (Seat.enterEvaluation (picture s i))

/-! ## Position state (R39) -/

/-- The position state becomes UNSYNC: the Tracker's items, the Cue Engine, the Permit Unit, the READY conditions
(R39, R42, R91, R156, R157). -/
def becomeUnsync (s : State) : State :=
  let s := modTracker s fun t => { t with position := .unsync, expected := none, misses := 0 }
  evalReady (formCeilings (refreshPermit (cuesUnsync s)))

end Sys2Proof.Machine
end

