-- ==== Sys2Proof/Machine/Records.lean ====
section
/-! DEFINITION. The layouts that a master sees, less the table entries (R186): records, response data, response frames and
drive records. -/

namespace Sys2Proof.Machine

def flag (b : Bool) : List Byte := be1 b.toNat

/-! ## Fault records and notices -/

def FaultRecord.bytes (r : FaultRecord) : List Byte :=
  be1 r.kind.code ++ be1 r.sub.code ++ be2 r.detail ++ be3 r.position ++ be4 r.showMs ++ be1 r.mode.code

/-- First-fault record: present, then the record; an absent one reads as zeros (DESIGN CHOICE, log 43). -/
def firstFaultBytes : Option FaultRecord → List Byte
  | some r => flag true ++ r.bytes
  | none => List.replicate 13 0

def Notice.bytes (n : Notice) : List Byte :=
  be2 n.cue ++ [n.code] ++ be4 n.showMs ++ be3 n.position ++ be2 n.dispatchCount

/-! ## STATUS, 72 bytes -/

/-- A set of fault kinds, kind k in bit k - 1. -/
def kindMask (set : List FaultKind) : Nat := bits (FaultKind.all.map set.contains)

def expectedMarkerId (s : State) : Nat :=
  ((s.tracker.expected.bind fun i => s.tables.markers.inUse[i]?).map (·.id)).getD 0

/-- The last DC speed: the magnitude limited to 32767, negative when the forward flag is clear (R182). While no exchange has been
accepted the manual gives it no value: 0 (DESIGN CHOICE, log 53). -/
def lastDcSpeed (d : Dli) : Int :=
  match d.lastAccepted with
  | none => 0
  | some r => if r.forward then min r.speed 32767 else -(min r.speed 32767 : Nat)

def statusRecord (s : State) : List Byte :=
  be1 s.mc.mode.code ++
  be1 (s.mc.heldFrom.code + 4 * bits [s.mc.berthed, s.mc.berthReached, s.mc.advance.isSome]) ++
  be1 s.permit.level.code ++ be2 s.permit.speedCeiling ++
  be3 (s.tracker.p / 10) ++ flag (s.tracker.position == .sync) ++ be2 (expectedMarkerId s) ++
  beInt3 (s.tracker.lastCorrection.tdiv 10) ++ be2 s.tracker.unknownMarkers ++
  allSeats.flatMap (fun i => be1 (seatState s i).code) ++ flag s.restraint.summary ++ be1 s.restraint.queue.length ++
  be2 (kindMask s.permit.active) ++ firstFaultBytes s.permit.first ++
  be1 s.mc.protectionFaults ++ be2 s.mc.dispatchCount ++
  be1 s.store.activity.code ++ be1 (bits [s.store.errorFlag, s.store.defaulted]) ++
  be1 s.clock.state.code ++ flag s.dli.live ++ be2 s.wli.rcSilence ++ be2 s.wli.scSilence ++
  beInt2 (lastDcSpeed s.dli) ++
  be2 s.wli.crcDiscards ++ be2 s.wli.formatDiscards ++ be2 s.wli.brokenFrames ++ be2 s.wli.strayCharacters ++
  be2 s.wli.overruns ++ be2 s.wli.groupDiscards ++
  be2 s.dli.badExchanges ++ be2 s.dli.duplicates ++ be2 s.dli.missedExchanges

/-! ## SHOW_STATUS, 32 bytes -/

/-- Unsynced in bit 0, timed in bit 1. -/
def voiceFlags (v : Option Voice) : Nat :=
  match v.bind (·.timing) with
  | none => 0
  | some t => bits [t.unsynced, true]

def voiceSummary (v : Option Voice) : List Byte :=
  be1 (voiceCode v) ++ be1 ((v.map (·.clip)).getD 0) ++ be1 (voiceFlags v)

def showStatusRecord (s : State) : List Byte :=
  be1 s.mc.mode.code ++ be3 (s.tracker.p / 10) ++ be1 s.cues.scene ++ be3 s.cues.timer ++
  allVoices.flatMap (fun i => voiceSummary (voiceAt s i)) ++
  be1 s.cues.notices.length ++ be2 s.cues.lostNotices ++ be1 s.clock.state.code ++ be2 s.clock.steps

/-! ## Response data -/

def latchBytes (s : State) : List Byte := allSeats.flatMap fun i => be1 (s.restraint.seats[i]).latches.byte

/-- VOICE_START: state, flags, start show time, zero when the voice is not timed. -/
def voiceStartData (v : Option Voice) : List Byte :=
  be1 (voiceCode v) ++ be1 (voiceFlags v) ++
    match v.bind (·.timing) with
    | none => be4 0 ++ be2 0
    | some t => be4 t.ms ++ be2 t.us

def volumeData (snd : Sound) : List Byte :=
  be2 snd.masterA ++ be2 snd.masterB ++ be2 snd.saturationA ++ be2 snd.saturationB ++ be2 snd.resyncs

/-- NOTICES: those taken, then the number left and the three counts (R104). -/
def noticesData (c : CueEngine) : List Byte :=
  be1 (min 8 c.notices.length) ++ (c.notices.take 8).flatMap Notice.bytes ++ be1 (c.notices.drop 8).length ++
    be2 c.lostNotices ++ be2 c.skippedCues ++ be2 c.skippedActions

/-- READ_FAULT_LOG: records held, next record number, up to three records from a start place (R168). -/
def faultLogData (u : PermitUnit) (start : Nat) : List Byte :=
  be1 u.log.length ++ be2 u.nextNumber ++
    ((u.log.drop start).take 3).flatMap fun entry => be2 entry.1 ++ entry.2.bytes

/-! ## Response frames (R176) -/

/-- A response on the line: the address character 0, then the data characters with their CRC-16. -/
def Response.frame (r : Response) : List Byte :=
  let body := [r.address, r.tag, r.kind] ++ be1 r.status.code ++ be1 r.data.length ++ r.data
  [0] ++ body ++ be2 (crc16 body).toNat

/-! ## Drive records, 12 bytes -/

/-- A record with its CRC-8 (R186). -/
def withCrc8 (body : List Byte) : List Byte := body ++ [crc8 body]

def DriveRecord.bytes (r : DriveRecord) : List Byte :=
  withCrc8 (([r.echo] : List Byte) ++ be1 r.permit.code ++ be2 r.speedCeiling ++ be2 r.ceilingAhead ++ be3 r.position ++
    beInt2 r.y)

/-- The fields of a DC record of 12 bytes (R186). -/
def DcRecord.parse : List Byte → Option DcRecord
  | [cycle, flags, d1, d0, v1, v0, g1, g0, m1, m0, code, _crc] =>
    some
      { cycle := cycle, brake := flags.getLsbD 0, dcFault := flags.getLsbD 1, forward := flags.getLsbD 2
        distance := beInt [d1, d0], speed := beNat [v1, v0], guide := beInt [g1, g0], marker := beNat [m1, m0]
        faultCode := code }
  | _ => none

/-- Bytes 0 to 10 agree with the CRC-8 in byte 11 (R181). -/
def crc8Agrees (bytes : List Byte) : Bool := bytes.drop 11 == [crc8 (bytes.take 11)]

/-- The outgoing record built at the start of an exchange (R183, R41). -/
def driveRecordOf (s : State) : DriveRecord :=
  let echo := (s.dli.lastAccepted.map (·.cycle)).getD 0
  if startingUp s then ⟨echo, .emergency, 0, 0, 0, 0⟩
  else ⟨echo, s.permit.level, s.permit.speedCeiling, s.permit.ceilingAhead, s.tracker.p / 10, s.steering.y⟩

end Sys2Proof.Machine
end

