-- ==== Sys2Proof/Machine/Requests.lean ====
section
/-! DEFINITION. Taking the head frame of the request queue: the preface slots, authority, modes, responses and group frames
(R17 to R20, R175, R176). A request row takes the frame when its kind code is the row's (log 1). -/

namespace Sys2Proof.Machine

/-- What handling a request gives: the status and data of its response, and the state after it. -/
structure Answer where
  status : Status
  data : List Byte
  next : State
  deriving DecidableEq, Repr

def refuse (st : Status) (s : State) : Answer := ⟨st, [], s⟩
def done (data : List Byte) (s : State) : Answer := ⟨.done, data, s⟩

/-- DONE, or CLAMPED where a value was brought into its range (R176). -/
def doneOr (clamped : Bool) (data : List Byte) (s : State) : Answer := ⟨if clamped then .clamped else .done, data, s⟩

/-- A request is accepted when its status is DONE or CLAMPED (00, Requests, responses and names). -/
def Status.accepted : Status → Bool
  | .done | .clamped => true
  | _ => false

/-! ## R17 -/

def TableId.source : TableId → Source
  | .route | .marker => .rc
  | .cue | .clip => .sc

/-- The table that a table-load request names in its first argument byte. -/
def namedTable (args : List Byte) : Option TableId := args.head?.bind fun b => TableId.ofCode b.toNat

/-- The authorized source of a kind; none for a table-load request that names no table (R17, R18). -/
def Kind.source (k : Kind) (args : List Byte) : Option Source :=
  match k with
  | .status | .goOnline | .goOffline | .dispatch | .hold | .resume | .advance | .stopNow | .recover | .release | .bypass
  | .restore | .clearSeatEvents | .setSpeedLimit | .announce | .readFaultLog | .setParam | .getParam | .save | .restart
  | .preface => some .rc
  | .tableBegin | .tableEntry | .tableEnd => (namedTable args).map TableId.source
  | .showStatus | .notices | .storeWrite | .storeErase | .storeRead | .sync | .voiceStart | .voiceStop | .voiceGain
  | .masterVolume => some .sc

/-- Taken by group or broadcast addressing (R17). -/
def Kind.byGroup : Kind → Bool
  | .hold | .resume | .stopNow | .announce | .sync | .voiceStart => true
  | _ => false

/-- Protected kinds (R17). -/
def Kind.isProtected : Kind → Bool
  | .recover | .release | .bypass | .restart => true
  | _ => false

/-- The modes in which a kind is taken (R17). -/
def Kind.takenIn (k : Kind) (m : Mode) : Bool :=
  match k with
  | .goOnline | .save | .restart | .tableBegin | .tableEntry | .tableEnd | .storeWrite | .storeErase | .storeRead =>
    m == .offline
  | .goOffline => m == .offline || m == .load || m == .ready || m == .halt
  | .dispatch => m == .ready
  | .hold => m == .run || m == .unload || m == .hold
  | .resume => m == .hold
  | .advance => m == .load || m == .unload
  | .recover => m == .halt
  | .release => m == .offline || m == .load || m == .ready || m == .unload || m == .halt
  | .bypass => m == .offline || m == .load
  | .voiceStart => m == .load || m == .ready || m == .run || m == .hold || m == .unload
  | .status | .stopNow | .restore | .clearSeatEvents | .setSpeedLimit | .announce | .readFaultLog | .setParam | .getParam
  | .preface | .showStatus | .notices | .sync | .voiceStop | .voiceGain | .masterVolume => true

/-! ## R18, R20 -/

/-- What a request's owning block does with its arguments. -/
abbrev Handler := List Byte → State → Answer

def prefaceSlot (m : ModeController) : Source → Option Preface
  | .rc => m.rcSlot
  | .sc => m.scSlot

def ModeController.setSlot (m : ModeController) (src : Source) (x : Option Preface) : ModeController :=
  match src with
  | .rc => { m with rcSlot := x }
  | .sc => { m with scSlot := x }

/-- The first argument byte of a protected request, 0 when it carries none (R20). -/
def firstByte (args : List Byte) : Byte := args.headD 0

/-- The consumed slot content names the kind and its first argument byte (R20). -/
def prefaceMatches (slot : Option Preface) (k : Kind) (args : List Byte) : Bool :=
  match slot with
  | none => false
  | some p => p.kind == k && p.byte == firstByte args

/-- Steps 5 and 6 of R18. -/
def askOwner (k : Kind) (handle : Handler) (args : List Byte) (s : State) : Answer :=
  if k.takenIn s.mc.mode then handle args s else refuse .mode s

/-- Steps 4 to 6 of R18; a failed preface check adds one to the protection fault count, up to 255 (R20). -/
def checkPreface (slot : Option Preface) (k : Kind) (handle : Handler) (args : List Byte) (s : State) : Answer :=
  if k.isProtected && !prefaceMatches slot k args then
    refuse .preface (modMc s fun m => { m with protectionFaults := min (m.protectionFaults + 1) 255 })
  else askOwner k handle args s

/-- Steps 3 to 6 of R18. -/
def checkAuthority (src : Source) (slot : Option Preface) (k : Kind) (handle : Handler) (args : List Byte) (s : State) :
    Answer :=
  match k.source args with
  | none => refuse .argument s
  | some owner => if owner = src then checkPreface slot k handle args s else refuse .authority s

/-- A unicast frame outside start-up (R18). -/
def judgeUnicast (row : Option Kind) (handle : Handler) (f : Frame) (s : State) : Answer :=
  let slot := prefaceSlot s.mc f.source
  let t := modMc s fun m => m.setSlot f.source none
  match row with
  | none => refuse .unknown t
  | some k => checkAuthority f.source slot k handle f.args t

/-! ## R19, R175, R176 -/

def respond (f : Frame) (a : Answer) : State :=
  modWli a.next fun w => { w with outgoing := w.outgoing ++ [⟨f.address, f.tag, f.kind, a.status, a.data⟩] }

/-- A group or broadcast frame outside start-up (R19). -/
def takeGroup (row : Option Kind) (handle : Handler) (f : Frame) (s : State) : State :=
  match row with
  | none => modWli s fun w => { w with groupDiscards := bump w.groupDiscards }
  | some k =>
    if k.byGroup ∧ k.source f.args = some f.source then
      let a := askOwner k handle f.args s
      if a.status.accepted then a.next else s
    else modWli s fun w => { w with groupDiscards := bump w.groupDiscards }

/-- The frame at the head of the queue, taken (R175). -/
def takeFrame (row : Option Kind) (handle : Handler) (f : Frame) (s : State) : State :=
  match f.addressing with
  | .unicast => respond f (if startingUp s then refuse .starting s else judgeUnicast row handle f s)
  | .group | .broadcast => if startingUp s then s else takeGroup row handle f s

/-- The head frame can be taken: a unicast one waits while the outgoing list is full (R175). -/
def takable (s : State) (f : Frame) : Bool := f.addressing != .unicast || decide (s.wli.outgoing.length < 2)

/-- A request row: takes the head frame when it is of the row's kind (log 1). -/
def takeRequest (row : Option Kind) (handle : Handler) (s : State) : State :=
  match s.wli.queue with
  | [] => s
  | f :: rest =>
    if Kind.ofCode f.kind = row ∧ takable s f then takeFrame row handle f (modWli s fun w => { w with queue := rest })
    else s

/-- The outcome of a request row. -/
def requestRow (k : Kind) (handle : Handler) (s : State) : Host.Outcome State Fault Refusal :=
  .next (takeRequest (some k) handle s)

end Sys2Proof.Machine
end

