-- ==== Sys2Proof/Machine/Authority.lean ====
section
/-! DEFINITION. The Mode Controller's requests and the preface (01), SET_SPEED_LIMIT and READ_FAULT_LOG (09). Each handler
refuses an argument length that does not fit before it looks at anything else (log 32). -/

namespace Sys2Proof.Machine

/-! ## GO_ONLINE (R5) -/

/-- The unmet conditions, ROUTE in bit 0 (R5, R186). -/
def unmetConditions (s : State) : List Bool :=
  [s.tables.route.status != .valid, s.tables.markers.status != .valid, s.tables.cues.status != .valid,
    s.tables.clips.status != .valid, !storeIdle s]

/-- The mode change into LOAD, then the faults that GO_ONLINE can raise (R164, R177), then the READY conditions. -/
def goOnline (s : State) : State :=
  let s := enterMode .load .none s
  let s := if onboardStop s then raiseFault .onboardStop .none 0 s else s
  evalReady (rcCheck s)

def handleGoOnline : Handler := fun args s =>
  if args ≠ [] then refuse .argument s
  else if (unmetConditions s).any id then ⟨.mode, be1 (bits (unmetConditions s)), s⟩
  else done [] (goOnline s)

def execGoOnline (s : State) : Host.Outcome State Fault Refusal := requestRow .goOnline handleGoOnline s

/-! ## GO_OFFLINE (R6) -/

def clearFaults (s : State) : State := modPermit s fun u => { u with active := [], first := none }

def goOffline (s : State) : State :=
  changeMode .offline .none (modPermit (clearFaults s) fun u => { u with rcLimit := 3000 })

def handleGoOffline : Handler := fun args s =>
  if args ≠ [] then refuse .argument s
  else if s.mc.mode = .offline then done [] s
  else if s.permit.stationary then done [] (goOffline s)
  else refuse .mode s

def execGoOffline (s : State) : Host.Outcome State Fault Refusal := requestRow .goOffline handleGoOffline s

/-! ## DISPATCH (R8) -/

def handleDispatch : Handler := fun args s =>
  if args ≠ [] then refuse .argument s
  else if s.restraint.summary then refuse .pending s
  else
    let count := (s.mc.dispatchCount + 1) % 65536
    done (be2 count) (changeMode .run .none (modMc s fun m => { m with dispatchCount := count }))

def execDispatch (s : State) : Host.Outcome State Fault Refusal := requestRow .dispatch handleDispatch s

/-! ## HOLD (R13) -/

def handleHold : Handler := fun args s =>
  if args ≠ [] then refuse .argument s
  else
    match s.mc.mode with
    | .run => done [] (changeMode .hold .run s)
    | .unload => done [] (changeMode .hold .unload s)
    | .hold => done [] s
    | .offline | .load | .ready | .halt => refuse .mode s

def execHold (s : State) : Host.Outcome State Fault Refusal := requestRow .hold handleHold s

/-! ## RESUME (R16) -/

/-- A change into UNLOAD checks the RC silence (R177) before berthing is evaluated (R10): DESIGN CHOICE, log 46. -/
def handleResume : Handler := fun args s =>
  if args ≠ [] then refuse .argument s
  else if releaseInProgress s then refuse .mode s
  else
    match s.mc.heldFrom with
    | .run => done [] (changeMode .run .none s)
    | .unload => done [] (evalBerth (changeMode .unload .none s))
    | .none => refuse .mode s

def execResume (s : State) : Host.Outcome State Fault Refusal := requestRow .resume handleResume s

/-! ## ADVANCE (R11) -/

/-- An advance of `mm`, from the current segment; one already present is replaced (R11). Its starting segment is the current
segment, which is none before the first lookup after a reset or TABLE_BEGIN, where R1 keeps a route table index: the first
stop-point segment that a lookup then finds ends the advance (DESIGN CHOICE, log 54). -/
def startAdvance (mm : Nat) (s : State) : State :=
  evalReady <| permitMoved <| modMc s fun m =>
    { m with advance := some ⟨10 * mm, s.tracker.segment⟩, berthed := false }

/-- A distance of 0 ends an advance as R12 states, berthing evaluated with it, where R11 says that berthed is not changed: the
evaluation can set berthed (DESIGN CHOICE, log 45). -/
def advanceBy (mm : Nat) (s : State) : State :=
  if mm = 0 then (if s.mc.advance.isSome then endAdvance s else s) else startAdvance mm s

def handleAdvance : Handler := fun args s =>
  match args with
  | [d1, d0] =>
    if releaseInProgress s then refuse .mode s
    else
      let d := beNat [d1, d0]
      doneOr (decide (20000 < d)) (be2 (min d 20000)) (advanceBy (min d 20000) s)
  | _ => refuse .argument s

def execAdvance (s : State) : Host.Outcome State Fault Refusal := requestRow .advance handleAdvance s

/-! ## STOP_NOW (R14) -/

def handleStopNow : Handler := fun args s =>
  if args ≠ [] then refuse .argument s else done [] (takeFault .rcStop .none 0 s)

def execStopNow (s : State) : Host.Outcome State Fault Refusal := requestRow .stopNow handleStopNow s

/-! ## RECOVER (R15, R169) -/

/-- Bit `code - 1` of a CAUSE response. -/
def causeBit (code : Nat) (holds : Bool) : Nat := if holds then 2 ^ (code - 1) else 0

/-- The persisting conditions; 13 is NOT_STATIONARY (R169, R186). -/
def recoverCauses (s : State) : Nat :=
  causeBit 1 (!allReady s) + causeBit 4 (s.permit.active.contains .guideLost && !s.steering.guidePresent) +
    causeBit 6 (!ampReady s) + causeBit 8 (!s.dli.live) + causeBit 9 s.permit.reportFault +
    causeBit 11 (onboardStop s) + causeBit 13 (!s.permit.stationary)

/-- The fault set and the first-fault record empty, and the mode leaves HALT (R15, R170). Into LOAD, the RC silence is checked in
the change (R177), before the READY conditions are evaluated (R7): DESIGN CHOICE, log 55. -/
def recover (s : State) : State :=
  let held := s.mc.heldFrom
  let s := clearFaults s
  if held = .none then evalReady (changeMode .load .none s) else changeMode .hold held s

def handleRecover : Handler := fun args s =>
  if args ≠ [] then refuse .argument s
  else if recoverCauses s ≠ 0 then ⟨.cause, be2 (recoverCauses s), s⟩
  else done [] (recover s)

def execRecover (s : State) : Host.Outcome State Fault Refusal := requestRow .recover handleRecover s

/-! ## PREFACE (R20, R21) -/

def handlePreface : Handler := fun args s =>
  match args with
  | [k, b] =>
    match Kind.ofCode k with
    | some kind =>
      if kind.isProtected then done [] (modMc s fun m => { m with rcSlot := some ⟨kind, b, s.localMs⟩ })
      else refuse .argument s
    | none => refuse .argument s
  | _ => refuse .argument s

def execPreface (s : State) : Host.Outcome State Fault Refusal := requestRow .preface handlePreface s

/-- A filled slot has stood for 500 ms (R21). -/
def prefaceLapsed (s : State) (src : Source) : Bool :=
  match prefaceSlot s.mc src with
  | none => false
  | some p => decide (p.time + 500 ≤ s.localMs)

/-- PREFACE_LAPSE (R21). -/
def execPrefaceLapse (source : Source) (s : State) : Host.Outcome State Fault Refusal :=
  .next (if prefaceLapsed s source then modMc s fun m => m.setSlot source none else s)

/-! ## SET_SPEED_LIMIT (R159) -/

def setSpeedLimit (limit : Nat) (s : State) : State := formCeilings (modPermit s fun u => { u with rcLimit := limit })

def handleSetSpeedLimit : Handler := fun args s =>
  match args with
  | [l1, l0] =>
    let l := beNat [l1, l0]
    let t := setSpeedLimit (min l 3000) s
    doneOr (decide (3000 < l)) (be2 (min l 3000) ++ be2 t.permit.speedCeiling) t
  | _ => refuse .argument s

def execSetSpeedLimit (s : State) : Host.Outcome State Fault Refusal := requestRow .setSpeedLimit handleSetSpeedLimit s

/-! ## READ_FAULT_LOG (R168) -/

def handleReadFaultLog : Handler := fun args s =>
  match args with
  | [start] => if 15 < start.toNat then refuse .argument s else done (faultLogData s.permit start.toNat) s
  | _ => refuse .argument s

def execReadFaultLog (s : State) : Host.Outcome State Fault Refusal := requestRow .readFaultLog handleReadFaultLog s

end Sys2Proof.Machine
end

