-- ==== Sys2Proof/Machine/Steer.lean ====
section
/-! DEFINITION. The steering update of an accepted drive exchange (3.2 to 3.7) and AMP_NOT_READY (3.8). -/

namespace Sys2Proof.Machine

/-- A guide offset that is a guide signal (R47). -/
def guideSignal (g : Int) : Bool := decide (-2000 ≤ g ∧ g ≤ 2000)

/-- The gain set and feedforward an update uses: the segment's while SYNC, else 0 and 0 (R51). -/
def steeringGainSet (s : State) : Fin 4 :=
  if s.tracker.position = .sync then ((currentSegment s).map (·.gainSet)).getD 0 else 0

def steeringFeedforward (s : State) : Int :=
  if s.tracker.position = .sync then ((currentSegment s).map (·.feedforward)).getD 0 else 0

/-- What a first update does before stage 1 (R57). -/
def Steering.first (g : Int) (c : Steering) : Steering :=
  if c.firstPending then
    { c with ePrev := if guideSignal g then g else c.ePrev, guideLoss := 0, saturation := 0, firstPending := false }
  else c

/-- The error of stage 1 (R48). -/
def steeringError (c : Steering) (g : Int) : Int := if guideSignal g then g else c.ePrev

/-- The guide-loss distance of stage 1 (R48). -/
def nextGuideLoss (c : Steering) (g s : Int) : Nat :=
  if guideSignal g then 0 else min (c.guideLoss + s.natAbs) 65535

/-- The rate of stage 2 (R50). -/
def steeringRate (c : Steering) (g s : Int) : Int :=
  if guideSignal g ∧ 0 < s then clampInt (-20000) 20000 (((steeringError c g - c.ePrev) * 1000).tdiv s) else 0

/-- The raw demand of stages 3 and 4 (R51, R52). -/
def rawDemand (kp kd : Nat) (f e r : Int) : Int := f - (kp * e + kd * r).tdiv 256

/-- The saturation count of stage 5 (R53). -/
def nextSaturation (count : Nat) (limit u s : Int) : Nat :=
  if u < -limit ∨ limit < u then (if 0 < s then min (count + 1) 256 else count) else 0

/-- The elapsed time of an update (R54). -/
def steeringElapsed (c : Steering) (now : Nat) : Nat := max 1 (min (now - c.reference) 50)

/-- The output of stage 6 (R55). -/
def slewed (y u : Int) (allowed : Nat) : Int := y + clampInt (-allowed) allowed (u - y)

/-- The DG0 input code of stage 7 (R56). -/
def steeringCode (y : Int) : Nat := (32768 + (y * 32767).tdiv 10000).toNat

/-- One steering update of seven stages, from the Steering Computer's items after R57's first steps. -/
def Steering.update (p : Params) (set : Fin 4) (f g s : Int) (now : Nat) (c : Steering) : Steering :=
  let e := steeringError c g
  let u := rawDemand p.kp[set] p.kd[set] f e (steeringRate c g s)
  let limit : Int := p.steerLimit
  { c with
    y := slewed c.y (clampInt (-limit) limit u) (p.slewRate * steeringElapsed c now)
    ePrev := e
    guideLoss := nextGuideLoss c g s
    saturation := nextSaturation c.saturation limit u s
    reference := now }

/-- GUIDE_LOST is raised where the distance passes the limit (R49). -/
def guideLostNow (p : Params) (before after : Steering) : Bool :=
  decide (before.guideLoss ≤ p.guideLossLimit * 10 ∧ p.guideLossLimit * 10 < after.guideLoss)

/-- STEER_SATURATED is raised where the count passes the limit (R53). -/
def saturatedNow (p : Params) (before after : Steering) : Bool :=
  decide (before.saturation ≤ p.saturationLimit ∧ p.saturationLimit < after.saturation)

/-- The update of an exchange in TRACKING, its code to DG0, and the faults it raises once it has finished (R45, log 36). -/
def steeringUpdate (g s : Int) (st : State) : State :=
  let before := st.steering.first g
  let after := before.update st.params (steeringGainSet st) (steeringFeedforward st) g s st.localMs
  let t := handCode (st.setSteering after) 0 (steeringCode after.y)
  let t := if guideLostNow st.params before after then takeFault .guideLost .none 0 t else t
  if saturatedNow st.params before after then takeFault .steerSaturated .none 0 t else t

/-- The Steering Computer takes an accepted exchange (R45, R47). -/
def steerExchange (guide distance : Int) (s : State) : State :=
  let t := modSteering s fun c => { c with guidePresent := guideSignal guide }
  if t.steering.state = .tracking then steeringUpdate guide (clampInt (-3000) 3000 distance) t else t

/-- The amplifier wait time has passed 100 ms in an online mode (R60, R61). -/
def ampNotReadyDue (s : State) : Bool := s.mc.mode.online && decide (101 ≤ s.steering.ampWait)

/-- AMP_NOT_READY (R61). -/
def execAmpNotReady (s : State) : Host.Outcome State Fault Refusal :=
  .next (if ampNotReadyDue s then takeFault .ampNotReady .none 0 s else s)

end Sys2Proof.Machine
end

