-- ==== Sys2Proof/Machine/Tracking.lean ====
section
/-! DEFINITION. The Position Tracker's part of an accepted drive exchange (2.4 to 2.9), with the zone report (R9, R12). -/

namespace Sys2Proof.Machine

def isSync (s : State) : Bool := s.tracker.position == .sync

/-- The distance increment, clamped (R30). -/
def clampedDistance (d : Int) : Int := clampInt (-3000) 3000 d

/-! ## Position faults (R39) -/

def positionFault (sub : SubCause) (detail : Nat) (s : State) : State :=
  let s := cuesUnsync (modTracker s fun t => { t with position := .unsync, expected := none, misses := 0 })
  evalReady (formCeilings (refreshPermit (takeFault .position sub detail s)))

/-! ## Lookup (R32, R9, R12, R10) -/

/-- The last segment whose start is at or below P in mm (R32). -/
def segmentAt (s : State) : Option Nat :=
  let below := (s.tables.route.inUse.filter fun g => decide (g.start ≤ s.tracker.p / 10)).length
  if below = 0 then none else some (below - 1)

/-- An advance ends in a stop-point segment other than its starting segment (R12). -/
def advanceEndsHere (s : State) : Bool :=
  match s.mc.advance with
  | none => false
  | some a => atStopPoint s && a.startSegment != s.tracker.segment

/-- A zone report changes the mode: UNLOAD in RUN (R9), LOAD in UNLOAD with an advance present (R12). The RC silence is
checked in the change, before berthing (DESIGN CHOICE, log 46) and the READY conditions (log 55) are evaluated. -/
def zoneChange (s : State) : State :=
  let zone := ((currentSegment s).map (·.zone)).getD .none
  if s.mc.mode = .run ∧ zone = .unload then changeMode .unload .none s
  else if s.mc.mode = .unload ∧ zone = .load ∧ s.mc.advance.isSome then evalReady (changeMode .load .none s)
  else s

/-- The Mode Controller at a segment lookup (R9, R12, R10). -/
def zoneReport (s : State) : State :=
  let s := zoneChange s
  evalBerth (if advanceEndsHere s then endAdvance s else s)

/-- Steps 1 to 3 of R32. -/
def lookup (s : State) : State := zoneReport (formAhead (modTracker s fun t => { t with segment := segmentAt s }))

/-! ## Movements (R32, R38) -/

/-- The rollback distance: the shortest signed distance from P forward to H (R38). -/
def rollback (s : State) : Int := shortest (routeLen s) ((s.tracker.highWater : Int) - s.tracker.p)

/-- The high-water mark and rollback check (R38). -/
def rollbackCheck (s : State) : State :=
  let d := rollback s
  if d < 0 then modTracker s fun t => { t with highWater := t.p }
  else if (s.mc.mode = .run ∨ s.mc.mode = .unload) ∧ 10 * (s.params.rollbackLimit : Int) < d then
    positionFault .rollback 0 s
  else s

/-- One movement: lookup, then while SYNC the Cue Engine and the rollback check (R32). -/
def movement (before after : Nat) (forward wrap : Bool) (s : State) : State :=
  let s := lookup s
  if isSync s then
    let s := cueMovement before after forward wrap s
    rollbackCheck s
  else s

/-- P set, with H on a forward wrap (R30, R36). -/
def moveTo (p : Nat) (wrap : Bool) (s : State) : State :=
  modTracker s fun t => { t with p := p, highWater := if wrap then p else t.highWater }

/-- An accepted exchange takes its distance from an advance; at 0 or less the advance ends (R12, log 16). -/
def advanceTravel (d : Int) (s : State) : State :=
  match s.mc.advance with
  | none => s
  | some a =>
    let t := modMc s fun m => { m with advance := some { a with remaining := a.remaining - d } }
    if a.remaining - d ≤ 0 then endAdvance t else t

/-- A backward wrap in RUN while SYNC is a position fault (R30). -/
def backwardWrapFaults (s : State) (sum : Int) : Bool := decide (sum < 0) && s.mc.mode == .run && isSync s

/-- The integration of an exchange's distance (R30). -/
def integrate (d : Int) (s : State) : State :=
  let sum := (s.tracker.p : Int) + d
  let wrap := decide ((routeLen s : Int) ≤ sum)
  let after := (sum % (routeLen s : Int)).toNat
  let t := moveTo after wrap s
  let t := if backwardWrapFaults s sum then positionFault .rollback 0 t else t
  movement s.tracker.p after (decide (0 < d)) wrap t

/-! ## Marker reads (R33 to R37) -/

def markerAt (s : State) (i : Nat) : Option Marker := s.tables.markers.inUse[i]?

def markerCount (s : State) : Nat := s.tables.markers.inUse.length

/-- The marker after one (R27). -/
def markerAfter (s : State) (i : Nat) : Nat := if i + 1 < markerCount s then i + 1 else 0

/-- Acquisition of SYNC at marker `i` (R34, R91). -/
def acquire (i : Nat) (m : Marker) (s : State) : State :=
  let d := shortest (routeLen s) (10 * (m.position : Int) - s.tracker.p)
  let s := modTracker s fun t =>
    { t with p := 10 * m.position, position := .sync, highWater := 10 * m.position,
             expected := some (markerAfter s i), misses := 0, lastCorrection := d }
  let s := lookup s
  let s := if s.mc.mode.online then placeCursor s else s
  evalReady (formCeilings (refreshPermit s))

/-- The expected marker is missed (R37). -/
def missExpected (s : State) : State :=
  match s.tracker.expected with
  | none => s
  | some e =>
    let t := modTracker s fun t => { t with misses := t.misses + 1, expected := some (markerAfter s e) }
    if 2 ≤ t.tracker.misses then positionFault .missed (((markerAt s e).map (·.id)).getD 0) t else t

/-- The correction of a capture, and whether it moved P forward (R36). -/
def correct (i : Nat) (m : Marker) (d : Int) (s : State) : State × Bool :=
  let before := s.tracker.p
  let wrap := decide (0 < d ∧ (routeLen s : Int) ≤ before + d)
  let t := modTracker s fun t => { t with lastCorrection := d, misses := 0, expected := some (markerAfter s i) }
  (movement before (10 * m.position) (decide (0 < d)) wrap (moveTo (10 * m.position) wrap t), decide (0 < d))

/-- A capture (R36). -/
def capture (i : Nat) (m : Marker) (s : State) : State × Bool :=
  let d := shortest (routeLen s) (10 * (m.position : Int) - s.tracker.p)
  if 10 * (m.window : Int) < |d| then (positionFault .discrepancy m.id s, false) else correct i m d s

/-- A read while SYNC, placed against the expected marker (R35). -/
def placeRead (i : Nat) (m : Marker) (s : State) : State × Bool :=
  let n := markerCount s
  let k := (i + n - s.tracker.expected.getD i) % n
  if k = 0 then capture i m s
  else if k = 1 then
    let t := missExpected s
    if isSync t then capture i m t else (t, false)
  else if k = 2 then
    let t := missExpected s
    let t := if isSync t then missExpected t else t
    if isSync t then capture i m t else (t, false)
  else (positionFault .order m.id s, false)

/-- A marker read, and whether its correction moved P forward (R33). -/
def markerRead (id : Nat) (s : State) : State × Bool :=
  if id = 0 then (s, false)
  else
    match s.tables.markers.inUse.findIdx? fun m => m.id == id with
    | none => (modTracker s fun t => { t with unknownMarkers := bump t.unknownMarkers }, false)
    | some i =>
      match markerAt s i with
      | none => (s, false)
      | some m => if isSync s then placeRead i m s else (acquire i m s, false)

/-- The expected marker is overdue (R37). -/
def overdue (s : State) : Bool :=
  isSync s &&
    match s.tracker.expected.bind (markerAt s) with
    | none => false
    | some m => decide (10 * (m.window : Int) < shortest (routeLen s) ((s.tracker.p : Int) - 10 * m.position))

/-- The overdue check, repeated; the second miss in a row is a fault, so three rounds reach its end (R37). -/
def overdueCheck : Nat → State → State
  | 0, s => s
  | n + 1, s => if overdue s then overdueCheck n (missExpected s) else s

/-- The Position Tracker takes an accepted exchange (R30 to R38). -/
def trackExchange (distance : Int) (marker : Nat) (s : State) : State :=
  if routeValid s = false then s
  else
    let d := clampedDistance distance
    let t := integrate d (advanceTravel d s)
    let faulted := isSync s && !isSync t
    let r := if faulted then (t, false) else markerRead marker t
    if 0 < d ∨ r.2 then overdueCheck 3 r.1 else r.1

end Sys2Proof.Machine
end

