-- ==== Sys2Proof/Machine/Drive.lean ====
section
/-! DEFINITION. The Drive Link Interface's rows (10.4) and the Permit Unit's part of an accepted exchange (9.4, R164). -/

namespace Sys2Proof.Machine

/-- EXCHANGE_START (R181, R183): no event while an exchange is in progress, whose record is not rebuilt (log 34). -/
def execExchangeStart (s : State) : Host.Outcome State Fault Refusal :=
  .next <|
    match s.dli.outgoing with
    | none => modDli s fun d => { d with outgoing := some (driveRecordOf s), heldOver := false }
    | some _ => s

/-! ## The Permit Unit's part (R161, R162, R164) -/

/-- Overspeed supervision against the ceiling that the exchange returned (R161). -/
def superviseSpeed (speed ceiling : Nat) (s : State) : State :=
  if s.permit.level.still then s
  else if ceiling + s.params.overspeedTolerance < speed then
    let t := modPermit s fun u => { u with overspeed := min (u.overspeed + 1) 6 }
    if t.permit.overspeed = 6 then takeFault .overspeed .none 0 t else t
  else modPermit s fun u => { u with overspeed := 0 }

/-- A standstill report (R162). -/
def DcRecord.standstill (r : DcRecord) : Bool := decide (r.speed ≤ 5) && r.brake

/-- The standstill run and the stationary condition (R162). -/
def superviseStandstill (r : DcRecord) (s : State) : State :=
  if r.standstill then modPermit s fun u => { u with standstill := some (u.standstill.getD s.localMs) }
  else if s.permit.stationary then stopStationary s
  else modPermit s fun u => { u with standstill := none }

/-- DRIVE_REPORTED is raised at this exchange; the Permit Unit judges by the last report it holds (R164, log 41). -/
def driveReports (s : State) (r : DcRecord) : Bool :=
  r.dcFault && (!s.permit.reportFault || (s.mc.mode.online && !s.permit.active.contains .driveReported))

/-- The last DC report (R164), and the fault it can raise. -/
def takeReport (r : DcRecord) (s : State) : State :=
  let t := modPermit s fun u =>
    { u with reportSpeed := r.speed, reportBrake := r.brake, reportFault := r.dcFault, reportCode := r.faultCode }
  if driveReports s r then takeFault .driveReported .none r.faultCode.toNat t else t

/-- The Permit Unit takes an accepted exchange: overspeed, then standstill, then the DC's report, which orders OVERSPEED
before DRIVE_REPORTED where R165 lets either be taken first (DESIGN CHOICE, log 52). -/
def permitExchange (r : DcRecord) (ceiling : Nat) (s : State) : State :=
  takeReport r (superviseStandstill r (superviseSpeed r.speed ceiling s))

/-! ## DRIVE_EXCHANGE (R181, R182) -/

/-- The record an exchange shifted in, when it passes the checks of R181. -/
def checkedRecord (edges : Nat) (bytes : List Byte) : Option DcRecord :=
  if edges = 96 ∧ crc8Agrees bytes then DcRecord.parse bytes else none

/-- The record repeats the cycle count of the last accepted one (R182). -/
def Dli.isDuplicate (d : Dli) (r : DcRecord) : Bool :=
  match d.lastAccepted with
  | none => false
  | some last => last.cycle == r.cycle

/-- Exchanges missed before this one (R182). -/
def Dli.gap (d : Dli) (r : DcRecord) : Nat :=
  match d.lastAccepted with
  | none => 0
  | some last => (r.cycle - last.cycle - 1).toNat

/-- The DLI in the event of acceptance (R182). -/
def Dli.accept (d : Dli) (r : DcRecord) : Dli :=
  { d with lastAccepted := some r, silence := 0, live := true, missedExchanges := min (d.missedExchanges + d.gap r) 65535 }

/-- The DLI alone handles an accepted exchange: during start-up (R182), and one that began before a restart (R185). -/
def dliAlone (s : State) : Bool := startingUp s || s.dli.heldOver

/-- An accepted exchange, passed to the three blocks in turn (R182). -/
def passOn (r : DcRecord) (ceiling : Nat) (s : State) : State :=
  permitExchange r ceiling (steerExchange r.guide r.distance (trackExchange r.distance r.marker s))

/-- No exchange is in progress any more. -/
def Dli.ended (d : Dli) : Dli := { d with outgoing := none, heldOver := false }

/-- The end of an exchange whose outgoing record is `out` (R181, R182, R185). -/
def endExchange (out : DriveRecord) (edges : Nat) (bytes : List Byte) (s : State) : State :=
  let t := modDli s Dli.ended
  match checkedRecord edges bytes with
  | none => modDli t fun d => { d with badExchanges := bump d.badExchanges }
  | some r =>
    if s.dli.isDuplicate r then modDli t fun d => { d with duplicates := bump d.duplicates }
    else if dliAlone s then modDli t fun d => d.accept r
    else passOn r out.speedCeiling (modDli t fun d => d.accept r)

/-- DRIVE_EXCHANGE: no event unless an exchange is in progress (log 34). -/
def execDriveExchange (edges : Nat) (bytes : List Byte) (s : State) : Host.Outcome State Fault Refusal :=
  .next <|
    match s.dli.outgoing with
    | none => s
    | some out => endExchange out edges bytes s

/-! ## Timers (R162, R184) -/

def stationaryDue (s : State) : Bool :=
  !s.permit.stationary &&
    match s.permit.standstill with
    | none => false
    | some began => decide (began + 500 ≤ s.localMs)

/-- STATIONARY (R162). -/
def execStationary (s : State) : Host.Outcome State Fault Refusal :=
  .next (if stationaryDue s then becomeStationary s else s)

/-- The drive silence timer has passed the drive timeout of a live link (R184). -/
def driveTimedOut (s : State) : Bool := s.dli.live && decide (s.dli.driveTimeout < s.dli.silence)

/-- The link stops being live: the standstill run ends (R162), and online DRIVE_LINK_LOST is raised (R184). The end of stationary
comes first, so that READY has become LOAD and berthed no when the fault is taken (DESIGN CHOICE, log 56). -/
def loseDriveLink (s : State) : State :=
  let t := modDli s fun d => { d with live := false }
  let t := if t.permit.stationary then stopStationary t else modPermit t fun u => { u with standstill := none }
  if t.mc.mode.online then takeFault .driveLinkLost .none 0 t else t

/-- DRIVE_TIMEOUT (R184). -/
def execDriveTimeout (s : State) : Host.Outcome State Fault Refusal :=
  .next (if driveTimedOut s then loseDriveLink s else s)

end Sys2Proof.Machine
end

