-- ==== Sys2Proof/Machine/Link.lean ====
section
/-! DEFINITION. The Wayside Link Interface's own rows: characters, frames, responses, link rate, RC silence (10.1 to 10.3). -/

namespace Sys2Proof.Machine

/-! ## Receiving -/

/-- A frame in reception is lost (R172, R173). -/
def Wli.breakFrame (w : Wli) : Wli :=
  { w with receiver := .hunting, frame := none, brokenFrames := bump w.brokenFrames }

/-- FRAMING_ERROR (R172). Nothing is received while the WLI transmits; the character restarts the quiet time (log 28). -/
def execFramingError (s : State) : Host.Outcome State Fault Refusal :=
  .next <|
    if s.wli.transmitting then s
    else modWli s fun w =>
      let w := { w with quiet := 0 }
      match w.receiver with
      | .receiving => w.breakFrame
      | .hunting | .trailing => w

/-- How an address character is addressed to this vehicle; none when it is foreign (R173, R175). -/
def addressingOf (p : Params) (value : Byte) : Option Addressing :=
  if value.toNat = p.vehicleAddress then some .unicast
  else if value.toNat = 255 then some .broadcast
  else if p.groups.toList.any fun g => g != 0 && value.toNat == 239 + g then some .group
  else none

/-- ADDRESS_CHARACTER (R173), with the show-time capture of R107. -/
def execAddressCharacter (value : Byte) (periods : Nat) (s : State) : Host.Outcome State Fault Refusal :=
  .next <|
    if s.wli.transmitting then s
    else modWli s fun w =>
      let w := { w with quiet := 0 }
      let w :=
        match w.receiver with
        | .receiving => w.breakFrame
        | .hunting | .trailing => { w with receiver := .hunting, frame := none }
      match addressingOf s.params value with
      | none => w
      | some a => { w with receiver := .receiving, frame := some ⟨value, a, s.clock.capture periods, []⟩ }

/-- Restart a source's silence timer; an RC frame ends the stretch of silence that was reported (R174, R177). -/
def Wli.heard (w : Wli) : Source → Wli
  | .rc => { w with rcSilence := 0, rcReported := false }
  | .sc => { w with scSilence := 0 }

/-- Queue a complete frame, or lose it to a full queue (R174). -/
def Wli.enqueue (w : Wli) (f : Frame) : Wli :=
  if w.queue.length < 4 then { w with queue := w.queue ++ [f] } else { w with overruns := bump w.overruns }

/-- The checks at a frame's last character, and what a complete frame does (R174). -/
def Wli.finishFrame (w : Wli) (f : PartialFrame) : Wli :=
  let body := f.chars.take (f.chars.length - 2)
  let w := { w with receiver := .trailing, frame := none }
  if (crc16 body).toNat ≠ beNat (f.chars.drop (f.chars.length - 2)) then { w with crcDiscards := bump w.crcDiscards }
  else
    match body with
    | source :: tag :: kind :: _ :: args =>
      match Source.ofCode source.toNat with
      | none => { w with formatDiscards := bump w.formatDiscards }
      | some src =>
        (w.heard src).enqueue
          { address := f.address, addressing := f.addressing, capture := f.capture, source := src, tag := tag
            kind := kind, args := args }
    | _ => w

/-- A data character appended to the frame in reception (R174). -/
def Wli.append (w : Wli) (f : PartialFrame) (value : Byte) : Wli :=
  let f := { f with chars := f.chars ++ [value] }
  match f.chars with
  | [_, _, _, n] =>
    if 48 < n.toNat then { w with receiver := .hunting, frame := none, formatDiscards := bump w.formatDiscards }
    else { w with frame := some f }
  | _ :: _ :: _ :: n :: _ =>
    if f.chars.length = n.toNat + 6 then w.finishFrame f else { w with frame := some f }
  | _ => { w with frame := some f }

/-- DATA_CHARACTER (R173, R174). -/
def execDataCharacter (value : Byte) (s : State) : Host.Outcome State Fault Refusal :=
  .next <|
    if s.wli.transmitting then s
    else modWli s fun w =>
      let w := { w with quiet := 0 }
      match w.receiver, w.frame with
      | .receiving, some f => w.append f value
      | .trailing, _ => { w with strayCharacters := bump w.strayCharacters }
      | _, _ => w

/-- The quiet time in character times: the receiver's own measure, or what local time already shows (log 5). -/
def quietTime (s : State) (quiet : Nat) : Nat := max quiet s.wli.quiet

/-- A frame in reception has been quiet for four character times (R173). -/
def frameTimedOut (s : State) (quiet : Nat) : Bool := s.wli.receiver == .receiving && decide (4 ≤ quietTime s quiet)

/-- FRAME_TIMEOUT (R173). -/
def execFrameTimeout (quiet : Nat) (s : State) : Host.Outcome State Fault Refusal :=
  .next (if frameTimedOut s quiet then modWli s Wli.breakFrame else s)

/-! ## Sending -/

/-- The conditions on which the head of the outgoing list is begun (R176). -/
def canRespond (s : State) (quiet : Nat) : Bool :=
  !s.wli.outgoing.isEmpty && !s.wli.transmitting && s.wli.receiver != .receiving && decide (2 ≤ quietTime s quiet)

/-- RESPONSE_START (R176). -/
def execResponseStart (quiet : Nat) (s : State) : Host.Outcome State Fault Refusal :=
  .next (if canRespond s quiet then modWli s fun w => { w with transmitting := true } else s)

/-- RESPONSE_SENT (R176): the response leaves the list, and the receiver is HUNTING (R172). -/
def execResponseSent (s : State) : Host.Outcome State Fault Refusal :=
  .next <|
    if s.wli.transmitting then
      modWli s fun w => { w with transmitting := false, outgoing := w.outgoing.drop 1, receiver := .hunting }
    else s

/-- A written link rate can take effect (R179). Until start-up completes the rate in force stays (R185, log 27). -/
def linkRateDue (s : State) : Bool :=
  !startingUp s && s.wli.linkRate != s.params.linkRate && s.wli.outgoing.isEmpty && s.wli.receiver == .hunting

/-- LINK_RATE_APPLY (R179). -/
def execLinkRateApply (s : State) : Host.Outcome State Fault Refusal :=
  .next (if linkRateDue s then modWli s fun w => { w with linkRate := s.params.linkRate } else s)

/-- RC_LINK_LOST (R177). -/
def execRcLinkLost (s : State) : Host.Outcome State Fault Refusal := .next (rcCheck s)

/-! ## Records -/

/-- STATUS (R178). -/
def handleStatus : Handler := fun args s => if args = [] then done (statusRecord s) s else refuse .argument s

def execStatus (s : State) : Host.Outcome State Fault Refusal := requestRow .status handleStatus s

/-- SHOW_STATUS (R178). -/
def handleShowStatus : Handler := fun args s => if args = [] then done (showStatusRecord s) s else refuse .argument s

def execShowStatus (s : State) : Host.Outcome State Fault Refusal := requestRow .showStatus handleShowStatus s

/-- UNKNOWN_KIND (R18, R19): no owning block is reached. -/
def execUnknownKind (s : State) : Host.Outcome State Fault Refusal :=
  .next (takeRequest none (fun _ s => refuse .unknown s) s)

end Sys2Proof.Machine
end

