-- ==== Sys2Proof/Machine/Seats.lean ====
section
/-! DEFINITION. The Restraint Monitor's rows (04) and its part in a filtered change and in a write of the enable mask. -/

namespace Sys2Proof.Machine

/-! ## RELEASE (R73) -/

/-- The release acceptance condition, the advance apart; the modes are those of R17. -/
def releaseAccepted (s : State) : Bool :=
  match s.mc.mode with
  | .offline => true
  | .load | .ready | .halt => s.permit.stationary
  | .unload => s.mc.berthed
  | .run | .hold => false

/-- The seats that a RELEASE appends (R73). -/
def appended (s : State) (mask : Byte) (i : Fin 8) : Bool :=
  inMask mask i && !releasePending s i &&
    match seatState s i with
    | .disabled | .bypassed => false
    | .releasing => true
    | .open | .closing | .locked | .verified | .disagree => (picture s i).barDown

/-- A seat joins the back of the release queue, and its change of state is reported (R73, R67). -/
def appendRelease (s : State) (i : Fin 8) : State :=
  let old := seatState s i
  seatMoved i old <| modRestraint s fun r =>
    { r.modSeat i (fun seat => { seat with state := .releasing, verifyElapsed := 0, disagreeElapsed := 0 }) with
      queue := r.queue ++ [i] }

/-- The named seats in ascending number, then the energising (R73, R74). -/
def release (mask : Byte) (s : State) : State :=
  evalReady (fillEnergised ((allSeats.filter (appended s mask)).foldl appendRelease s))

def handleRelease : Handler := fun args s =>
  match args with
  | [mask] =>
    if mask = 0 then refuse .argument s
    else if s.mc.advance.isSome then refuse .mode s
    else if releaseAccepted s = false then refuse .mode s
    else
      let t := release mask s
      done (be1 (maskOf (appended s mask)) ++ be1 t.restraint.queue.length ++
        be1 (maskOf t.restraint.energised.contains)) t
  | _ => refuse .argument s

def execRelease (s : State) : Host.Outcome State Fault Refusal := requestRow .release handleRelease s

/-! ## BYPASS (R71) -/

def bypassSeat (s : State) (i : Fin 8) : State :=
  let old := seatState s i
  seatMoved i old <| modRestraint s fun r =>
    r.modSeat i fun seat => { seat with state := .bypassed, verifyElapsed := 0, disagreeElapsed := 0 }

def bypass (mask : Byte) (s : State) : State :=
  (allSeats.filter fun i => inMask mask i && (seatState s i).inEvaluation).foldl bypassSeat s

def handleBypass : Handler := fun args s =>
  match args with
  | [mask] =>
    if mask = 0 then refuse .argument s
    else if releaseInProgress s then refuse .mode s
    else
      let t := bypass mask s
      done (be1 (maskOf fun i => seatState t i == .bypassed)) t
  | _ => refuse .argument s

def execBypass (s : State) : Host.Outcome State Fault Refusal := requestRow .bypass handleBypass s

/-! ## RESTORE (R72, R82) -/

/-- RESTORE puts a seat into OPEN or CLOSING in a watched mode other than HALT (R82). -/
def restoreOpens (s : State) (new : SeatState) : Bool :=
  watched s && s.mc.mode != .halt && (new == .open || new == .closing)

/-- One restored seat. Several seats of one RESTORE are judged one after another in ascending number, a later one in the HALT
that an earlier one's report causes (DESIGN CHOICE, log 47). -/
def restoreSeat (s : State) (i : Fin 8) : State :=
  let old := seatState s i
  let t := evaluateSeat i s
  let fault := restoreOpens t (seatState t i)
  let t := refreshPermit t
  let t := if fault then takeFault .restraintOpen .none (i.val + 1) t else t
  if seatState t i = old then t else evalReady t

def isRestored (s : State) (mask : Byte) (i : Fin 8) : Bool := inMask mask i && seatState s i == .bypassed

def handleRestore : Handler := fun args s =>
  match args with
  | [mask] =>
    if mask = 0 then refuse .argument s
    else done (be1 (maskOf (isRestored s mask))) ((allSeats.filter (isRestored s mask)).foldl restoreSeat s)
  | _ => refuse .argument s

def execRestore (s : State) : Host.Outcome State Fault Refusal := requestRow .restore handleRestore s

/-! ## CLEAR_SEAT_EVENTS (R70) -/

/-- Some latch of some seat is set (R69). -/
def Restraint.anyLatch (r : Restraint) : Bool := allSeats.any fun i => (r.seats[i]).latches.any

def clearLatches (mask : Byte) (r : Restraint) : Restraint :=
  let seats := Vector.ofFn fun i : Fin 8 =>
    if inMask mask i && (r.seats[i]).state != .disabled then { r.seats[i] with latches := Latches.clear } else r.seats[i]
  let cleared := { r with seats := seats }
  { cleared with summary := cleared.anyLatch }

def handleClearSeatEvents : Handler := fun args s =>
  match args with
  | [mask] =>
    let t := modRestraint s (clearLatches mask)
    done (latchBytes s ++ flag t.restraint.summary) t
  | _ => refuse .argument s

def execClearSeatEvents (s : State) : Host.Outcome State Fault Refusal :=
  requestRow .clearSeatEvents handleClearSeatEvents s

/-! ## Timers (R65, R66, R77) -/

def verifyDue (s : State) (i : Fin 8) : Bool :=
  seatState s i == .locked && decide (s.params.verifyTime ≤ (s.restraint.seats[i]).verifyElapsed)

/-- VERIFY_TIME_REACHED (R65). -/
def execVerifyTimeReached (seat : Fin 8) (s : State) : Host.Outcome State Fault Refusal :=
  .next <|
    if verifyDue s seat then
      seatMoved seat .locked (modRestraint s fun r => r.modSeat seat fun x => { x with state := .verified })
    else s

def disagreementDue (s : State) (i : Fin 8) : Bool :=
  (seatState s i).inEvaluation && seatState s i != .disagree && (picture s i).conflict &&
    decide (s.params.disagreementTime ≤ (s.restraint.seats[i]).disagreeElapsed)

/-- DISAGREEMENT_TIME_REACHED (R66). -/
def execDisagreementTimeReached (seat : Fin 8) (s : State) : Host.Outcome State Fault Refusal :=
  .next <|
    if disagreementDue s seat then
      let old := seatState s seat
      seatMoved seat old <| modRestraint s fun r =>
        (r.modSeat seat fun x => { x with state := .disagree }).latch seat fun l => { l with enteredDisagree := true }
    else s

def pulseDue (s : State) (i : Fin 8) : Bool :=
  s.restraint.energised.contains i && decide ((s.restraint.seats[i]).pulseTime ≤ (s.restraint.seats[i]).pulseElapsed)

/-- PULSE_TIMEOUT (R77). -/
def execPulseTimeout (seat : Fin 8) (s : State) : Host.Outcome State Fault Refusal :=
  .next <|
    if pulseDue s seat then
      let old := seatState s seat
      let t := modRestraint s fun r =>
        ((r.leaveRelease seat).modSeat seat (Seat.enterEvaluation (picture s seat))).latch seat fun l =>
          { l with releaseFailed := true }
      evalReady (seatMoved seat old (fillEnergised t))
    else s

/-! ## A filtered change of a seat input (R64, R66, R68, R75, R76) -/

/-- A change to `level` matches an edge sense (R68). -/
def EdgeSense.matches (e : EdgeSense) (level : Bool) : Bool :=
  match e with
  | .none => false
  | .rising => level
  | .falling => !level
  | .both => true

/-- The change latch of LOCK_A (0), LOCK_B (1) or BAR_DOWN (2). -/
def setChangeLatch (k : Fin 3) (l : Latches) : Latches :=
  if k = 0 then { l with lockA := true } else if k = 1 then { l with lockB := true } else { l with barDown := true }

/-- The change latch, set in every seat state but DISABLED (R68). -/
def latchChange (i : Fin 8) (k : Fin 3) (level : Bool) (s : State) : State :=
  if seatState s i != .disabled && (s.params.edgeSense[k]).matches level then
    modRestraint s fun r => r.latch i (setChangeLatch k)
  else s

/-- A seat in evaluation after a filtered change, from the picture before and the picture now (R64, R66). -/
def Seat.follow (before now : Picture) (seat : Seat) : Seat :=
  { seat with
    state := if seat.state = .disagree ∧ now.conflict then .disagree else now.seatState
    verifyElapsed := if now.seatState = .locked then 0 else seat.verifyElapsed
    disagreeElapsed := if now.conflict ∧ before.conflict then seat.disagreeElapsed else 0 }

/-- The release of a seat ends by its bar rising (R76). -/
def barRose (i : Fin 8) (s : State) : State :=
  fillEnergised <| modRestraint s fun r =>
    ((r.leaveRelease i).modSeat i (Seat.enterEvaluation (picture s i))).latch i fun l => { l with releaseDone := true }

/-- The Restraint Monitor takes a filtered change of input `k` of a seat, whose picture was `before` (R64, R68, R75). -/
def seatInputChanged (i : Fin 8) (k : Fin 3) (level : Bool) (before : Picture) (s : State) : State :=
  let s := latchChange i k level s
  let old := seatState s i
  match old with
  | .disabled | .bypassed => s
  | .releasing => if k = 2 ∧ level = false then evalReady (seatMoved i old (barRose i s)) else s
  | .open | .closing | .locked | .verified | .disagree =>
    seatMoved i old (modRestraint s fun r => r.modSeat i (Seat.follow before (picture s i)))

/-! ## SOLENOID_MISMATCH (R81, R147) -/

/-- A solenoid fault report for a seat (R81); a DISABLED seat has no latches (R68). -/
def solenoidReport (i : Fin 8) (s : State) : State :=
  let s :=
    if seatState s i = .disabled then s
    else modRestraint s fun r => r.latch i fun l => { l with solenoidFault := true }
  if s.mc.mode.online then takeFault .solenoid .none (i.val + 1) s else s

/-- SOLENOID_MISMATCH, on a terminal whose mismatch count reached 21 (R147). -/
def execSolenoidMismatch (terminal : Fin 40) (s : State) : Host.Outcome State Fault Refusal :=
  .next <|
    if s.terminals.mismatchDue[terminal] then
      let t := modTerminals s fun m => { m with mismatchDue := m.mismatchDue.set terminal false }
      match s.params.outputs[terminal] with
      | .release i => solenoidReport i t
      | .input | .effect _ | .permitLamp | .haltLamp | .density _ => t
    else s

/-! ## The enable mask (R63, R62) -/

/-- One seat under a written mask: a seat taken out is DISABLED with its timers at 0 and its latches clear, a seat put in
enters evaluation, any other is not touched (R63). -/
def maskSeat (mask : Byte) (s : State) (i : Fin 8) : State :=
  let old := seatState s i
  if inMask mask i then
    if old = .disabled then seatMoved i old (evaluateSeat i s) else s
  else if old = .disabled then s
  else
    seatMoved i old <| modRestraint s fun r =>
      r.modSeat i fun seat =>
        { seat with state := .disabled, verifyElapsed := 0, disagreeElapsed := 0, latches := Latches.clear }

/-- The summary is computed again from the latches (R63, R69). -/
def recomputeSummary (s : State) : State := modRestraint s fun r => { r with summary := r.anyLatch }

def applySeatMask (mask : Byte) (s : State) : State := recomputeSummary (allSeats.foldl (maskSeat mask) s)

/-- The enabled seats enter evaluation at the end of start-up (R62, R191). -/
def enableSeats (s : State) : State := allSeats.foldl (maskSeat s.params.seatMask) s

end Sys2Proof.Machine
end

