-- ==== Sys2Proof/Machine/Terminal.lean ====
section
/-! DEFINITION. The Terminal Matrix's rows (8.1 to 8.4), and the density generators' clock (8.5). -/

namespace Sys2Proof.Machine

/-! ## TERMINAL_SAMPLE (R142, R143, R147) -/

/-- An input's debounce count after a sample that finds `level` (R143). -/
def debounceStep (interval count : Nat) (filtered level : Bool) : Nat × Bool :=
  if level = filtered then (0, false) else (min (count + 1) 50, decide (interval ≤ count + 1))

def debounceAt (s : State) (sampled : BitVec 40) (i : Fin 27) : Nat × Bool :=
  debounceStep (debounceInterval s.params i) s.terminals.debounce[i] s.terminals.filtered[i]
    (conditioned s.params sampled i)

/-- The terminal is loopback-checked, and the sample differs from what it drives (R147). -/
def mismatches (s : State) (sampled : BitVec 40) (t : Fin 40) : Bool :=
  match s.params.outputs[t] with
  | .release i => sampled.getLsbD t.val != s.restraint.energised.contains i
  | .input | .effect _ | .permitLamp | .haltLamp | .density _ => false

def mismatchStep (s : State) (sampled : BitVec 40) (t : Fin 40) : Nat :=
  if mismatches s sampled t then min (s.terminals.mismatch[t] + 1) 21 else 0

/-- One sample of all forty terminals. A change or a report that falls due is taken by FILTERED_CHANGE or
SOLENOID_MISMATCH (log 22). -/
def sampleTerminals (s : State) (levels : BitVec 40) : Terminals :=
  { s.terminals with
    sampled := levels
    debounce := Vector.ofFn fun i : Fin 27 => (debounceAt s levels i).1
    changeDue := Vector.ofFn fun i : Fin 27 => (debounceAt s levels i).2
    mismatch := Vector.ofFn fun t : Fin 40 => mismatchStep s levels t
    mismatchDue := Vector.ofFn fun t : Fin 40 =>
      s.terminals.mismatchDue[t] || (s.terminals.mismatch[t] == 20 && mismatches s levels t) }

/-- The strap step of start-up counts the samples since the reset (R191). -/
def countStrapSample (s : State) : State :=
  match s.startUp.phase with
  | .strap n => s.setStartUp { s.startUp with phase := .strap (min (n + 1) 10) }
  | .config | .table _ | .complete => s

/-- TERMINAL_SAMPLE (R142). -/
def execTerminalSample (levels : BitVec 40) (s : State) : Host.Outcome State Fault Refusal :=
  .next (countStrapSample (s.setTerminals (sampleTerminals s levels)))

/-! ## FILTERED_CHANGE (R143, R144) -/

/-- A filtered level takes a new value, and the debounce count becomes 0. -/
def setFiltered (i : Fin 27) (level : Bool) (s : State) : State :=
  modTerminals s fun t =>
    { t with filtered := t.filtered.set i level, debounce := t.debounce.set i 0, changeDue := t.changeDue.set i false }

/-- The seat of an input, and which of its three inputs it is. -/
def seatOfInput (i : Fin 27) : Option (Fin 8 × Fin 3) :=
  if h : i.val < 24 then some (⟨i.val / 3, by omega⟩, ⟨i.val % 3, by omega⟩) else none

/-- AMP_READY becoming active clears the amplifier wait time (R60). -/
def ampReadyChanged (level : Bool) (s : State) : State :=
  if level then modSteering s fun c => { c with ampWait := 0 } else s

/-- A change of ONBOARD_STOP forms the permit again, and its becoming active is a fault (R156, R164). -/
def onboardStopChanged (level : Bool) (s : State) : State :=
  let s := refreshPermit s
  if level then takeFault .onboardStop .none 0 s else s

/-- A filtered change, made and reported to the consumers of R141 (R144). -/
def changeInput (i : Fin 27) (level : Bool) (s : State) : State :=
  let t := setFiltered i level s
  match seatOfInput i with
  | some (seat, k) => seatInputChanged seat k level (picture s seat) t
  | none =>
    if i = ampReadyInput then ampReadyChanged level t
    else if i = onboardStopInput then onboardStopChanged level t
    else t

/-- FILTERED_CHANGE (R143): the filtered level takes the conditioned level, which is the other one. -/
def execFilteredChange (input : Fin 27) (s : State) : Host.Outcome State Fault Refusal :=
  .next (if s.terminals.changeDue[input] then changeInput input (!s.terminals.filtered[input]) s else s)

/-! ## Writes of the map (R140, R145) -/

/-- A source or level in force, by a write or by the configuration of start-up: the filtered level is formed at once from the last
sample (R145). A filtered change that a sample made due and FILTERED_CHANGE has not yet taken is dropped (DESIGN CHOICE, log
57). -/
def applyInput (s : State) (i : Fin 27) : State :=
  let level := conditioned s.params s.terminals.sampled i
  if level = s.terminals.filtered[i] then setFiltered i level s else changeInput i level s

/-- A written output selection clears the terminal's mismatch count (R140), and drops a report of it that SOLENOID_MISMATCH has
not yet taken (DESIGN CHOICE, log 51). -/
def clearMismatch (i : Fin 40) (s : State) : State :=
  modTerminals s fun t => { t with mismatch := t.mismatch.set i 0, mismatchDue := t.mismatchDue.set i false }

/-- The terminal map of a configuration put in force (R145). Every mismatch count is cleared with it, and a report not yet taken
is dropped (DESIGN CHOICE, log 51). -/
def applyMap (s : State) : State :=
  (List.finRange 27).foldl applyInput <|
    modTerminals s fun t => { t with mismatch := Vector.replicate 40 0, mismatchDue := Vector.replicate 40 false }

/-! ## GENERATOR_CLOCK (R151) -/

/-- The top `precision` bits of a code. -/
def topBits (precision code : Nat) : Nat := code / 2 ^ (16 - precision)

/-- One generator clock. -/
def Density.clock (precision : Nat) (g : Density) : Density :=
  let a := g.accumulator + topBits precision g.code
  if 2 ^ precision ≤ a then { g with accumulator := a - 2 ^ precision, bit := true }
  else { g with accumulator := a, bit := false }

/-- GENERATOR_CLOCK: only a running generator has a clock (R151). -/
def execGeneratorClock (generator : Fin 3) (s : State) : Host.Outcome State Fault Refusal :=
  .next <|
    if (s.density[generator]).running then
      s.setDensity (s.density.set generator ((s.density[generator]).clock s.params.dgPrecision[generator]))
    else s

end Sys2Proof.Machine
end

