-- ==== Sys2Proof/Machine/Settings.lean ====
section
/-! DEFINITION. SET_PARAM and GET_PARAM (R188), with the effects of a write. -/

namespace Sys2Proof.Machine

/-- A condition of the owning block that refuses a write (R63, R149). -/
def writeBlocked (s : State) : ParamId → Bool
  | .seatMask => releaseInProgress s
  | .dgPrecision g => (s.density[g]).running
  | .dgDivider g => (s.density[g]).running
  | _ => false

/-- The effects of a write beyond the working configuration itself (R63, R140, R145, R158); every other parameter is read
by the events that use it. -/
def paramWritten (id : ParamId) (s : State) : State :=
  match id with
  | .seatMask => applySeatMask s.params.seatMask s
  | .creepCeiling | .lookahead => formAhead s
  | .output i => clearMismatch i s
  | .source i => applyInput s i
  | .activeLevel i => applyInput s i
  | _ => s

/-- A parameter's response data: number and value (R186). -/
def paramData (number : Nat) (value : Int) : List Byte := be2 number ++ beInt4 value

/-- SET_PARAM of a named parameter (R188). -/
def writeParam (number : Nat) (id : ParamId) (value : Int) (s : State) : Answer :=
  if id.readOnly then refuse .argument s
  else if (id.anyMode || s.mc.mode == .offline) = false ∨ writeBlocked s id then refuse .mode s
  else
    match s.params.assign id (id.applied value).1 with
    | none => refuse .argument s
    | some p => doneOr (id.applied value).2 (paramData number (id.applied value).1) (paramWritten id (s.setParams p))

def handleSetParam : Handler := fun args s =>
  match args with
  | [n1, n0, v3, v2, v1, v0] =>
    match ParamId.ofNumber (beNat [n1, n0]) with
    | none => refuse .argument s
    | some id => writeParam (beNat [n1, n0]) id (beInt [v3, v2, v1, v0]) s
  | _ => refuse .argument s

def execSetParam (s : State) : Host.Outcome State Fault Refusal := requestRow .setParam handleSetParam s

/-- The value that GET_PARAM answers (R188). -/
def paramReading (s : State) (id : ParamId) : Int :=
  if id.readOnly then readOnlyValue s.terminals id else s.params.value id

def handleGetParam : Handler := fun args s =>
  match args with
  | [n1, n0] =>
    match ParamId.ofNumber (beNat [n1, n0]) with
    | none => refuse .argument s
    | some id => done (paramData (beNat [n1, n0]) (paramReading s id)) s
  | _ => refuse .argument s

def execGetParam (s : State) : Host.Outcome State Fault Refusal := requestRow .getParam handleGetParam s

end Sys2Proof.Machine
end

