-- ==== Sys2Proof/Machine/Show.lean ====
section
/-! DEFINITION. The show's rows: NOTICES and the timed rows of the Cue Engine (05), SYNC and the clock's rows (06), the Sound
Engine's requests and rows (07). -/

namespace Sys2Proof.Machine

/-! ## Cue Engine -/

/-- NOTICES (R104). -/
def handleNotices : Handler := fun args s =>
  if args ≠ [] then refuse .argument s
  else done (noticesData s.cues) (modCues s fun c => { c with notices := c.notices.drop 8 })

def execNotices (s : State) : Host.Outcome State Fault Refusal := requestRow .notices handleNotices s

/-- SCENE_CUE_DUE (R96): the advance of the scene timer that reaches a scene cue, taken by itself. The passing of a millisecond
fires the cues that its own advance reaches (DESIGN CHOICE, log 48). -/
def execSceneCueDue (s : State) : Host.Outcome State Fault Refusal :=
  .next (if sceneCueIsDue s then advanceScene s else s)

/-- A PULSING channel has at most one local millisecond left. -/
def Channel.pulseEnds : Channel → Bool
  | .pulsing n => decide (n ≤ 1)
  | .off | .on => false

/-- EFFECT_PULSE_END (R101): the last local millisecond of one channel's pulse taken by itself. The passing of a millisecond ends
the pulses that reach 0 in it (DESIGN CHOICE, log 48). -/
def execEffectPulseEnd (channel : Fin 12) (s : State) : Host.Outcome State Fault Refusal :=
  .next <|
    if (s.cues.channels[channel]).pulseEnds then modCues s fun c => { c with channels := c.channels.set channel .off } else s

/-! ## Show Clock -/

/-- SHOW_CLOCK_ADVANCE (R106). -/
def execShowClockAdvance (s : State) : Host.Outcome State Fault Refusal := .next (s.setClock s.clock.advance)

/-- SYNC_AGE_EXPIRY (R111): the last local millisecond of the sync age taken by itself. SHOW_CLOCK_ADVANCE makes the clock FREE
in its own event when it brings the age to 5000 (DESIGN CHOICE, log 48). -/
def execSyncAgeExpiry (s : State) : Host.Outcome State Fault Refusal :=
  .next (if 4999 ≤ s.clock.age then s.setClock s.clock.expire else s)

/-- A SYNC response: offset, whether it stepped, clock state, step count (R108). -/
def syncData (p : Params) (d : Int) (after : ShowClock) : List Byte :=
  beInt4 (clampInt (-2147483647) 2147483647 (d.tdiv 1000)) ++ flag (syncSteps p d) ++ be1 after.state.code ++
    be2 after.steps

/-- SYNC, of a frame with the capture `k` (R108 to R111, R114). -/
def handleSync (k : Capture) : Handler := fun args s =>
  match args with
  | [t3, t2, t1, t0, u1, u0] =>
    if 999 < beNat [u1, u0] then refuse .argument s
    else
      let d := s.clock.offsetNs k (beNat [t3, t2, t1, t0]) (beNat [u1, u0])
      let after := s.clock.sync s.params d
      done (syncData s.params d after) (resyncAll (s.setClock after))
  | _ => refuse .argument s

/-- The capture of the frame at the head of the queue, which SYNC takes (R107). -/
def headCapture (s : State) : Capture := (s.wli.queue.head?.map (·.capture)).getD ⟨0, 0, 0, 0⟩

def execSync (s : State) : Host.Outcome State Fault Refusal := requestRow .sync (handleSync (headCapture s)) s

/-! ## Sound Engine: requests -/

/-- An AT time more than 600,000 ms after show time (R123). -/
def tooLate (s : State) (ms us : Nat) : Bool := decide (s.clock.elapsedUs ms us < -600000000)

/-- The start mode's own check (R123). -/
def startModeFails (s : State) : VoiceStartMode → Bool
  | .now | .grid _ => false
  | .at ms us => decide (999 < us) || tooLate s ms us

/-- The voice after a start: PLAYING, WAITING, or joined at once when an AT time has come (R122, R124). -/
def requestedVoice (s : State) (a : VoiceStartArgs) (clip : Clip) : Option Voice :=
  let voice := startedVoice clip (min a.gain 8191) a.route (some a.hold)
  match a.start with
  | .now => some voice
  | .grid period => some (voice.waitFor s.clock (s.clock.nextGrid (max 100 (min period 10000))) 0)
  | .at ms us =>
    let v := voice.waitFor s.clock ms us
    if v.joinDue s.clock then v.join s else some v

/-- A gain or a grid period was brought into its range (R123). -/
def startClamped (a : VoiceStartArgs) : Bool :=
  decide (8191 < a.gain) ||
    match a.start with
    | .grid period => decide (period < 100) || decide (10000 < period)
    | .now | .at .. => false

/-- VOICE_START (R123). -/
def handleVoiceStart : Handler := fun args s =>
  match VoiceStartArgs.parse args with
  | none => refuse .argument s
  | some a =>
    match findClip s a.clip with
    | none => refuse .argument s
    | some clip =>
      if startModeFails s a.start then refuse .argument s
      else if storeIdle s = false then refuse .busy s
      else
        let v := requestedVoice s a clip
        doneOr (startClamped a) (voiceStartData v) (putVoice s (showVoice a.voice) v)

def execVoiceStart (s : State) : Host.Outcome State Fault Refusal := requestRow .voiceStart handleVoiceStart s

/-- VOICE_STOP (R127). -/
def handleVoiceStop : Handler := fun args s =>
  match args with
  | [v, f1, f0] =>
    match runIndex 0 4 v.toNat with
    | none => refuse .argument s
    | some voice =>
      let fade := beNat [f1, f0]
      let t := stopVoice s (showVoice voice) (min fade 5000)
      doneOr (decide (5000 < fade)) (be1 (voiceCode (voiceAt t (showVoice voice)))) t
  | _ => refuse .argument s

def execVoiceStop (s : State) : Host.Outcome State Fault Refusal := requestRow .voiceStop handleVoiceStop s

/-- A VOICE_GAIN response: state and gain; an IDLE voice holds no gain, answered 0 (DESIGN CHOICE, log 44). -/
def voiceGainData (v : Option Voice) : List Byte := be1 (voiceCode v) ++ be2 ((v.map (·.gain)).getD 0)

/-- VOICE_GAIN (R128). -/
def handleVoiceGain : Handler := fun args s =>
  match args with
  | [v, t1, t0, r1, r0] =>
    match runIndex 0 4 v.toNat with
    | none => refuse .argument s
    | some voice =>
      let target := beNat [t1, t0]
      let ramp := beNat [r1, r0]
      let t := changeGain s (showVoice voice) (min target 8191) (min ramp 10000)
      doneOr (decide (8191 < target) || decide (10000 < ramp)) (voiceGainData (voiceAt t (showVoice voice))) t
  | _ => refuse .argument s

def execVoiceGain (s : State) : Host.Outcome State Fault Refusal := requestRow .voiceGain handleVoiceGain s

/-- The master volumes after a write to a channel (R136). -/
def setVolume (r : Route) (v : Nat) (snd : Sound) : Sound :=
  { snd with masterA := if r.feedsA then v else snd.masterA, masterB := if r.feedsB then v else snd.masterB }

/-- MASTER_VOLUME (R136). -/
def handleMasterVolume : Handler := fun args s =>
  match args with
  | [] => done (volumeData s.sound) s
  | [c, v1, v0] =>
    match Route.ofCode c.toNat with
    | none => refuse .argument s
    | some r =>
      let t := s.setSound (setVolume r (min (beNat [v1, v0]) 4096) s.sound)
      doneOr (decide (4096 < beNat [v1, v0])) (volumeData t.sound) t
  | _ => refuse .argument s

def execMasterVolume (s : State) : Host.Outcome State Fault Refusal := requestRow .masterVolume handleMasterVolume s

/-- ANNOUNCE (R133). With clip 0 the gain is not used, and one above 8191 is answered DONE (DESIGN CHOICE, log 50). -/
def handleAnnounce : Handler := fun args s =>
  match args with
  | [c, g1, g0] =>
    if c = 0 then done (be1 0) (putVoice s announceVoice none)
    else
      match findClip s c.toNat with
      | none => refuse .argument s
      | some clip =>
        if storeIdle s = false then refuse .busy s
        else
          let gain := beNat [g1, g0]
          let v := startedVoice clip (min gain 8191) .both none
          doneOr (decide (8191 < gain)) (be1 (voiceCode (some v))) (putVoice s announceVoice (some v))
  | _ => refuse .argument s

def execAnnounce (s : State) : Host.Outcome State Fault Refusal := requestRow .announce handleAnnounce s

/-! ## Sound Engine: rows -/

def joinIsDue (s : State) (i : Fin 6) : Bool := ((voiceAt s i).map (Voice.joinDue s.clock)).getD false

/-- VOICE_JOIN (R124). -/
def execVoiceJoin (voice : Fin 6) (s : State) : Host.Outcome State Fault Refusal :=
  .next (if joinIsDue s voice then putVoice s voice ((voiceAt s voice).bind (Voice.join s)) else s)

/-- The voices' ramps and the duck level, moved by one local millisecond, with the fades that end in it (R126, R134). -/
def rampAll (snd : Sound) : Sound :=
  { snd with
    voices := Vector.ofFn fun i : Fin 6 => (snd.voices[i]).bind Voice.rampTick
    duckLevel := rampStep snd.duckLevel snd.duckTarget snd.duckRamp
    duckRamp := snd.duckRamp - 1 }

/-- GAIN_RAMP_TICK (R126). -/
def execGainRampTick (s : State) : Host.Outcome State Fault Refusal := .next (s.setSound (rampAll s.sound))

def fadeEnding (s : State) (i : Fin 6) : Bool := ((voiceAt s i).map Voice.fadeEnds).getD false

/-- FADE_END (R126): the last local millisecond of one voice's fade, taken by itself. GAIN_RAMP_TICK ends the fades that are
left in its own event (DESIGN CHOICE, log 49). -/
def execFadeEnd (voice : Fin 6) (s : State) : Host.Outcome State Fault Refusal :=
  .next (if fadeEnding s voice then putVoice s voice none else s)

/-- A mixed sample, clamped, and whether it was clamped (R137 step 4). -/
def clampSample (m : Int) : Int := clampInt (-32768) 32767 m

/-- One channel of the mixer: its code, and its saturation count (R137). -/
def mixCode (m : Int) : Nat := (clampSample m + 32768).toNat

def mixCount (count : Nat) (m : Int) : Nat := if clampSample m = m then count else bump count

/-- The saturation counts, the voices one sample on, and the codes handed to DG1 and DG2 (R120, R137). -/
def sampleClock (s : State) : State :=
  let a := mixed s Route.feedsA s.sound.masterA
  let b := mixed s Route.feedsB s.sound.masterB
  let t := allVoices.foldl (fun t i => putVoice t i ((voiceAt s i).bind (Voice.afterSample s))) s
  let t := t.setSound { t.sound with
    saturationA := mixCount s.sound.saturationA a, saturationB := mixCount s.sound.saturationB b }
  handCode (handCode t 1 (mixCode a)) 2 (mixCode b)

/-- SAMPLE_CLOCK (R137). -/
def execSampleClock (s : State) : Host.Outcome State Fault Refusal :=
  match badSample s with
  | some address => .fault (.noStoreAddress address)
  | none => .next (sampleClock s)

end Sys2Proof.Machine
end

