-- ==== Sys2Proof/Machine/StoreOps.lean ====
section
/-! DEFINITION. The Store Controller's rows: the clip region and SAVE (11.2). -/

namespace Sys2Proof.Machine

/-- The store state is not IDLE, or some voice is not IDLE: BUSY (R189, R190). -/
def storeBusy (s : State) : Bool := !storeIdle s || !voicesIdle s

def setActivity (a : StoreActivity) (s : State) : State := modStore s fun x => { x with activity := a }

/-- The operation in flight ended: IDLE, with the error flag cleared or set (R189, R190). -/
def endActivity (success : Bool) (s : State) : State :=
  modStore s fun x => { x with activity := .idle, errorFlag := !success }

/-! ## Requests of SC (R189) -/

/-- `count` bytes from an address on lie in the clip region, and `count` is 1 to 32. -/
def clipRange (address count : Nat) : Bool :=
  decide (1 ≤ count) && decide (count ≤ 32) && decide (address + count ≤ Config.clipRegionBytes)

def handleStoreWrite : Handler := fun args s =>
  match args with
  | a2 :: a1 :: a0 :: data =>
    if clipRange (beNat [a2, a1, a0]) data.length = false then refuse .argument s
    else if storeBusy s then refuse .busy s
    else done [] (setActivity (.writing (beNat [a2, a1, a0]) data 0) s)
  | _ => refuse .argument s

def execStoreWrite (s : State) : Host.Outcome State Fault Refusal := requestRow .storeWrite handleStoreWrite s

def handleStoreErase : Handler := fun args s =>
  match args with
  | [a2, a1, a0] =>
    let address := beNat [a2, a1, a0]
    if address % Config.eraseBlockBytes ≠ 0 ∨ Config.clipRegionBytes ≤ address then refuse .argument s
    else if storeBusy s then refuse .busy s
    else done [] (setActivity (.erasing (address / Config.eraseBlockBytes) 0) s)
  | _ => refuse .argument s

def execStoreErase (s : State) : Host.Outcome State Fault Refusal := requestRow .storeErase handleStoreErase s

def handleStoreRead : Handler := fun args s =>
  match args with
  | [a2, a1, a0, n] =>
    if clipRange (beNat [a2, a1, a0]) n.toNat = false then refuse .argument s
    else if storeBusy s then refuse .busy s
    else done (s.store.memory.readAll (beNat [a2, a1, a0]) n.toNat) s
  | _ => refuse .argument s

def execStoreRead (s : State) : Host.Outcome State Fault Refusal := requestRow .storeRead handleStoreRead s

/-! ## The end of a write or erase (R189) -/

/-- The memory after an operation that ended in success. -/
def storeEffect (m : Memory) : StoreActivity → Memory
  | .writing address data _ => m.writeAll address data
  | .erasing block _ => m.eraseBlock block
  | .idle | .saving .. | .restoring => m

/-- The memory after operation number `n` that ended in error or passed its limit (log 11). -/
def storeLoss (m : Memory) (n : Nat) : StoreActivity → Memory
  | .writing address data _ => m.loseWrite n address data.length
  | .erasing block _ => m.loseErase n block
  | .idle | .saving .. | .restoring => m

/-- A write or an erase is in flight. -/
def clipOperation : StoreActivity → Bool
  | .writing .. | .erasing .. => true
  | .idle | .saving .. | .restoring => false

def storeSucceeds (s : State) : State :=
  endActivity true (modStore s fun x => { x with memory := storeEffect x.memory x.activity })

def storeFails (s : State) : State :=
  (endActivity false (modStore s fun x => { x with memory := storeLoss x.memory s.freeDraws x.activity })).setFreeDraws
    (s.freeDraws + 1)

/-- STORE_COMPLETE (R189). -/
def execStoreComplete (success : Bool) (s : State) : Host.Outcome State Fault Refusal :=
  .next (if clipOperation s.store.activity then (if success then storeSucceeds s else storeFails s) else s)

/-- A write has passed 2 ms, or an erase 500 ms (R189, log 20). -/
def storeTimedOut (s : State) : Bool :=
  match s.store.activity with
  | .writing _ _ elapsed => decide (2 < elapsed)
  | .erasing _ elapsed => decide (500 < elapsed)
  | .idle | .saving .. | .restoring => false

/-- STORE_TIMEOUT (R189). -/
def execStoreTimeout (s : State) : Host.Outcome State Fault Refusal :=
  .next (if storeTimedOut s then storeFails s else s)

/-! ## SAVE (R190) -/

/-- The section that SAVE writes for a table: absent unless VALID (R190). -/
def sectionOf {α : Type} (t : Table α) : Section α :=
  if t.status = .valid then .present t.entries.length t.crc t.entries else .absent

/-- The copy that SAVE takes (R190). -/
def imageOf (s : State) : Image :=
  { config := some s.params, route := sectionOf s.tables.route, routeLength := s.tables.routeLength
    markers := sectionOf s.tables.markers, cues := sectionOf s.tables.cues, clips := sectionOf s.tables.clips }

def handleSave : Handler := fun args s =>
  if args ≠ [] then refuse .argument s
  else if storeBusy s then refuse .busy s
  else done [] (setActivity (.saving (imageOf s) 0) s)

def execSave (s : State) : Host.Outcome State Fault Refusal := requestRow .save handleSave s

/-- A section after image write number `n` that failed or was cut: old, new, or failing its CRC (log 13). -/
def cutSection {α : Type} (n i : Nat) (old new : Section α) : Section α :=
  match Config.sectionFate n i with
  | 0 => old
  | 1 => new
  | _ => .broken

/-- The image after image write number `n` of `new` over `old` that failed or was cut (R190, log 13). -/
def cutImage (n : Nat) (old new : Image) : Image :=
  { config := match Config.sectionFate n 0 with
      | 0 => old.config
      | 1 => new.config
      | _ => none
    route := cutSection n 1 old.route new.route
    routeLength := if Config.sectionFate n 1 = 0 then old.routeLength else new.routeLength
    markers := cutSection n 2 old.markers new.markers
    cues := cutSection n 3 old.cues new.cues
    clips := cutSection n 4 old.clips new.clips }

def saveSucceeds (copy : Image) (s : State) : State :=
  endActivity true (modStore s fun x => { x with image := copy })

def saveFails (copy : Image) (s : State) : State :=
  (endActivity false (modStore s fun x => { x with image := cutImage s.freeDraws x.image copy })).setFreeDraws
    (s.freeDraws + 1)

/-- SAVE_COMPLETE (R190). -/
def execSaveComplete (success : Bool) (s : State) : Host.Outcome State Fault Refusal :=
  .next <|
    match s.store.activity with
    | .saving copy _ => if success then saveSucceeds copy s else saveFails copy s
    | .idle | .writing .. | .erasing .. | .restoring => s

/-- SAVE has passed 400 ms (R190, log 20). -/
def saveTimedOut (s : State) : Bool :=
  match s.store.activity with
  | .saving _ elapsed => decide (400 < elapsed)
  | .idle | .writing .. | .erasing .. | .restoring => false

/-- SAVE_TIMEOUT (R190). -/
def execSaveTimeout (s : State) : Host.Outcome State Fault Refusal :=
  .next <|
    match s.store.activity with
    | .saving copy _ => if saveTimedOut s then saveFails copy s else s
    | .idle | .writing .. | .erasing .. | .restoring => s

end Sys2Proof.Machine
end

