-- ==== Sys2Proof/Machine/Tables.lean ====
section
/-! DEFINITION. Loading the four tables: TABLE_BEGIN, TABLE_ENTRY, TABLE_END and the pair check (2.1, R22 to R28, R42, R86,
R117, R118). -/

namespace Sys2Proof.Machine

/-! ## One table -/

/-- A table that has just been begun (R23). -/
def Table.begun (α : Type) : Table α := ⟨.loading, [], 0xFFFF⟩

/-- An entry appended, with the running CRC extended over its bytes (R24). -/
def Table.push {α : Type} (t : Table α) (entry : α) (bytes : List Byte) : Table α :=
  { t with entries := t.entries ++ [entry], crc := crc16From t.crc bytes }

/-- The carried count and CRC agree with the table's own (R25). -/
def Table.agrees {α : Type} (t : Table α) (count crc : Nat) : Bool :=
  t.entries.length == count && t.crc.toNat == crc

/-- The table after TABLE_END (R25). -/
def Table.close {α : Type} (t : Table α) (ok : Bool) : Table α :=
  if ok then { t with status := .valid } else Table.empty α

/-! ## TABLE_BEGIN (R23, R42, R118) -/

/-- The effect on the Position Tracker of emptying the route table (R31, R42). -/
def routeEmptied (s : State) : State :=
  becomeUnsync (modTracker s fun t => { t with p := 0, segment := none, highWater := 0 })

/-- V5 becomes IDLE at once when the clip directory is emptied (R118). -/
def clipsEmptied (s : State) : State := putVoice s announceVoice none

/-- The range of a route length (R26). -/
def routeLengthInRange (len : Nat) : Bool := decide (10000 ≤ len) && decide (len ≤ 2000000)

def handleTableBegin : Handler := fun args s =>
  let t := s.tables
  match namedTable args, args with
  | some .route, [_, l2, l1, l0] =>
    let len := beNat [l2, l1, l0]
    if routeLengthInRange len then
      done [] (routeEmptied (s.setTables { t with route := Table.begun _, routeLength := len }))
    else refuse .argument s
  | some .marker, [_] => done [] (becomeUnsync (s.setTables { t with markers := Table.begun _ }))
  | some .cue, [_] => done [] (s.setTables { t with cues := Table.begun _ })
  | some .clip, [_] => done [] (clipsEmptied (s.setTables { t with clips := Table.begun _ }))
  | _, _ => refuse .argument s

def execTableBegin (s : State) : Host.Outcome State Fault Refusal := requestRow .tableBegin handleTableBegin s

/-! ## TABLE_ENTRY (R24, R26, R27, R86, R117). `none` is an entry that passes every check. -/

/-- Checks of a route entry (R26). -/
def checkSegment (t : Table Segment) (entry : Option Segment) : Option Status :=
  if 256 ≤ t.entries.length then some .full
  else
    match entry with
    | none => some .argument
    | some g =>
      match t.entries.getLast? with
      | none => if g.start = 0 then none else some .order
      | some last => if last.start < g.start then none else some .order

/-- Checks of a marker entry (R27). -/
def checkMarker (t : Table Marker) (entry : Option Marker) : Option Status :=
  if 512 ≤ t.entries.length then some .full
  else
    match entry with
    | none => some .argument
    | some m =>
      if t.entries.any fun o => o.id == m.id then some .argument
      else
        match t.entries.getLast? with
        | none => none
        | some last => if last.position < m.position then none else some .order

/-- The actions of all cues of a table. -/
def actionTotal (entries : List Cue) : Nat := (entries.map fun c => c.actions.length).sum

/-- Checks of a cue entry (R86), whose header gives `actions` as its action count. The capacity check comes first, so it
counts the actions of an entry whose form is wrong as well (log 25). -/
def checkCue (actions : Nat) (t : Table Cue) (entry : Option Cue) : Option Status :=
  if 512 ≤ t.entries.length ∨ 1536 < actionTotal t.entries + actions then some .full
  else
    match entry with
    | none => some .argument
    | some c =>
      if t.entries.any fun o => o.id == c.id then some .argument
      else
        match t.entries.getLast? with
        | none => none
        | some last => if last.trigger.below c.trigger then none else some .order

/-- Checks of a clip entry (R117). -/
def checkClip (t : Table Clip) (entry : Option Clip) : Option Status :=
  if 128 ≤ t.entries.length then some .full
  else
    match entry with
    | none => some .argument
    | some c =>
      match t.entries.getLast? with
      | none => none
      | some last => if last.number < c.number then none else some .order

/-- One entry for a table: refused MODE unless LOADING, else by its checks, else appended (R24). -/
def takeEntry {α : Type} (t : Table α) (entry : Option α) (check : Table α → Option α → Option Status)
    (bytes : List Byte) (put : Table α → State) (s : State) : Answer :=
  if t.status ≠ .loading then refuse .mode s
  else
    match check t entry, entry with
    | some st, _ => refuse st s
    | none, some e => done [] (put (t.push e bytes))
    | none, none => refuse .argument s

def handleTableEntry : Handler := fun args s =>
  let t := s.tables
  let bytes := args.drop 1
  match namedTable args with
  | some .route =>
    takeEntry t.route (Segment.parse t.routeLength bytes) checkSegment bytes (fun x => s.setTables { t with route := x }) s
  | some .marker =>
    takeEntry t.markers (Marker.parse bytes) checkMarker bytes (fun x => s.setTables { t with markers := x }) s
  | some .cue =>
    takeEntry t.cues (Cue.parse bytes) (checkCue (Cue.actionCount bytes)) bytes
      (fun x => s.setTables { t with cues := x }) s
  | some .clip => takeEntry t.clips (Clip.parse bytes) checkClip bytes (fun x => s.setTables { t with clips := x }) s
  | none => refuse .argument s

def execTableEntry (s : State) : Host.Outcome State Fault Refusal := requestRow .tableEntry handleTableEntry s

/-! ## TABLE_END (R25, R28) -/

/-- A marker lies at or beyond the end of the route while both tables are VALID (R28). -/
def pairFails (t : Tables) : Bool :=
  t.route.status == .valid && t.markers.status == .valid && t.markers.entries.any fun m => decide (t.routeLength ≤ m.position)

/-- The pair check; a marker table that it makes INVALID has the effect of a marker TABLE_BEGIN (R28, R42). -/
def pairCheck (s : State) : State :=
  if pairFails s.tables then becomeUnsync (s.setTables { s.tables with markers := Table.empty _ }) else s

/-- TABLE_END of one table: the response gives the status, and the count and CRC as compared (R25, log 24). -/
def endTable {α : Type} (t : Table α) (ok : Bool) (put : Table α → State) (s : State) : Answer :=
  if t.status ≠ .loading then refuse .mode s
  else
    let x := t.close ok
    done (be1 x.status.code ++ be2 t.entries.length ++ be2 t.crc.toNat) (put x)

def handleTableEnd : Handler := fun args s =>
  let t := s.tables
  match namedTable args, args with
  | some table, [_, n1, n0, c1, c0] =>
    let count := beNat [n1, n0]
    let crc := beNat [c1, c0]
    match table with
    | .route =>
      let ok := t.route.agrees count crc && !t.route.entries.isEmpty
      endTable t.route ok
        (fun x => pairCheck (s.setTables { t with route := x, routeLength := if ok then t.routeLength else 0 })) s
    | .marker =>
      endTable t.markers (t.markers.agrees count crc) (fun x => pairCheck (s.setTables { t with markers := x })) s
    | .cue => endTable t.cues (t.cues.agrees count crc) (fun x => s.setTables { t with cues := x }) s
    | .clip => endTable t.clips (t.clips.agrees count crc) (fun x => s.setTables { t with clips := x }) s
  | _, _ => refuse .argument s

def execTableEnd (s : State) : Host.Outcome State Fault Refusal := requestRow .tableEnd handleTableEnd s

end Sys2Proof.Machine
end

