-- ==== Sys2Proof/Machine/StartUpOps.lean ====
section
/-! DEFINITION. Resets and start-up (11.3), and RESTART (R192). -/

namespace Sys2Proof.Machine

/-! ## HARDWARE_RESET (R191, R185, R189) -/

/-- The memory when a hardware reset ends operation number `n` in flight (R189, log 11). -/
def tornMemory (m : Memory) (n : Nat) : StoreActivity → Memory
  | .writing address data _ => m.tearWrite n address data
  | .erasing block _ => m.tearErase n block
  | .idle | .saving .. | .restoring => m

/-- The image when a hardware reset ends image write number `n` (R190, log 13). -/
def tornImage (old : Image) (n : Nat) : StoreActivity → Image
  | .saving copy _ => cutImage n old copy
  | .idle | .writing .. | .erasing .. | .restoring => old

/-- Every block at its values after a hardware reset. The store's contents, the waiting commands and the count of free
values are not the part's registers, and stay (log 33). -/
def hardwareReset (s : State) : State :=
  { State.reset with
    pending := s.pending
    store := { State.reset.store with
      memory := tornMemory s.store.memory s.freeDraws s.store.activity
      image := tornImage s.store.image s.freeDraws s.store.activity }
    freeDraws := s.freeDraws + 1 }

/-- HARDWARE_RESET (R191). -/
def execHardwareReset (s : State) : Host.Outcome State Fault Refusal := .next (hardwareReset s)

/-! ## RESTART (R192, R185) -/

/-- Every block at its values after a restart. Kept: the fault log and its next record number, the link counters, the
protection fault count (R192), the outgoing list and the response in transmission, the exchange in progress (R185), local
time, the store's contents (log 8, 33, 39). -/
def restart (s : State) : State :=
  let z := State.reset
  { z with
    localMs := s.localMs
    pending := s.pending
    wli := { z.wli with
      outgoing := s.wli.outgoing, transmitting := s.wli.transmitting, quiet := s.wli.quiet
      crcDiscards := s.wli.crcDiscards, formatDiscards := s.wli.formatDiscards, brokenFrames := s.wli.brokenFrames
      strayCharacters := s.wli.strayCharacters, overruns := s.wli.overruns, groupDiscards := s.wli.groupDiscards
      linkRate := s.wli.linkRate }
    dli := { z.dli with
      outgoing := s.dli.outgoing, heldOver := s.dli.outgoing.isSome
      badExchanges := s.dli.badExchanges, duplicates := s.dli.duplicates
      missedExchanges := s.dli.missedExchanges }
    mc := { z.mc with protectionFaults := s.mc.protectionFaults }
    steering := { z.steering with reference := s.localMs }
    store := { z.store with memory := s.store.memory, image := s.store.image }
    permit := { z.permit with log := s.permit.log, nextNumber := s.permit.nextNumber }
    freeDraws := s.freeDraws }

def handleRestart : Handler := fun args s =>
  if args ≠ [] then refuse .argument s
  else if storeIdle s = false then refuse .busy s
  else done [] (restart s)

def execRestart (s : State) : Host.Outcome State Fault Refusal := requestRow .restart handleRestart s

/-! ## Completion (R191 step 4) -/

/-- The chosen configuration put in force, the store IDLE, the map applied, the enabled seats in evaluation, then the permit
formed and the links opened. Its RC timeout and drive timeout count from the next local millisecond on, as written ones do (DESIGN
CHOICE, log 59). -/
def completeStartUp (s : State) : State :=
  let s := modStore (s.setParams s.startUp.chosen) fun x => { x with activity := .idle }
  let s := enableSeats (applyMap s)
  formCeilings (refreshPermit (s.setStartUp { s.startUp with phase := .complete }))

/-! ## STRAP_READ (R191 step 1) -/

/-- The filtered level of DEFAULTS_STRAP, with a change that the tenth sample brought (R146, log 23). -/
def strapActive (s : State) : Bool := s.terminals.filtered[strapInput] != s.terminals.changeDue[strapInput]

/-- The configuration that start-up has chosen, and the DEFAULTED flag (R191). -/
def choose (p : Params) (defaulted : Bool) (s : State) : State :=
  modStore (s.setStartUp { s.startUp with chosen := p }) fun x => { x with defaulted := defaulted }

def setPhase (phase : StartPhase) (s : State) : State := s.setStartUp { s.startUp with phase := phase }

/-- Ten samples have been taken since the reset (R191). -/
def strapDue (s : State) : Bool :=
  match s.startUp.phase with
  | .strap n => decide (10 ≤ n)
  | .config | .table _ | .complete => false

/-- STRAP_READ (R191). -/
def execStrapRead (s : State) : Host.Outcome State Fault Refusal :=
  .next <|
    if strapDue s then
      if strapActive s then completeStartUp (choose Params.defaults true s) else setPhase .config s
    else s

/-! ## SECTION_READ (R191 steps 2 and 3) -/

def Section.isPresent {α : Type} : Section α → Bool
  | .absent => false
  | .present .. | .broken => true

/-- The entries of a good section: its count and the CRC-16 of its entries agree (R191). -/
def Section.good {α : Type} (bytes : α → List Byte) : Section α → Option (Table α)
  | .present count crc entries =>
    if entries.length = count ∧ crc16 (entries.flatMap bytes) = crc then some ⟨.valid, entries, crc⟩ else none
  | .absent | .broken => none

/-- A table section is marked present. -/
def sectionPresent (m : Image) : TableId → Bool
  | .route => m.route.isPresent
  | .marker => m.markers.isPresent
  | .cue => m.cues.isPresent
  | .clip => m.clips.isPresent

/-- The sections after one, in the order in which they are read. -/
def sectionsAfter : Option TableId → List TableId
  | none => [.route, .marker, .cue, .clip]
  | some .route => [.marker, .cue, .clip]
  | some .marker => [.cue, .clip]
  | some .cue => [.clip]
  | some .clip => []

/-- On to the next section marked present, or to completion when none is left (R191). -/
def nextSection (read : Option TableId) (s : State) : State :=
  match (sectionsAfter read).find? (sectionPresent s.store.image) with
  | some t => setPhase (.table t) s
  | none => completeStartUp s

/-- A table section judged: a good one makes its table VALID, with the pair check for the marker table (R191, R28). -/
def judgeSection (t : TableId) (s : State) : State :=
  let m := s.store.image
  match t with
  | .route =>
    match m.route.good Segment.bytes with
    | some x => s.setTables { s.tables with route := x, routeLength := m.routeLength }
    | none => s
  | .marker =>
    match m.markers.good Marker.bytes with
    | some x => pairCheck (s.setTables { s.tables with markers := x })
    | none => s
  | .cue =>
    match m.cues.good Cue.bytes with
    | some x => s.setTables { s.tables with cues := x }
    | none => s
  | .clip =>
    match m.clips.good Clip.bytes with
    | some x => s.setTables { s.tables with clips := x }
    | none => s

/-- SECTION_READ: a read that fails counts as a CRC mismatch (R191). -/
def execSectionRead (readable : Bool) (s : State) : Host.Outcome State Fault Refusal :=
  .next <|
    match s.startUp.phase with
    | .config =>
      let chosen := if readable then s.store.image.config else none
      nextSection none (choose (chosen.getD Params.defaults) chosen.isNone s)
    | .table t => nextSection (some t) (if readable then judgeSection t s else s)
    | .strap _ | .complete => s

end Sys2Proof.Machine
end

