-- ==== Sys2Proof/Machine/Time.lean ====
section
/-! DEFINITION. What happens when no command waits: the event that is due, and the passing of one local millisecond
(log 2, 3, 20, 21). -/

namespace Sys2Proof.Machine

/-! ## Events that are due -/

/-- The command that takes a request of a kind. -/
def Kind.command : Kind → Instr
  | .status => .status
  | .goOnline => .goOnline
  | .goOffline => .goOffline
  | .dispatch => .dispatch
  | .hold => .hold
  | .resume => .resume
  | .advance => .advance
  | .stopNow => .stopNow
  | .recover => .recover
  | .release => .release
  | .bypass => .bypass
  | .restore => .restore
  | .clearSeatEvents => .clearSeatEvents
  | .setSpeedLimit => .setSpeedLimit
  | .announce => .announce
  | .readFaultLog => .readFaultLog
  | .setParam => .setParam
  | .getParam => .getParam
  | .save => .save
  | .restart => .restart
  | .preface => .preface
  | .tableBegin => .tableBegin
  | .tableEntry => .tableEntry
  | .tableEnd => .tableEnd
  | .showStatus => .showStatus
  | .notices => .notices
  | .storeWrite => .storeWrite
  | .storeErase => .storeErase
  | .storeRead => .storeRead
  | .sync => .sync
  | .voiceStart => .voiceStart
  | .voiceStop => .voiceStop
  | .voiceGain => .voiceGain
  | .masterVolume => .masterVolume

/-- The command that takes the head frame, when it can be taken (R175). -/
def headCommand (s : State) : Option Instr :=
  match s.wli.queue with
  | [] => none
  | f :: _ =>
    if takable s f then
      match Kind.ofCode f.kind with
      | some k => some k.command
      | none => some .unknownKind
    else none

/-- A command, where its event is due. -/
def dueIf (condition : Bool) (c : Instr) : Option Instr := if condition then some c else none

/-- The first place of a kind at which an event is due. -/
def dueAt {n : Nat} (condition : Fin n → Bool) (c : Fin n → Instr) : Option Instr :=
  ((List.finRange n).find? condition).map c

/-- The event that is taken next when no command waits; a request is taken after what the time and the terminals made due
(log 2, 3). -/
def due (s : State) : Option Instr :=
  firstSome
    [dueAt (fun i => s.terminals.changeDue[i]) .filteredChange,
      dueAt (fun t => s.terminals.mismatchDue[t]) .solenoidMismatch,
      dueIf (strapDue s) .strapRead,
      dueAt (verifyDue s) .verifyTimeReached,
      dueAt (disagreementDue s) .disagreementTimeReached,
      dueAt (pulseDue s) .pulseTimeout,
      dueIf (ampNotReadyDue s) .ampNotReady,
      dueIf (stationaryDue s) .stationary,
      dueIf (driveTimedOut s) .driveTimeout,
      dueIf (rcSilent s) .rcLinkLost,
      dueIf (prefaceLapsed s .rc) (.prefaceLapse .rc),
      dueIf (prefaceLapsed s .sc) (.prefaceLapse .sc),
      dueAt (joinIsDue s) .voiceJoin,
      dueIf (frameTimedOut s 0) (.frameTimeout 0),
      dueIf (canRespond s 0) (.responseStart 0),
      dueIf (linkRateDue s) .linkRateApply,
      dueIf (storeTimedOut s) .storeTimeout,
      dueIf (saveTimedOut s) .saveTimeout,
      headCommand s]

/-! ## One local millisecond -/

/-- Whole character times in one local millisecond, at 11 bits a character (R172, R179; log 5). -/
def charactersPerMs (rate : Fin 4) : Nat := [10, 20, 41, 83].getD rate.val 20

def tickWli (p : Params) (w : Wli) : Wli :=
  { w with rcSilence := min (w.rcSilence + 1) 65535, scSilence := min (w.scSilence + 1) 65535, rcTimeout := p.rcTimeout
           quiet := min (w.quiet + charactersPerMs w.linkRate) 65535 }

def tickDli (p : Params) (d : Dli) : Dli :=
  { d with silence := min (d.silence + 1) 65535, driveTimeout := p.driveTimeout }

/-- The amplifier wait time (R60). -/
def tickSteering (s : State) : Steering :=
  if ampReady s = false ∧ s.permit.level.still = false then
    { s.steering with ampWait := min (s.steering.ampWait + 1) 101 }
  else s.steering

/-- Verify, disagreement and pulse elapsed (R65, R66, R77). -/
def tickSeat (p : Picture) (energised : Bool) (seat : Seat) : Seat :=
  { seat with
    verifyElapsed := if seat.state = .locked then min (seat.verifyElapsed + 1) 2000 else seat.verifyElapsed
    disagreeElapsed :=
      if seat.state.inEvaluation ∧ p.conflict then min (seat.disagreeElapsed + 1) 1000 else seat.disagreeElapsed
    pulseElapsed := if energised then min (seat.pulseElapsed + 1) 5000 else seat.pulseElapsed }

def tickRestraint (s : State) : Restraint :=
  { s.restraint with
    seats := Vector.ofFn fun i : Fin 8 =>
      tickSeat (picture s i) (s.restraint.energised.contains i) s.restraint.seats[i] }

/-- A pulse counts down, and the channel is OFF from the event in which it reaches 0 (R101). -/
def tickChannel : Channel → Channel
  | .off => .off
  | .on => .on
  | .pulsing n => if n ≤ 1 then .off else .pulsing (n - 1)

/-- The pulses (R101). -/
def tickCues (e : CueEngine) : CueEngine :=
  { e with channels := Vector.ofFn fun i : Fin 12 => tickChannel e.channels[i] }

/-- The elapsed time of the operation in flight (R189, R190). -/
def tickActivity : StoreActivity → StoreActivity
  | .idle => .idle
  | .writing address data elapsed => .writing address data (elapsed + 1)
  | .erasing block elapsed => .erasing block (elapsed + 1)
  | .saving copy elapsed => .saving copy (elapsed + 1)
  | .restoring => .restoring

/-- What one local millisecond counts in each block, the scene timer apart. -/
def countMillisecond (s : State) : State :=
  { s with
    localMs := s.localMs + 1
    wli := tickWli s.params s.wli
    dli := tickDli s.params s.dli
    steering := tickSteering s
    restraint := tickRestraint s
    cues := tickCues s.cues
    store := { s.store with activity := tickActivity s.store.activity } }

/-- One local millisecond passes, and the scene cues that the timer reaches in it fire (R96). A pulse that ends in the same
millisecond ends before they do, where R101 lets either be first (DESIGN CHOICE, log 48). The rows that fall each local
millisecond or faster are commands of their own (log 3). -/
def tick (s : State) : State := advanceScene (countMillisecond s)

end Sys2Proof.Machine
end

