-- ==== Sys2Proof/Machine/Dispatch.lean ====
section
/-! DEFINITION. Every command to its meaning. -/

namespace Sys2Proof.Machine

def exec (i : Instr) (s : State) : Host.Outcome State Fault Refusal :=
  match i with
  | .hardwareReset => Sys2Proof.Machine.execHardwareReset s
  | .strapRead => Sys2Proof.Machine.execStrapRead s
  | .sectionRead readable => Sys2Proof.Machine.execSectionRead readable s
  | .framingError => Sys2Proof.Machine.execFramingError s
  | .addressCharacter value periods => Sys2Proof.Machine.execAddressCharacter value periods s
  | .dataCharacter value => Sys2Proof.Machine.execDataCharacter value s
  | .frameTimeout quiet => Sys2Proof.Machine.execFrameTimeout quiet s
  | .responseStart quiet => Sys2Proof.Machine.execResponseStart quiet s
  | .responseSent => Sys2Proof.Machine.execResponseSent s
  | .linkRateApply => Sys2Proof.Machine.execLinkRateApply s
  | .status => Sys2Proof.Machine.execStatus s
  | .showStatus => Sys2Proof.Machine.execShowStatus s
  | .goOnline => Sys2Proof.Machine.execGoOnline s
  | .goOffline => Sys2Proof.Machine.execGoOffline s
  | .dispatch => Sys2Proof.Machine.execDispatch s
  | .hold => Sys2Proof.Machine.execHold s
  | .resume => Sys2Proof.Machine.execResume s
  | .advance => Sys2Proof.Machine.execAdvance s
  | .stopNow => Sys2Proof.Machine.execStopNow s
  | .recover => Sys2Proof.Machine.execRecover s
  | .release => Sys2Proof.Machine.execRelease s
  | .bypass => Sys2Proof.Machine.execBypass s
  | .restore => Sys2Proof.Machine.execRestore s
  | .clearSeatEvents => Sys2Proof.Machine.execClearSeatEvents s
  | .setSpeedLimit => Sys2Proof.Machine.execSetSpeedLimit s
  | .announce => Sys2Proof.Machine.execAnnounce s
  | .readFaultLog => Sys2Proof.Machine.execReadFaultLog s
  | .setParam => Sys2Proof.Machine.execSetParam s
  | .getParam => Sys2Proof.Machine.execGetParam s
  | .save => Sys2Proof.Machine.execSave s
  | .restart => Sys2Proof.Machine.execRestart s
  | .preface => Sys2Proof.Machine.execPreface s
  | .tableBegin => Sys2Proof.Machine.execTableBegin s
  | .tableEntry => Sys2Proof.Machine.execTableEntry s
  | .tableEnd => Sys2Proof.Machine.execTableEnd s
  | .notices => Sys2Proof.Machine.execNotices s
  | .storeWrite => Sys2Proof.Machine.execStoreWrite s
  | .storeErase => Sys2Proof.Machine.execStoreErase s
  | .storeRead => Sys2Proof.Machine.execStoreRead s
  | .storeComplete success => Sys2Proof.Machine.execStoreComplete success s
  | .storeTimeout => Sys2Proof.Machine.execStoreTimeout s
  | .saveComplete success => Sys2Proof.Machine.execSaveComplete success s
  | .saveTimeout => Sys2Proof.Machine.execSaveTimeout s
  | .sync => Sys2Proof.Machine.execSync s
  | .voiceStart => Sys2Proof.Machine.execVoiceStart s
  | .voiceStop => Sys2Proof.Machine.execVoiceStop s
  | .voiceGain => Sys2Proof.Machine.execVoiceGain s
  | .masterVolume => Sys2Proof.Machine.execMasterVolume s
  | .prefaceLapse source => Sys2Proof.Machine.execPrefaceLapse source s
  | .exchangeStart => Sys2Proof.Machine.execExchangeStart s
  | .driveExchange edges bytes => Sys2Proof.Machine.execDriveExchange edges bytes s
  | .stationary => Sys2Proof.Machine.execStationary s
  | .driveTimeout => Sys2Proof.Machine.execDriveTimeout s
  | .rcLinkLost => Sys2Proof.Machine.execRcLinkLost s
  | .terminalSample levels => Sys2Proof.Machine.execTerminalSample levels s
  | .filteredChange input => Sys2Proof.Machine.execFilteredChange input s
  | .verifyTimeReached seat => Sys2Proof.Machine.execVerifyTimeReached seat s
  | .disagreementTimeReached seat => Sys2Proof.Machine.execDisagreementTimeReached seat s
  | .pulseTimeout seat => Sys2Proof.Machine.execPulseTimeout seat s
  | .solenoidMismatch terminal => Sys2Proof.Machine.execSolenoidMismatch terminal s
  | .ampNotReady => Sys2Proof.Machine.execAmpNotReady s
  | .showClockAdvance => Sys2Proof.Machine.execShowClockAdvance s
  | .syncAgeExpiry => Sys2Proof.Machine.execSyncAgeExpiry s
  | .sceneCueDue => Sys2Proof.Machine.execSceneCueDue s
  | .effectPulseEnd channel => Sys2Proof.Machine.execEffectPulseEnd channel s
  | .voiceJoin voice => Sys2Proof.Machine.execVoiceJoin voice s
  | .gainRampTick => Sys2Proof.Machine.execGainRampTick s
  | .fadeEnd voice => Sys2Proof.Machine.execFadeEnd voice s
  | .sampleClock => Sys2Proof.Machine.execSampleClock s
  | .generatorClock generator => Sys2Proof.Machine.execGeneratorClock generator s
  | .unknownKind => Sys2Proof.Machine.execUnknownKind s

end Sys2Proof.Machine
end

