-- ==== Sys2Proof/Safety.lean ====
section
/-! DEFINITION. The words in which the statements are made: a request that waits at the head of the queue, the state once it
is taken, and the conditions that every step keeps. -/

namespace Sys2Proof.Machine

/-! ## Requests -/

/-- The head frame of the request queue is a unicast request of kind `k`, start-up is complete, and the outgoing list has
room (R175). -/
structure Asked (k : Kind) (f : Frame) (rest : List Frame) (s : State) : Prop where
  queue : s.wli.queue = f :: rest
  kind : f.kind.toNat = k.code
  unicast : f.addressing = .unicast
  room : s.wli.outgoing.length < 2
  running : s.startUp.phase = .complete

/-- The request comes from its source, in a mode that takes it, and with its preface where it needs one (R17, R20). -/
structure Admitted (k : Kind) (f : Frame) (rest : List Frame) (s : State) : Prop extends Asked k f rest s where
  authority : k.source f.args = some f.source
  preface : k.isProtected = true → prefaceMatches (prefaceSlot s.mc f.source) k f.args = true
  mode : k.takenIn s.mc.mode = true

/-- The frame is off the queue, and the preface slot of its source is empty (R18 step 1). -/
def taken (s : State) (f : Frame) (rest : List Frame) : State :=
  { s with wli := { s.wli with queue := rest }, mc := s.mc.setSlot f.source none }

/-- A response at the end of the outgoing list (R176). -/
def answered (f : Frame) (st : Status) (data : List Byte) (s : State) : State :=
  { s with wli := { s.wli with outgoing := s.wli.outgoing ++ [⟨f.address, f.tag, f.kind, st, data⟩] } }

/-- The head frame is a group or broadcast frame of kind `k` outside start-up (R19). -/
structure Called (k : Kind) (f : Frame) (rest : List Frame) (s : State) : Prop where
  queue : s.wli.queue = f :: rest
  kind : f.kind.toNat = k.code
  shared : f.addressing ≠ .unicast
  running : s.startUp.phase = .complete

/-! ## Blocks that an event leaves alone -/

/-- The clock, the parameters, the tables, the store, the terminals, the drive link and start-up are as they were: what the
faults and mode changes of the vehicle do not touch. -/
structure SameGround (s t : State) : Prop where
  localMs : t.localMs = s.localMs
  pending : t.pending = s.pending
  startUp : t.startUp = s.startUp
  params : t.params = s.params
  tables : t.tables = s.tables
  dli : t.dli = s.dli
  clock : t.clock = s.clock
  store : t.store = s.store
  terminals : t.terminals = s.terminals
  freeDraws : t.freeDraws = s.freeDraws

/-! ## Parameters -/

/-- The value is one that an enumerated parameter takes (R186, R187); DENSITY is an output selection of T32 to T39 only
(R140). -/
def ParamId.takes (id : ParamId) (v : Int) : Prop :=
  match id with
  | .edgeSense _ | .linkRate => 0 ≤ v ∧ v ≤ 3
  | .cueRoute _ => 0 ≤ v ∧ v ≤ 2
  | .output i => 0 ≤ v ∧ (v ≤ 22 ∨ (32 ≤ i.val ∧ v ≤ 25))
  | .source _ => -1 ≤ v ∧ v ≤ 39
  | .activeLevel _ => 0 ≤ v ∧ v ≤ 1
  | _ => False

/-! ## Faults and the permit -/

/-- A fault is taken in an online mode: logged, active, and the vehicle is in HALT (R14, R165). -/
structure FaultTaken (k : FaultKind) (detail : Nat) (s t : State) : Prop where
  logged : ∃ n, (n, ⟨k, .none, detail, s.tracker.p / 10, s.clock.ms, s.mc.mode⟩) ∈ t.permit.log
  active : k ∈ t.permit.active
  halt : t.mc.mode = .halt

/-- A position fault is taken: the position is unconfirmed, P, H, the segment and the last correction keep their values, the
position cursor is UNPLACED, and the fault is logged, in an online mode with HALT (R39, R91). -/
structure PositionFaulted (sub : SubCause) (detail : Nat) (s t : State) : Prop where
  tracker : t.tracker = { s.tracker with position := .unsync, expected := none, misses := 0 }
  cursor : t.cues.cursor = .unplaced
  logged : ∃ n, (n, ⟨.position, sub, detail, s.tracker.p / 10, s.clock.ms, s.mc.mode⟩) ∈ t.permit.log
  halts : s.mc.mode ≠ .offline → t.mc.mode = .halt ∧ .position ∈ t.permit.active

/-- A speed ceiling as R157 tables it, under an RC speed limit and a ceiling ahead. -/
structure CeilingFormed (s : State) (limit ahead ceiling : Nat) : Prop where
  still : s.permit.level = .stop ∨ s.permit.level = .emergency → ceiling = 0
  run : s.permit.level = .run → s.tracker.position = .sync → ceiling = min (ceilingInForce s) (min limit ahead)
  creep : s.permit.level = .creep → s.tracker.position = .sync →
    ceiling = min s.params.creepCeiling (min (ceilingInForce s) (min limit ahead))
  unconfirmed : s.permit.level = .creep → s.tracker.position = .unsync → ceiling = min s.params.creepCeiling limit

/-- A segment covers a millimetre of the route: it is the last one that starts at or below it (R26, R32). -/
def Segment.Covers (entries : List Segment) (g : Segment) (mm : Nat) : Prop :=
  g.start ≤ mm ∧ ∀ h ∈ entries, h.start ≤ mm → h.start ≤ g.start

/-- A segment shares a millimetre with the stretch from P to P plus the lookahead, which goes on from 0 past L (R158). -/
def Segment.Ahead (s : State) (g : Segment) : Prop :=
  g ∈ s.tables.route.entries ∧ ∃ mm, s.tracker.p / 10 ≤ mm ∧ mm ≤ s.tracker.p / 10 + s.params.lookahead ∧
    g.Covers s.tables.route.entries (mm % s.tables.routeLength)

/-- What a segment ahead lets the vehicle run: a ceiling of 0 counts as the creep ceiling (R158). -/
def Segment.ceilingSeen (creep : Nat) (g : Segment) : Nat := if g.ceiling = 0 then creep else g.ceiling

/-- Every enabled seat that is not bypassed is VERIFIED (R7, R67). -/
def SeatsReady (s : State) : Prop :=
  ∀ i : Fin 8, seatState s i = .verified ∨ seatState s i = .bypassed ∨ seatState s i = .disabled

/-- The modes whose permit is STOP (R3). -/
def ModeStops (s : State) : Prop :=
  s.mc.mode = .offline ∨ s.mc.mode = .ready ∨ s.mc.mode = .hold ∨ (s.mc.mode = .load ∧ s.mc.advance = none) ∨
    (s.mc.mode = .unload ∧ s.mc.advance = none ∧ s.mc.berthed = true)

/-- The lowest of the four terms of R155, with the mode permit of R3; input 25 is ONBOARD_STOP. -/
structure LevelFormed (s : State) (level : PermitLevel) : Prop where
  emergency : s.mc.mode = .halt ∨ s.terminals.filtered[(25 : Fin 27)] = true → level = .emergency
  stop : s.mc.mode ≠ .halt → s.terminals.filtered[(25 : Fin 27)] = false → ModeStops s ∨ ¬SeatsReady s → level = .stop
  creep : s.mc.mode ≠ .halt → s.terminals.filtered[(25 : Fin 27)] = false → ¬ModeStops s → SeatsReady s →
    s.tracker.position = .unsync ∨ (s.mc.advance ≠ none ∧ (s.mc.mode = .load ∨ s.mc.mode = .unload)) → level = .creep
  run : s.terminals.filtered[(25 : Fin 27)] = false → SeatsReady s → s.tracker.position = .sync →
    s.mc.mode = .run ∨ (s.mc.mode = .unload ∧ s.mc.advance = none ∧ s.mc.berthed = false) → level = .run

/-! ## Start-up -/

/-- The vehicle as it stands until start-up completes: in OFFLINE with every seat DISABLED (R191). -/
structure StartUpRests (s : State) : Prop where
  offline : s.mc.mode = .offline
  disabled : ∀ i : Fin 8, seatState s i = .disabled

/-- What the completion of start-up makes of a state with a chosen configuration (R191 step 4): the configuration and its terminal
map are in force, each filtered level formed from the last sample (R145), the enabled seats are in evaluation (R62), and the
permit level is formed (R154, R156). The mismatch counts and the reports and changes not yet taken are cleared (model's choice, log
51, 57), and the timeouts in force follow at the next millisecond (log 59). -/
structure StartUpCompleted (s t : State) : Prop where
  phase : t.startUp = { s.startUp with phase := .complete }
  params : t.params = s.startUp.chosen
  store : t.store = { s.store with activity := .idle }
  ground : t.tables = s.tables ∧ t.clock = s.clock ∧ t.localMs = s.localMs ∧ t.pending = s.pending ∧ t.dli = s.dli
  terminals : t.terminals =
    { s.terminals with
      filtered := t.terminals.filtered, debounce := Vector.replicate 27 0, changeDue := Vector.replicate 27 false
      mismatch := Vector.replicate 40 0, mismatchDue := Vector.replicate 40 false }
  noSource : ∀ i : Fin 27, s.startUp.chosen.sources[i] = none → t.terminals.filtered[i] = false
  filtered : ∀ (i : Fin 27) (k : Fin 40), s.startUp.chosen.sources[i] = some k → t.terminals.filtered[i] =
    if s.startUp.chosen.activeHigh[i] then s.terminals.sampled.getLsbD k.val else !s.terminals.sampled.getLsbD k.val
  seats : StartUpRests s → t.restraint = { s.restraint with seats := t.restraint.seats } ∧ ∀ i : Fin 8,
    t.restraint.seats[i] =
      if s.startUp.chosen.seatMask.getLsbD i.val then
        { s.restraint.seats[i] with state := (picture t i).seatState, verifyElapsed := 0, disagreeElapsed := 0 }
      else s.restraint.seats[i]
  level : LevelFormed t t.permit.level
  ceiling : StartUpRests s → t.permit.speedCeiling = 0
  onboardStop : StartUpRests s → s.terminals.filtered[(25 : Fin 27)] = false → t.terminals.filtered[(25 : Fin 27)] = true →
    t.permit.log = (s.permit.appendLog ⟨.onboardStop, .none, 0, s.tracker.p / 10, s.clock.ms, .offline⟩).log
  noFault : StartUpRests s → s.terminals.filtered[(25 : Fin 27)] = true ∨ t.terminals.filtered[(25 : Fin 27)] = false →
    t.permit.log = s.permit.log
  blocks : StartUpRests s → t.mc = s.mc ∧ t.tracker = s.tracker ∧ t.cues = s.cues ∧ t.sound = s.sound ∧
    t.density = s.density ∧ t.wli = s.wli ∧ t.permit.active = s.permit.active ∧ t.permit.first = s.permit.first ∧
    t.steering = { s.steering with ampWait := t.steering.ampWait }

/-- Start-up goes on from `s` once a section was judged, with the sections `later` still to come: the next one that is marked
present is read, else start-up completes with the configuration chosen (R191). -/
structure StartUpGoesOn (later : List TableId) (s t : State) : Prop where
  reads : ∀ x more, later.filter (sectionPresent s.store.image) = x :: more →
    t = { s with startUp := { s.startUp with phase := .table x } }
  completes : later.filter (sectionPresent s.store.image) = [] → StartUpCompleted s t

/-! ## READY, and restraints while riding -/

/-- No silence of RC waits to be reported at the next mode change (R177). -/
def RcHeard (s : State) : Prop := s.wli.rcSilence ≤ s.wli.rcTimeout ∨ s.wli.rcReported = true

/-- The READY conditions (R7). -/
structure ReadyMet (s : State) : Prop where
  seats : SeatsReady s
  position : s.tracker.position = .sync
  stationary : s.permit.stationary = true
  advance : s.mc.advance = none
  release : s.restraint.queue = [] ∧ s.restraint.energised = []
  faults : s.permit.active = []

/-- The mode is READY where the READY conditions hold, and LOAD where one does not (R7). -/
structure ReadyDecided (s : State) : Prop where
  ready : ReadyMet s → s.mc.mode = .ready
  load : ¬ReadyMet s → s.mc.mode = .load

/-- The mode is watched for restraints (R82). -/
def RestraintsWatched (s : State) : Prop :=
  s.mc.mode = .run ∨ s.mc.mode = .halt ∨ (s.mc.mode = .unload ∧ s.mc.berthReached = false) ∨
    (s.mc.mode = .hold ∧ ¬(s.mc.heldFrom = .unload ∧ s.mc.berthReached = true))

/-- No fault is taken: the fault log, the active faults and the first-fault record are as they were. -/
structure NoFaultTaken (s t : State) : Prop where
  log : t.permit.log = s.permit.log
  active : t.permit.active = s.permit.active
  first : t.permit.first = s.permit.first

/-! ## Releases -/

/-- What energising leaves of a queue and an energised set (R74): seats are taken from the head of the queue while the set has
room, with their pulse elapsed at 0 and the release pulse time as their pulse time in force. -/
structure ReleaseFilled (queue set : List (Fin 8)) (pulse : Nat) (r : Restraint) : Prop where
  order : r.queue = queue.drop (2 - set.length)
  energised : ∀ i, i ∈ r.energised ↔ i ∈ set ∨ i ∈ queue.take (2 - set.length)
  budget : r.energised.length ≤ 2
  started : ∀ i, i ∈ queue.take (2 - set.length) → (r.seats[i]).pulseElapsed = 0 ∧ (r.seats[i]).pulseTime = pulse

/-- The release condition (R79), less the end of a release at a mode change out of OFFLINE. -/
structure ReleaseAllowed (s : State) : Prop where
  permit : s.permit.level = .stop ∨ s.permit.level = .emergency
  ground : s.mc.mode = .load ∨ s.mc.mode = .ready ∨ s.mc.mode = .halt → s.permit.stationary = true
  unload : s.mc.mode = .unload → s.mc.berthed = true
  hold : s.mc.mode = .hold → s.mc.heldFrom = .unload ∧ s.mc.berthReached = true ∧ s.permit.stationary = true
  run : s.mc.mode ≠ .run

/-- A release in progress at `s` has ended without its bars rising (R79): each seat that was queued or energised is back in
evaluation with release failed latched, and no seat waits for a solenoid or drives one. -/
structure ReleaseEnded (s t : State) : Prop where
  dropped : ∀ i : Fin 8, i ∈ s.restraint.queue ∨ i ∈ s.restraint.energised → t.restraint.seats[i] =
    { s.restraint.seats[i] with
      state := (picture s i).seatState, verifyElapsed := 0, disagreeElapsed := 0, pulseElapsed := 0
      latches := { (s.restraint.seats[i]).latches with releaseFailed := true } }
  others : ∀ i : Fin 8, i ∉ s.restraint.queue → i ∉ s.restraint.energised → t.restraint.seats[i] = s.restraint.seats[i]
  summary : t.restraint.summary = true
  queue : t.restraint.queue = []
  energised : t.restraint.energised = []

/-! ## The scene timer -/

/-- One local millisecond of the scene timer (R96): at rest it changes nothing; running, it goes up by one, and the cues from the
scene cursor on whose offset it has reached fire in table order in the same event, which leaves the cursor at the next cue of
the scene, or none past its last. -/
structure SceneAdvanced (s t : State) : Prop where
  rests : (s.mc.mode ≠ .run ∧ s.mc.mode ≠ .unload) ∨ s.tracker.position = .unsync ∨ s.cues.scene = 0 ∨
    600000 ≤ s.cues.timer → t = s
  frame : t = { s with cues := t.cues, sound := t.sound } ∧ t.cues.scene = s.cues.scene ∧ t.cues.cursor = s.cues.cursor
  counts : s.mc.mode = .run ∨ s.mc.mode = .unload → s.tracker.position = .sync → s.cues.scene ≠ 0 →
    s.cues.timer < 600000 → t.cues.timer = s.cues.timer + 1
  noCue : s.mc.mode = .run ∨ s.mc.mode = .unload → s.tracker.position = .sync → s.cues.scene ≠ 0 →
    s.cues.timer < 600000 → s.cues.sceneCursor = none →
    t = { s with cues := { s.cues with timer := s.cues.timer + 1 } }
  fires : s.mc.mode = .run ∨ s.mc.mode = .unload → s.tracker.position = .sync → s.cues.scene ≠ 0 →
    s.cues.timer < 600000 → ∀ (u : State) (i : Nat) (fired later : List Cue), s.cues.sceneCursor = some i →
    s.tables.cues.status = .valid → s.tables.cues.entries.drop i = fired ++ later →
    (∀ c ∈ fired, ∃ offset, c.trigger = .scene s.cues.scene offset ∧ offset ≤ s.cues.timer + 1) →
    (∀ c ∈ later.head?, ∀ offset, c.trigger = .scene s.cues.scene offset → s.cues.timer + 1 < offset) →
    u = fired.foldl (fun t c => fireCue c t) { s with cues := { s.cues with timer := s.cues.timer + 1 } } →
    t = { u with cues := { u.cues with
      sceneCursor := match later.head?.map Cue.trigger with
        | some (Trigger.scene n _) => if n = s.cues.scene then some (i + fired.length) else none
        | _ => none } }

/-! ## Voices -/

/-- The play position `x` that a voice is expected at, `e` us after its start show time, in a clip of `len` samples (R124). -/
def ExpectedAt (e : Int) (len : Nat) (loop : Option Nat) (x : Nat) : Prop :=
  ∃ n : Int, n = (e * 32).tdiv 1000 ∧ 0 ≤ n ∧
    ((n < len ∧ x = n.toNat) ∨ ((len : Int) ≤ n ∧ ∃ l, loop = some l ∧ x = l + (n.toNat - len) % (len - l)))

/-- The expected position is the end of the clip (R124). -/
def ExpectedPast (e : Int) (len : Nat) (loop : Option Nat) : Prop := (len : Int) ≤ (e * 32).tdiv 1000 ∧ loop = none

/-- The distance of a play position `p` from an expected one `x`: around the loop, when both lie at or beyond the loop point
(R125). -/
def positionGap (len : Nat) (loop : Option Nat) (x p : Nat) : Nat :=
  match loop with
  | some l => if l ≤ x ∧ l ≤ p then (Int.bmod ((x : Int) - p) (len - l)).natAbs else ((x : Int) - p).natAbs
  | none => ((x : Int) - p).natAbs

/-- What the check of R125 makes of a timed voice `v`, `e` us after its start show time, in a clip of `len` samples: `w` is the
voice after it, and `moved` says whether it counts as a resync. -/
structure VoiceChecked (tolerance : Nat) (e : Int) (len : Nat) (v : Voice) (tm : Timing) (w : Option Voice) (moved : Bool) :
    Prop where
  waits : v.state = .waiting → e < 0 → w = some { v with timing := some { tm with unsynced := false } } ∧ moved = false
  joins : v.state = .waiting → 0 ≤ e → ∀ x, ExpectedAt e len v.loopPoint x →
    w = some { v with state := .playing, position := x, timing := some { tm with unsynced := false } } ∧ moved = false
  joinsPast : v.state = .waiting → 0 ≤ e → ExpectedPast e len v.loopPoint → w = none ∧ moved = false
  ahead : v.state = .playing → (e * 32).tdiv 1000 < 0 →
    w = some { v with state := .waiting, position := 0, timing := some { tm with unsynced := false } } ∧ moved = true
  close : v.state = .playing → ∀ x, ExpectedAt e len v.loopPoint x → positionGap len v.loopPoint x v.position ≤ tolerance →
    w = some { v with timing := some { tm with unsynced := false } } ∧ moved = false
  moves : v.state = .playing → ∀ x, ExpectedAt e len v.loopPoint x → tolerance < positionGap len v.loopPoint x v.position →
    w = some { v with position := x, timing := some { tm with unsynced := false } } ∧ moved = true
  ends : v.state = .playing → ExpectedPast e len v.loopPoint → tolerance < len - v.position → w = none ∧ moved = true
  nearEnd : v.state = .playing → ExpectedPast e len v.loopPoint → len - v.position ≤ tolerance →
    w = some { v with timing := some { tm with unsynced := false } } ∧ moved = false
  unchecked : v.state = .paused ∨ v.state = .stopping → w = some v ∧ moved = false

/-- What stopping a voice with a fade time leaves (R127). -/
structure Stopped (fade : Nat) (x : Voice) (w : Option Voice) : Prop where
  silent : x.state = .waiting ∨ x.state = .paused ∨ fade = 0 → w = none
  fading : x.state = .playing ∨ x.state = .stopping → fade ≠ 0 →
    w = some { x with state := .stopping, target := 0, ramp := fade, timing := none }

/-- The voices at entry into HOLD (R130). -/
structure HoldShaped (s t : State) : Prop where
  idle : ∀ i : Fin 6, i ≠ 4 → s.sound.voices[i] = none → t.sound.voices[i] = none
  goesOn : ∀ (i : Fin 6) (x : Voice), i ≠ 4 → s.sound.voices[i] = some x → x.hold = none ∨ x.hold = some .continue →
    t.sound.voices[i] = some x
  pauses : ∀ (i : Fin 6) (x : Voice), i ≠ 4 → s.sound.voices[i] = some x → x.hold = some .pause →
    (x.state = .playing → t.sound.voices[i] = some { x with state := .paused, timing := none }) ∧
    (x.state = .waiting → t.sound.voices[i] = some { x with state := .paused, position := 0, timing := none }) ∧
    (x.state = .paused ∨ x.state = .stopping → t.sound.voices[i] = some x)
  fades : ∀ (i : Fin 6) (x : Voice), i ≠ 4 → s.sound.voices[i] = some x → x.hold = some .fade →
    (x.state = .playing ∨ x.state = .waiting → Stopped s.params.holdFade x t.sound.voices[i]) ∧
    (x.state = .paused ∨ x.state = .stopping → t.sound.voices[i] = some x)
  clipStarts : ∀ c : Clip, s.params.holdClip ≠ 0 → findClip s s.params.holdClip = some c → s.store.activity = .idle →
    t.sound.voices[(4 : Fin 6)] = some
      ⟨.playing, c.number, 0, if s.params.holdFade = 0 then s.params.holdGain else 0, s.params.holdGain, s.params.holdFade,
        .both, some (c.loopStart.getD 0), none, none⟩
  noClip : s.params.holdClip = 0 ∨ findClip s s.params.holdClip = none ∨ s.store.activity ≠ .idle →
    (∀ x, s.sound.voices[(4 : Fin 6)] = some x → x.hold = none) →
    t.sound.voices[(4 : Fin 6)] = s.sound.voices[(4 : Fin 6)]
  others : t.sound = { s.sound with voices := t.sound.voices }

/-- The voices at RESUME (R131). -/
structure ResumeShaped (s t : State) : Prop where
  idle : ∀ i : Fin 6, s.sound.voices[i] = none → t.sound.voices[i] = none
  wakes : ∀ (i : Fin 6) (x : Voice), i ≠ 4 → s.sound.voices[i] = some x → x.state = .paused → x.hold ≠ none →
    t.sound.voices[i] = some { x with state := .playing }
  goesOn : ∀ (i : Fin 6) (x : Voice), i ≠ 4 → s.sound.voices[i] = some x → x.state ≠ .paused ∨ x.hold = none →
    t.sound.voices[i] = some x
  holdVoice : ∀ x, s.sound.voices[(4 : Fin 6)] = some x → x.hold = none →
    Stopped s.params.holdFade x t.sound.voices[(4 : Fin 6)]
  others : t.sound = { s.sound with voices := t.sound.voices }

/-! ## What every step keeps -/

/-- The clip region is in its canonical form. -/
def MemoryCanonical (s : State) : Prop := s.store.memory.wf = true

/-- The queues and logs hold no more than the manual gives them room for (R74, R103, R168, R175, R176). -/
structure QueuesBounded (s : State) : Prop where
  requests : s.wli.queue.length ≤ 4
  responses : s.wli.outgoing.length ≤ 2
  energised : s.restraint.energised.length ≤ 2
  notices : s.cues.notices.length ≤ 16
  faults : s.permit.log.length ≤ 16

/-- HALT, a first-fault record and an active fault go together (R14, R165, R166, R170). -/
structure HaltRecorded (s : State) : Prop where
  first : s.mc.mode = .halt ↔ s.permit.first.isSome
  active : s.mc.mode = .halt ↔ s.permit.active ≠ []

/-- The steering output stays within the steer limit; in OFFLINE the Steering Computer is IDLE with an output of 0; start-up
runs in OFFLINE only (R44, R55, R59, R191). -/
structure SteeringHeld (s : State) : Prop where
  limit : s.steering.y.natAbs ≤ s.params.steerLimit
  offline : s.mc.mode = .offline → s.steering.state = .idle ∧ s.steering.y = 0
  idle : s.steering.state = .idle → s.mc.mode = .offline
  startUp : s.startUp.phase ≠ .complete → s.mc.mode = .offline

/-- The seats that wait for their solenoid or drive it are the RELEASING ones, each once; at most two are energised, and none
waits while fewer are (R73, R74). While a seat is RELEASING the motion permit is STOP or EMERGENCY, so no solenoid is energised at
CREEP or RUN, and the release condition of R79 holds; no release is in progress during start-up. -/
structure ReleaseHeld (s : State) : Prop where
  distinct : (s.restraint.queue ++ s.restraint.energised).Nodup
  budget : s.restraint.energised.length ≤ 2
  filled : s.restraint.queue ≠ [] → s.restraint.energised.length = 2
  allowed : s.restraint.queue ≠ [] ∨ s.restraint.energised ≠ [] → ReleaseAllowed s
  releasing : ∀ i, (i ∈ s.restraint.queue ∨ i ∈ s.restraint.energised) ↔ seatState s i = .releasing
  still : ∀ i, seatState s i = .releasing → s.permit.level = .stop ∨ s.permit.level = .emergency
  startUp : s.startUp.phase ≠ .complete → s.restraint.queue = [] ∧ s.restraint.energised = []

/-- A berthed vehicle is stationary in UNLOAD without an advance, and has reached its berth; an advance is present in LOAD and
UNLOAD only (R2, R10). -/
structure BerthHeld (s : State) : Prop where
  berthed : s.mc.berthed = true →
    s.mc.mode = .unload ∧ s.permit.stationary = true ∧ s.mc.berthReached = true ∧ s.mc.advance = none
  advance : s.mc.advance ≠ none → s.mc.mode = .load ∨ s.mc.mode = .unload

/-- The motion permit is EMERGENCY until start-up completes, and the lowest of the terms of R155 after it (R154, R155, R156). -/
structure LevelHeld (s : State) : Prop where
  startUp : s.startUp.phase ≠ .complete → s.permit.level = .emergency
  formed : s.startUp.phase = .complete → LevelFormed s s.permit.level

/-- The motion permit is RUN only while every enabled seat that is not bypassed is VERIFIED, the position is confirmed and no
fault is active (R155). -/
structure RunAllowed (s : State) : Prop where
  seats : SeatsReady s
  position : s.tracker.position = .sync
  faults : s.permit.active = []

/-- Show time stays in its ranges (R105). -/
structure ClockInRange (c : ShowClock) : Prop where
  ms : c.ms < 4294967296
  us : c.us < 1000
  residue : c.residue < 1000
  age : c.age ≤ 5000
  steps : c.steps ≤ 65535

end Sys2Proof.Machine
end

