-- ==== Sys2Proof/Certificates/Slice0/Obligations.lean ====
section
/-! DEFINITION. The statements for the provers. Each names in its docstring the rules it rests on; "log n" is a choice of the
model. -/

open Sys2Proof Sys2Proof.Machine

/-! ## Steps -/

/-- Step takes the command at the front of the queue and runs it on the state with the queue's rest. -/
def Obligations.StepTakesFrontCommand : Prop :=
  ∀ (c : Instr) (rest : List Instr) (s : State),
    step { s with pending := c :: rest } = exec c { s with pending := rest }

/-- With no command waiting, step runs the event that is due, or lets one local millisecond pass (model's choice, log 2). The
millisecond counts, each up to its last value: the silences of RC, SC and the DC (R177, R184), the line's quiet time in whole
character times (log 5), the amplifier wait time while AMP_READY is inactive at CREEP or RUN (R60), verify elapsed of a LOCKED
seat (R65), disagreement elapsed of a seat whose inputs conflict (R66), pulse elapsed of an energised seat (R77) and the elapsed
time of a store operation (R189, R190). It puts a written RC or drive timeout into force (log 21), counts the pulses down and
turns OFF a channel whose pulse reaches 0 (R101). Then the scene timer goes up and the cues that it reaches fire (R96; the pulses
before them: log 48). Nothing else changes. -/
def Obligations.StepWithoutCommands : Prop :=
  ∀ s : State, s.pending = [] →
    (∀ c, due s = some c → step s = exec c s) ∧
    (due s = none → ∃ u t, step s = .next t ∧ SceneAdvanced u t ∧
      u = { s with
        localMs := s.localMs + 1, steering := u.steering, restraint := u.restraint, cues := u.cues, store := u.store
        wli := { s.wli with
          rcSilence := min (s.wli.rcSilence + 1) 65535, scSilence := min (s.wli.scSilence + 1) 65535
          rcTimeout := s.params.rcTimeout, quiet := u.wli.quiet }
        dli := { s.dli with silence := min (s.dli.silence + 1) 65535, driveTimeout := s.params.driveTimeout } } ∧
      (s.wli.linkRate = 0 → u.wli.quiet = min (s.wli.quiet + 10) 65535) ∧
      (s.wli.linkRate = 1 → u.wli.quiet = min (s.wli.quiet + 20) 65535) ∧
      (s.wli.linkRate = 2 → u.wli.quiet = min (s.wli.quiet + 41) 65535) ∧
      (s.wli.linkRate = 3 → u.wli.quiet = min (s.wli.quiet + 83) 65535) ∧
      (s.terminals.filtered[(24 : Fin 27)] = false → s.permit.level = .creep ∨ s.permit.level = .run →
        u.steering = { s.steering with ampWait := min (s.steering.ampWait + 1) 101 }) ∧
      (s.terminals.filtered[(24 : Fin 27)] = true ∨ s.permit.level = .stop ∨ s.permit.level = .emergency →
        u.steering = s.steering) ∧
      u.restraint = { s.restraint with seats := u.restraint.seats } ∧
      (∀ i : Fin 8, u.restraint.seats[i] =
        { s.restraint.seats[i] with
          verifyElapsed := if seatState s i = .locked then min ((s.restraint.seats[i]).verifyElapsed + 1) 2000
            else (s.restraint.seats[i]).verifyElapsed
          disagreeElapsed := if (seatState s i).inEvaluation = true ∧ (picture s i).conflict = true
            then min ((s.restraint.seats[i]).disagreeElapsed + 1) 1000 else (s.restraint.seats[i]).disagreeElapsed
          pulseElapsed := if i ∈ s.restraint.energised then min ((s.restraint.seats[i]).pulseElapsed + 1) 5000
            else (s.restraint.seats[i]).pulseElapsed }) ∧
      u.cues = { s.cues with channels := u.cues.channels } ∧
      (∀ c : Fin 12,
        (∀ n, s.cues.channels[c] = .pulsing n → u.cues.channels[c] = if n ≤ 1 then .off else .pulsing (n - 1)) ∧
        (s.cues.channels[c] = .on ∨ s.cues.channels[c] = .off → u.cues.channels[c] = s.cues.channels[c])) ∧
      u.store = { s.store with activity := match s.store.activity with
        | .writing address data elapsed => .writing address data (elapsed + 1)
        | .erasing block elapsed => .erasing block (elapsed + 1)
        | .saving copy elapsed => .saving copy (elapsed + 1)
        | .idle => .idle
        | .restoring => .restoring })

/-! ## Resets and start-up -/

/-- A hardware reset gives every block its reset value (R1, R22, R29, R43, R62, R85, R105, R115, R138, R148, R154, R171, R180,
R189, R191). The manual gives none for the line's quiet time and the drive link's outgoing record (model's choice, log 6), for
the parameters and the link rate until start-up completes, the terminal map of R138 and R146 apart (log 7), and for local time
(log 8). The store's contents stay unless an operation was in flight (log 33). -/
def Obligations.HardwareResetGivesResetValues : Prop :=
  ∀ s : State, ∃ t, exec .hardwareReset s = .next t ∧
    t.startUp.phase = .strap 0 ∧ t.pending = s.pending ∧ t.localMs = 0 ∧
    t.params = { Params.defaults with sources := (Vector.replicate 27 none).set 26 (some 0) } ∧
    t.mc = ⟨.offline, .none, false, false, none, none, none, 0, 0⟩ ∧
    t.tracker = ⟨0, .unsync, none, 0, none, 0, 0, 0⟩ ∧
    t.tables = ⟨⟨.invalid, [], 0xFFFF⟩, 0, ⟨.invalid, [], 0xFFFF⟩, ⟨.invalid, [], 0xFFFF⟩, ⟨.invalid, [], 0xFFFF⟩⟩ ∧
    t.steering = ⟨.idle, true, 0, 0, 0, 0, 0, false, 0⟩ ∧
    (∀ i : Fin 8, t.restraint.seats[i] = ⟨.disabled, 0, 0, 0, 2000, Latches.clear⟩) ∧
    t.restraint.queue = [] ∧ t.restraint.energised = [] ∧ t.restraint.summary = false ∧
    t.cues = ⟨.unplaced, 0, 0, none, Vector.replicate 12 .off, [], 0, 0, 0⟩ ∧
    t.clock = ⟨0, 0, 0, 0, .free, 0, 0, 0⟩ ∧
    t.sound = ⟨Vector.replicate 6 none, 4096, 4096, 0, 4096, 4096, 0, 0, 0⟩ ∧
    t.terminals = ⟨0, Vector.replicate 27 0, Vector.replicate 27 false, Vector.replicate 40 0, Vector.replicate 27 false,
      Vector.replicate 40 false⟩ ∧
    (∀ g : Fin 3, t.density[g] = ⟨false, 0, 32768, false⟩) ∧
    t.permit = ⟨.emergency, 0, 0, 3000, 0, false, none, 0, false, false, 0, [], none, [], 0⟩ ∧
    t.wli = ⟨.hunting, none, [], [], false, 0, 0, 0, false, 0, 0, 0, 0, 0, 0, 1, 500⟩ ∧
    t.dli = ⟨none, none, false, 0, false, 0, 0, 0, 50⟩ ∧
    t.store.activity = .restoring ∧ t.store.errorFlag = false ∧ t.store.defaulted = false ∧
    (s.store.activity = .idle ∨ s.store.activity = .restoring →
      t.store.memory = s.store.memory ∧ t.store.image = s.store.image)

/-- RESTART, taken in OFFLINE with its preface: refused BUSY unless the store is idle; else every block takes its restart
values, and what R192 and R185 keep is kept: the fault log, the link counters, the protection fault count, the outgoing list,
the link rate, and the exchange in progress, which the DLI then handles alone (log 39). Local time goes on (model's choice, log
8), and the parameters are those of a reset (log 7). -/
def Obligations.RestartKeepsLogAndCounters : Prop :=
  ∀ (f : Frame) (rest : List Frame) (s : State), Admitted .restart f rest s → f.args = [] →
    (s.store.activity ≠ .idle → exec .restart s = .next (answered f .busy [] (taken s f rest))) ∧
    (s.store.activity = .idle → ∃ t, exec .restart s = .next (answered f .done [] t) ∧
      t.startUp.phase = .strap 0 ∧ t.localMs = s.localMs ∧ t.pending = s.pending ∧
      t.params = { Params.defaults with sources := (Vector.replicate 27 none).set 26 (some 0) } ∧
      t.mc = ⟨.offline, .none, false, false, none, none, none, s.mc.protectionFaults, 0⟩ ∧
      t.permit = ⟨.emergency, 0, 0, 3000, 0, false, none, 0, false, false, 0, [], none, s.permit.log, s.permit.nextNumber⟩ ∧
      t.tables = ⟨⟨.invalid, [], 0xFFFF⟩, 0, ⟨.invalid, [], 0xFFFF⟩, ⟨.invalid, [], 0xFFFF⟩, ⟨.invalid, [], 0xFFFF⟩⟩ ∧
      t.tracker = ⟨0, .unsync, none, 0, none, 0, 0, 0⟩ ∧
      t.clock = ⟨0, 0, 0, 0, .free, 0, 0, 0⟩ ∧
      t.steering = ⟨.idle, true, 0, 0, 0, 0, s.localMs, false, 0⟩ ∧
      (∀ i : Fin 8, t.restraint.seats[i] = ⟨.disabled, 0, 0, 0, 2000, Latches.clear⟩) ∧
      t.restraint.queue = [] ∧ t.restraint.energised = [] ∧ t.restraint.summary = false ∧
      t.cues = ⟨.unplaced, 0, 0, none, Vector.replicate 12 .off, [], 0, 0, 0⟩ ∧
      t.sound = ⟨Vector.replicate 6 none, 4096, 4096, 0, 4096, 4096, 0, 0, 0⟩ ∧
      t.terminals = ⟨0, Vector.replicate 27 0, Vector.replicate 27 false, Vector.replicate 40 0, Vector.replicate 27 false,
        Vector.replicate 40 false⟩ ∧
      (∀ g : Fin 3, t.density[g] = ⟨false, 0, 32768, false⟩) ∧
      t.wli = ⟨.hunting, none, [], s.wli.outgoing, s.wli.transmitting, s.wli.quiet, 0, 0, false, s.wli.crcDiscards,
        s.wli.formatDiscards, s.wli.brokenFrames, s.wli.strayCharacters, s.wli.overruns, s.wli.groupDiscards,
        s.wli.linkRate, 500⟩ ∧
      t.dli = ⟨none, s.dli.outgoing, s.dli.outgoing.isSome, 0, false, s.dli.badExchanges, s.dli.duplicates,
        s.dli.missedExchanges, 50⟩ ∧
      t.store = { s.store with activity := .restoring, errorFlag := false, defaulted := false })

/-- STRAP_READ and SECTION_READ (R191): the strap decides after ten samples; a configuration section that is readable and
good is chosen, else the defaults with DEFAULTED set. Then each table section marked present is judged in turn, in the order of
R191 (one row for each read: log 37): a readable one whose count and CRC fit makes its table VALID, with the pair check of R28
for the marker table; any other leaves it as it was. When none is left, start-up completes: the chosen configuration is in force,
with the filtered levels of its terminal map formed from the last sample (R145), the enabled seats in evaluation (R62) and the
permit level formed (R154, R155, R156). Changes and reports not yet taken are dropped there (model's choice, log 51, 57), and the
timeouts in force follow at the next millisecond (log 59). -/
def Obligations.StartUpReadsStrapAndSections : Prop :=
  (∀ (s : State) (n : Nat), s.startUp.phase = .strap n → 10 ≤ n →
    s.terminals.filtered[(26 : Fin 27)] = true → s.terminals.changeDue[(26 : Fin 27)] = false →
    ∃ t, exec .strapRead s = .next t ∧
      StartUpCompleted
        { s with
          startUp := { s.startUp with chosen := Params.defaults }, store := { s.store with defaulted := true } } t) ∧
  (∀ (s : State) (n : Nat), s.startUp.phase = .strap n → 10 ≤ n →
    s.terminals.filtered[(26 : Fin 27)] = false → s.terminals.changeDue[(26 : Fin 27)] = false →
    exec .strapRead s = .next { s with startUp := { s.startUp with phase := .config } }) ∧
  (∀ (s : State) (readable : Bool) (chosen : Option Params), s.startUp.phase = .config →
    (if readable then s.store.image.config else none) = chosen →
    ∃ t, exec (.sectionRead readable) s = .next t ∧
      StartUpGoesOn [.route, .marker, .cue, .clip]
        { s with
          startUp := { s.startUp with chosen := chosen.getD Params.defaults }
          store := { s.store with defaulted := chosen.isNone } } t) ∧
  (∀ (s : State) (count : Nat) (crc : Word) (entries : List Segment), s.startUp.phase = .table .route →
    s.store.image.route = .present count crc entries →
    (entries.length = count → crc16 (entries.flatMap Segment.bytes) = crc → ∃ t, exec (.sectionRead true) s = .next t ∧
      StartUpGoesOn [.marker, .cue, .clip]
        { s with tables :=
          { s.tables with route := ⟨.valid, entries, crc⟩, routeLength := s.store.image.routeLength } } t) ∧
    (entries.length ≠ count ∨ crc16 (entries.flatMap Segment.bytes) ≠ crc → ∃ t, exec (.sectionRead true) s = .next t ∧
      StartUpGoesOn [.marker, .cue, .clip] s t)) ∧
  (∀ (s : State) (count : Nat) (crc : Word) (entries : List Marker), s.startUp.phase = .table .marker →
    s.store.image.markers = .present count crc entries →
    (entries.length = count → crc16 (entries.flatMap Marker.bytes) = crc →
      (s.tables.route.status ≠ .valid ∨ (∀ m ∈ entries, m.position < s.tables.routeLength) →
        ∃ t, exec (.sectionRead true) s = .next t ∧
          StartUpGoesOn [.cue, .clip] { s with tables := { s.tables with markers := ⟨.valid, entries, crc⟩ } } t) ∧
      (s.tables.route.status = .valid → (∃ m ∈ entries, s.tables.routeLength ≤ m.position) →
        ∃ u t, exec (.sectionRead true) s = .next t ∧ StartUpGoesOn [.cue, .clip] u t ∧
          SameGround { s with tables := { s.tables with markers := ⟨.invalid, [], 0xFFFF⟩ } } u ∧
          u.tracker = { s.tracker with position := .unsync, expected := none, misses := 0 })) ∧
    (entries.length ≠ count ∨ crc16 (entries.flatMap Marker.bytes) ≠ crc → ∃ t, exec (.sectionRead true) s = .next t ∧
      StartUpGoesOn [.cue, .clip] s t)) ∧
  (∀ (s : State) (count : Nat) (crc : Word) (entries : List Cue), s.startUp.phase = .table .cue →
    s.store.image.cues = .present count crc entries →
    (entries.length = count → crc16 (entries.flatMap Cue.bytes) = crc → ∃ t, exec (.sectionRead true) s = .next t ∧
      StartUpGoesOn [.clip] { s with tables := { s.tables with cues := ⟨.valid, entries, crc⟩ } } t) ∧
    (entries.length ≠ count ∨ crc16 (entries.flatMap Cue.bytes) ≠ crc → ∃ t, exec (.sectionRead true) s = .next t ∧
      StartUpGoesOn [.clip] s t)) ∧
  (∀ (s : State) (count : Nat) (crc : Word) (entries : List Clip), s.startUp.phase = .table .clip →
    s.store.image.clips = .present count crc entries →
    (entries.length = count → crc16 (entries.flatMap Clip.bytes) = crc → ∃ t, exec (.sectionRead true) s = .next t ∧
      StartUpGoesOn [] { s with tables := { s.tables with clips := ⟨.valid, entries, crc⟩ } } t) ∧
    (entries.length ≠ count ∨ crc16 (entries.flatMap Clip.bytes) ≠ crc → ∃ t, exec (.sectionRead true) s = .next t ∧
      StartUpGoesOn [] s t)) ∧
  (∀ (s : State) (x : TableId) (readable : Bool), s.startUp.phase = .table x →
    readable = false ∨
      (match x with
       | .route => s.store.image.route = .broken
       | .marker => s.store.image.markers = .broken
       | .cue => s.store.image.cues = .broken
       | .clip => s.store.image.clips = .broken) →
    ∃ t, exec (.sectionRead readable) s = .next t ∧
      StartUpGoesOn
        (match x with
         | .route => [.marker, .cue, .clip]
         | .marker => [.cue, .clip]
         | .cue => [.clip]
         | .clip => []) s t)

/-! ## Taking requests (R17 to R20, R175, R176) -/

/-- A unicast request of any kind waits while the outgoing list is full (R175); during start-up it is answered STARTING and
changes nothing else (R191). -/
def Obligations.UnicastWaitsAndAnswersStarting : Prop :=
  ∀ (k : Kind) (f : Frame) (rest : List Frame) (s : State), s.wli.queue = f :: rest → f.kind.toNat = k.code →
    f.addressing = .unicast →
    (2 ≤ s.wli.outgoing.length → exec k.command s = .next s) ∧
    (s.wli.outgoing.length < 2 → s.startUp.phase ≠ .complete →
      exec k.command s = .next (answered f .starting [] { s with wli := { s.wli with queue := rest } }))

/-- The checks before the owning block, for every kind (R18, R20): UNKNOWN, AUTHORITY, ARGUMENT, PREFACE with its count, MODE.
Nothing changes but the queue, the slot of the frame's source, the count and the response. -/
def Obligations.UnicastChecksRefuse : Prop :=
  (∀ (f : Frame) (rest : List Frame) (s : State), s.wli.queue = f :: rest → f.addressing = .unicast →
    s.wli.outgoing.length < 2 → s.startUp.phase = .complete → (∀ k : Kind, k.code ≠ f.kind.toNat) →
    exec .unknownKind s = .next (answered f .unknown [] (taken s f rest))) ∧
  (∀ (k : Kind) (f : Frame) (rest : List Frame) (s : State), Asked k f rest s →
    (∀ owner, k.source f.args = some owner → owner ≠ f.source →
      exec k.command s = .next (answered f .authority [] (taken s f rest))) ∧
    (k.source f.args = none → exec k.command s = .next (answered f .argument [] (taken s f rest))) ∧
    (k.source f.args = some f.source → k.isProtected = true →
      (∀ p, prefaceSlot s.mc f.source = some p → ¬(p.kind = k ∧ p.byte = f.args.headD 0)) →
      exec k.command s = .next (answered f .preface []
        { taken s f rest with
          mc := { (taken s f rest).mc with protectionFaults := min (s.mc.protectionFaults + 1) 255 } })) ∧
    (k.source f.args = some f.source →
      (k.isProtected = true → ∃ p, prefaceSlot s.mc f.source = some p ∧ p.kind = k ∧ p.byte = f.args.headD 0) →
      k.takenIn s.mc.mode = false → exec k.command s = .next (answered f .mode [] (taken s f rest))))

/-- Group and broadcast frames (R19): no response and no slot touched; a kind that the table of R17 does not mark, or an
unknown one, adds one to the group discard count; a marked kind outside its modes is dropped. A frame that passes every check
acts as the unicast request does: one handling `h` of the kind and its arguments gives the state after both, and one that it
would refuse is dropped. During start-up a group frame is dropped without being counted (R175, R191). -/
def Obligations.GroupFramesAreNotAnswered : Prop :=
  (∀ (k : Kind) (f : Frame) (rest : List Frame) (s : State), Called k f rest s →
    (∃ t, exec k.command s = .next t ∧ t.wli.queue = rest ∧ t.wli.outgoing = s.wli.outgoing ∧
      t.mc.rcSlot = s.mc.rcSlot ∧ t.mc.scSlot = s.mc.scSlot) ∧
    (¬(k.byGroup = true ∧ k.source f.args = some f.source) → exec k.command s = .next
      { s with wli := { s.wli with queue := rest, groupDiscards := min (s.wli.groupDiscards + 1) 65535 } }) ∧
    (k.byGroup = true → k.source f.args = some f.source → k.takenIn s.mc.mode = false →
      exec k.command s = .next { s with wli := { s.wli with queue := rest } })) ∧
  (∀ (f : Frame) (rest : List Frame) (s : State), s.wli.queue = f :: rest → f.addressing ≠ .unicast →
    s.startUp.phase = .complete → (∀ k : Kind, k.code ≠ f.kind.toNat) → exec .unknownKind s = .next
      { s with wli := { s.wli with queue := rest, groupDiscards := min (s.wli.groupDiscards + 1) 65535 } }) ∧
  (∀ (k : Kind) (f : Frame), k.byGroup = true → k.source f.args = some f.source → ∃ h : State → Answer,
    (∀ (rest : List Frame) (s u : State), Called k f rest s → k.takenIn s.mc.mode = true →
      u = { s with wli := { s.wli with queue := rest } } →
      exec k.command s = .next (if (h u).status = .done ∨ (h u).status = .clamped then (h u).next else u)) ∧
    (∀ (rest : List Frame) (s u : State), Admitted k { f with addressing := .unicast } rest s → u = taken s f rest →
      exec k.command s = .next (answered f (h u).status (h u).data (h u).next))) ∧
  (∀ (f : Frame) (rest : List Frame) (s : State), s.wli.queue = f :: rest → f.addressing ≠ .unicast →
    s.startUp.phase ≠ .complete →
    (∀ k : Kind, f.kind.toNat = k.code → exec k.command s = .next { s with wli := { s.wli with queue := rest } }) ∧
    ((∀ k : Kind, k.code ≠ f.kind.toNat) →
      exec .unknownKind s = .next { s with wli := { s.wli with queue := rest } }))

/-! ## The Wayside Link (R171 to R179) -/

/-- FRAMING_ERROR and FRAME_TIMEOUT (R172, R173): a frame in reception is lost, counted as broken, and the receiver hunts. A
framing error outside RECEIVING restarts the quiet time alone, and while the WLI transmits nothing is received (log 28). The
quiet time is the larger of the operand and the one held in the state (model's choice, log 5); a FRAME_TIMEOUT that is not due
changes nothing (log 1). -/
def Obligations.BrokenFramesAreCounted : Prop :=
  (∀ s : State, s.wli.transmitting = false → s.wli.receiver = .receiving →
    exec .framingError s = .next
      { s with wli := { s.wli with receiver := .hunting, frame := none, quiet := 0,
                                   brokenFrames := min (s.wli.brokenFrames + 1) 65535 } }) ∧
  (∀ s : State, s.wli.transmitting = false → s.wli.receiver ≠ .receiving →
    exec .framingError s = .next { s with wli := { s.wli with quiet := 0 } }) ∧
  (∀ s : State, s.wli.transmitting = true → exec .framingError s = .next s) ∧
  (∀ (quiet : Nat) (s : State), s.wli.receiver = .receiving → 4 ≤ quiet →
    exec (.frameTimeout quiet) s = .next
      { s with wli := { s.wli with receiver := .hunting, frame := none,
                                   brokenFrames := min (s.wli.brokenFrames + 1) 65535 } }) ∧
  (∀ (quiet : Nat) (s : State), s.wli.receiver ≠ .receiving ∨ (quiet < 4 ∧ s.wli.quiet < 4) →
    exec (.frameTimeout quiet) s = .next s)

/-- ADDRESS_CHARACTER (R173, R107): the vehicle address, 255 and 239 plus a group number start a frame with the show time
captured; any other character leaves the receiver hunting; a frame in reception is broken. Nothing but the WLI changes. -/
def Obligations.AddressCharactersStartFrames : Prop :=
  ∀ (value : Byte) (periods : Nat) (s : State), s.wli.transmitting = false →
    ∃ w, exec (.addressCharacter value periods) s = .next { s with wli := w } ∧
      w.brokenFrames = (if s.wli.receiver = .receiving then min (s.wli.brokenFrames + 1) 65535 else s.wli.brokenFrames) ∧
      w.queue = s.wli.queue ∧ w.outgoing = s.wli.outgoing ∧ w.quiet = 0 ∧
      (value.toNat = s.params.vehicleAddress → w.receiver = .receiving ∧
        w.frame = some ⟨value, .unicast, s.clock.capture periods, []⟩) ∧
      (value.toNat ≠ s.params.vehicleAddress → value.toNat = 255 → w.receiver = .receiving ∧
        w.frame = some ⟨value, .broadcast, s.clock.capture periods, []⟩) ∧
      (value.toNat ≠ s.params.vehicleAddress → value.toNat ≠ 255 →
        (∃ g ∈ s.params.groups.toList, g ≠ 0 ∧ value.toNat = 239 + g) → w.receiver = .receiving ∧
          w.frame = some ⟨value, .group, s.clock.capture periods, []⟩) ∧
      (value.toNat ≠ s.params.vehicleAddress → value.toNat ≠ 255 →
        (∀ g ∈ s.params.groups.toList, g = 0 ∨ value.toNat ≠ 239 + g) → w.receiver = .hunting ∧ w.frame = none)

/-- DATA_CHARACTER outside the end of a frame (R173, R174): appended while RECEIVING; a length above 48 in the fourth place
discards the frame; counted as stray in TRAILING; not taken in HUNTING. -/
def Obligations.DataCharactersAreTaken : Prop :=
  (∀ (value : Byte) (s : State) (p : PartialFrame), s.wli.transmitting = false → s.wli.receiver = .receiving →
    s.wli.frame = some p → p.chars.length < 3 →
    exec (.dataCharacter value) s = .next
      { s with wli := { s.wli with quiet := 0, frame := some { p with chars := p.chars ++ [value] } } }) ∧
  (∀ (value : Byte) (s : State) (p : PartialFrame), s.wli.transmitting = false → s.wli.receiver = .receiving →
    s.wli.frame = some p → p.chars.length = 3 →
    exec (.dataCharacter value) s = .next
      { s with wli := if 48 < value.toNat then
                        { s.wli with quiet := 0, receiver := .hunting, frame := none,
                                     formatDiscards := min (s.wli.formatDiscards + 1) 65535 }
                      else { s.wli with quiet := 0, frame := some { p with chars := p.chars ++ [value] } } }) ∧
  (∀ (value : Byte) (s : State) (p : PartialFrame) (a b c n : Byte) (more : List Byte), s.wli.transmitting = false →
    s.wli.receiver = .receiving → s.wli.frame = some p → p.chars = a :: b :: c :: n :: more →
    p.chars.length + 1 < n.toNat + 6 →
    exec (.dataCharacter value) s = .next
      { s with wli := { s.wli with quiet := 0, frame := some { p with chars := p.chars ++ [value] } } }) ∧
  (∀ (value : Byte) (s : State), s.wli.transmitting = false → s.wli.receiver = .trailing →
    exec (.dataCharacter value) s = .next
      { s with wli := { s.wli with quiet := 0, strayCharacters := min (s.wli.strayCharacters + 1) 65535 } }) ∧
  (∀ (value : Byte) (s : State), s.wli.transmitting = false → s.wli.receiver = .hunting →
    exec (.dataCharacter value) s = .next { s with wli := { s.wli with quiet := 0 } })

/-- The last character of a frame (R174): with a CRC-16 that fits and RC or SC as its source, the frame joins the request queue,
or is counted as an overrun when four wait, and the silence timer of its source restarts, with RC's also the report of its
silence (R177); another source is a format discard; with a CRC that does not fit the frame is discarded and counted. -/
def Obligations.CompleteFramesAreQueued : Prop :=
  ∀ (s : State) (p : PartialFrame) (source tag kind n hi lo : Byte) (args : List Byte), s.wli.transmitting = false →
    s.wli.receiver = .receiving → args.length = n.toNat →
    s.wli.frame = some { p with chars := [source, tag, kind, n] ++ args ++ [hi] } →
    ((crc16 ([source, tag, kind, n] ++ args)).toNat = 256 * hi.toNat + lo.toNat →
      (source = 1 → exec (.dataCharacter lo) s = .next
        { s with
          wli :=
            if s.wli.queue.length < 4 then
              { s.wli with
                quiet := 0, receiver := .trailing, frame := none, rcSilence := 0, rcReported := false
                queue := s.wli.queue ++ [⟨p.address, p.addressing, p.capture, .rc, tag, kind, args⟩] }
            else
              { s.wli with
                quiet := 0, receiver := .trailing, frame := none, rcSilence := 0, rcReported := false
                overruns := min (s.wli.overruns + 1) 65535 } }) ∧
      (source = 2 → exec (.dataCharacter lo) s = .next
        { s with
          wli :=
            if s.wli.queue.length < 4 then
              { s.wli with
                quiet := 0, receiver := .trailing, frame := none, scSilence := 0
                queue := s.wli.queue ++ [⟨p.address, p.addressing, p.capture, .sc, tag, kind, args⟩] }
            else
              { s.wli with
                quiet := 0, receiver := .trailing, frame := none, scSilence := 0
                overruns := min (s.wli.overruns + 1) 65535 } }) ∧
      (source ≠ 1 → source ≠ 2 → exec (.dataCharacter lo) s = .next
        { s with
          wli := { s.wli with
            quiet := 0, receiver := .trailing, frame := none
            formatDiscards := min (s.wli.formatDiscards + 1) 65535 } })) ∧
    ((crc16 ([source, tag, kind, n] ++ args)).toNat ≠ 256 * hi.toNat + lo.toNat →
      exec (.dataCharacter lo) s = .next
        { s with
          wli := { s.wli with
            quiet := 0, receiver := .trailing, frame := none, crcDiscards := min (s.wli.crcDiscards + 1) 65535 } })

/-- RESPONSE_START, RESPONSE_SENT and LINK_RATE_APPLY (R176, R179): the head of the outgoing list is begun after two quiet
character times, and leaves the list when it is sent, with the receiver HUNTING; a written link rate takes effect once the list
is empty and the receiver is HUNTING (not before start-up completes: log 27). The quiet time is the larger of the operand and
the one held in the state (model's choice, log 5); a row that is not due changes nothing (log 1). -/
def Obligations.ResponsesAreSent : Prop :=
  (∀ (quiet : Nat) (s : State), s.wli.outgoing ≠ [] → s.wli.transmitting = false → s.wli.receiver ≠ .receiving →
    2 ≤ quiet → exec (.responseStart quiet) s = .next { s with wli := { s.wli with transmitting := true } }) ∧
  (∀ (quiet : Nat) (s : State), s.wli.outgoing = [] ∨ s.wli.transmitting = true ∨ s.wli.receiver = .receiving ∨
    (quiet < 2 ∧ s.wli.quiet < 2) → exec (.responseStart quiet) s = .next s) ∧
  (∀ (s : State) (r : Response) (rest : List Response), s.wli.transmitting = true → s.wli.outgoing = r :: rest →
    exec .responseSent s = .next
      { s with wli := { s.wli with transmitting := false, outgoing := rest, receiver := .hunting } }) ∧
  (∀ s : State, s.startUp.phase = .complete → s.wli.outgoing = [] → s.wli.receiver = .hunting →
    exec .linkRateApply s = .next { s with wli := { s.wli with linkRate := s.params.linkRate } }) ∧
  (∀ s : State, s.wli.outgoing ≠ [] ∨ s.wli.receiver ≠ .hunting → exec .linkRateApply s = .next s)

/-- STATUS and SHOW_STATUS (R178, R186): the response carries the 72 and the 32 bytes of the records, field by field, and
nothing else changes. An absent first-fault record reads as zeros (model's choice, log 43), as does the last DC speed before the
first accepted exchange (log 53). -/
def Obligations.StatusRecordsAreAnswered : Prop :=
  (∀ (f : Frame) (rest : List Frame) (s : State), Admitted .status f rest s → f.args = [] →
    ∃ data, exec .status s = .next (answered f .done data (taken s f rest)) ∧ data.length = 72 ∧
      data =
        [BitVec.ofNat 8 s.mc.mode.code,
          BitVec.ofNat 8 (s.mc.heldFrom.code + 4 * bits [s.mc.berthed, s.mc.berthReached, s.mc.advance.isSome]),
          BitVec.ofNat 8 s.permit.level.code] ++ be2 s.permit.speedCeiling ++
        be3 (s.tracker.p / 10) ++ [if s.tracker.position = .sync then (1 : Byte) else 0] ++
        be2 (match s.tracker.expected.bind fun i => s.tables.markers.inUse[i]? with
          | none => 0
          | some m => m.id) ++
        beInt3 (s.tracker.lastCorrection.tdiv 10) ++ be2 s.tracker.unknownMarkers ++
        ((List.finRange 8).map fun i => BitVec.ofNat 8 (seatState s i).code) ++
        [if s.restraint.summary then (1 : Byte) else 0, BitVec.ofNat 8 s.restraint.queue.length] ++
        be2 (FaultKind.all.map fun k => if k ∈ s.permit.active then 2 ^ (k.code - 1) else 0).sum ++
        (match s.permit.first with
          | none => List.replicate 13 0
          | some r =>
            [1, BitVec.ofNat 8 r.kind.code, BitVec.ofNat 8 r.sub.code] ++ be2 r.detail ++ be3 r.position ++ be4 r.showMs ++
              [BitVec.ofNat 8 r.mode.code]) ++
        [BitVec.ofNat 8 s.mc.protectionFaults] ++ be2 s.mc.dispatchCount ++
        [BitVec.ofNat 8 s.store.activity.code, BitVec.ofNat 8 (bits [s.store.errorFlag, s.store.defaulted]),
          BitVec.ofNat 8 s.clock.state.code, if s.dli.live then 1 else 0] ++
        be2 s.wli.rcSilence ++ be2 s.wli.scSilence ++
        beInt2 (match s.dli.lastAccepted with
          | none => 0
          | some r => if r.forward then (min r.speed 32767 : Nat) else -(min r.speed 32767 : Nat)) ++
        be2 s.wli.crcDiscards ++ be2 s.wli.formatDiscards ++ be2 s.wli.brokenFrames ++ be2 s.wli.strayCharacters ++
        be2 s.wli.overruns ++ be2 s.wli.groupDiscards ++
        be2 s.dli.badExchanges ++ be2 s.dli.duplicates ++ be2 s.dli.missedExchanges) ∧
  (∀ (f : Frame) (rest : List Frame) (s : State), Admitted .showStatus f rest s → f.args = [] →
    ∃ data, exec .showStatus s = .next (answered f .done data (taken s f rest)) ∧ data.length = 32 ∧
      data =
        [BitVec.ofNat 8 s.mc.mode.code] ++ be3 (s.tracker.p / 10) ++ [BitVec.ofNat 8 s.cues.scene] ++ be3 s.cues.timer ++
        ((List.finRange 6).flatMap fun i =>
          match s.sound.voices[i] with
          | none => List.replicate 3 (0 : Byte)
          | some v =>
            [BitVec.ofNat 8 (voiceCode (some v)), BitVec.ofNat 8 v.clip,
              match v.timing with
              | none => 0
              | some tm => if tm.unsynced then 3 else 2]) ++
        [BitVec.ofNat 8 s.cues.notices.length] ++ be2 s.cues.lostNotices ++ [BitVec.ofNat 8 s.clock.state.code] ++
        be2 s.clock.steps) ∧
  (∀ (f : Frame) (rest : List Frame) (s : State), f.args ≠ [] →
    (Admitted .status f rest s → exec .status s = .next (answered f .argument [] (taken s f rest))) ∧
    (Admitted .showStatus f rest s → exec .showStatus s = .next (answered f .argument [] (taken s f rest))))

/-! ## Vehicle modes (R5 to R16, R20, R21)

RC is silent when the RC silence timer has passed the RC timeout and this stretch has not been reported: a mode change into an
online mode then raises RC_LINK_LOST in the same event (R177), which the clauses on the mode leave out. -/

/-- GO_ONLINE in OFFLINE (R5, R40): refused MODE with the unmet conditions while a table is not VALID or the store is not
IDLE; else the position is unconfirmed, the generators and the steering start, a release in progress ends (R79), and the mode
is LOAD, or HALT when ONBOARD_STOP stands (R164). -/
def Obligations.GoOnlineStartsLoad : Prop :=
  ∀ (f : Frame) (rest : List Frame) (s : State), Admitted .goOnline f rest s → f.args = [] →
    (s.tables.route.status = .valid ∧ s.tables.markers.status = .valid ∧ s.tables.cues.status = .valid ∧
      s.tables.clips.status = .valid ∧ s.store.activity = .idle →
      ∃ t, exec .goOnline s = .next (answered f .done [] t) ∧ SameGround (taken s f rest) t ∧
        t.tracker = { s.tracker with position := .unsync, expected := none, misses := 0, highWater := s.tracker.p } ∧
        (∀ g : Fin 3, t.density[g] = { s.density[g] with running := true, accumulator := 0 }) ∧
        t.mc.dispatchCount = s.mc.dispatchCount ∧
        (onboardStop s = false → ¬(s.wli.rcTimeout < s.wli.rcSilence ∧ s.wli.rcReported = false) →
          t.mc.mode = .load ∧ t.mc.heldFrom = .none ∧ t.steering.state = .tracking ∧ t.steering.firstPending = true ∧
            t.steering.reference = s.localMs ∧ t.permit.log = s.permit.log) ∧
        (s.restraint.queue ≠ [] ∨ s.restraint.energised ≠ [] → ReleaseEnded s t) ∧
        (s.restraint.queue = [] → s.restraint.energised = [] → t.restraint = s.restraint) ∧
        (onboardStop s = true → t.mc.mode = .halt ∧ .onboardStop ∈ t.permit.active)) ∧
    (¬(s.tables.route.status = .valid ∧ s.tables.markers.status = .valid ∧ s.tables.cues.status = .valid ∧
      s.tables.clips.status = .valid ∧ s.store.activity = .idle) →
      exec .goOnline s = .next (answered f .mode
        [BitVec.ofNat 8 ((if s.tables.route.status = .valid then 0 else 1) +
          (if s.tables.markers.status = .valid then 0 else 2) + (if s.tables.cues.status = .valid then 0 else 4) +
          (if s.tables.clips.status = .valid then 0 else 8) + (if s.store.activity = .idle then 0 else 16))]
        (taken s f rest)))

/-- GO_OFFLINE (R6): DONE and no change in OFFLINE; refused MODE while the vehicle is not stationary; else OFFLINE, with the
fault set and the first-fault record empty, the RC speed limit back at 3000, the fault log and the dispatch count kept, the
outputs of steering, effects, voices V0 to V4 and generators at rest (R59, R101, R132, R150) and the notices emptied (R103). The
seats are as they were, and a release in progress goes on (R79). -/
def Obligations.GoOfflineRests : Prop :=
  ∀ (f : Frame) (rest : List Frame) (s : State), Admitted .goOffline f rest s → f.args = [] →
    (s.mc.mode = .offline → exec .goOffline s = .next (answered f .done [] (taken s f rest))) ∧
    (s.mc.mode ≠ .offline → s.permit.stationary = false →
      exec .goOffline s = .next (answered f .mode [] (taken s f rest))) ∧
    (s.mc.mode ≠ .offline → s.permit.stationary = true →
      ∃ t, exec .goOffline s = .next (answered f .done [] t) ∧ SameGround (taken s f rest) t ∧
        t.mc.mode = .offline ∧ t.mc.heldFrom = .none ∧ t.mc.berthed = false ∧ t.mc.advance = none ∧
        t.mc.dispatchCount = s.mc.dispatchCount ∧ t.permit.active = [] ∧ t.permit.first = none ∧
        t.permit.rcLimit = 3000 ∧ t.permit.log = s.permit.log ∧ t.tracker = s.tracker ∧
        t.steering.state = .idle ∧ t.steering.y = 0 ∧ (t.density[(0 : Fin 3)]).code = 32768 ∧
        (∀ g : Fin 3, (t.density[g]).running = false ∧ (t.density[g]).bit = false) ∧
        (∀ c : Fin 12, t.cues.channels[c] = .off) ∧ t.cues.cursor = .unplaced ∧ t.cues.scene = 0 ∧ t.cues.notices = [] ∧
        t.restraint = s.restraint ∧
        (∀ v : Fin 6, t.sound.voices[v] = if v = 5 then s.sound.voices[v] else none))

/-- DISPATCH in READY (R8): refused PENDING while the seat event summary is set; else RUN, the dispatch count one up, wrapping
after 65535, the high-water mark at P, and the new count in the response. -/
def Obligations.DispatchStartsRun : Prop :=
  ∀ (f : Frame) (rest : List Frame) (s : State), Admitted .dispatch f rest s → f.args = [] →
    (s.restraint.summary = true → exec .dispatch s = .next (answered f .pending [] (taken s f rest))) ∧
    (s.restraint.summary = false →
      ∃ t, exec .dispatch s = .next (answered f .done (be2 ((s.mc.dispatchCount + 1) % 65536)) t) ∧
        SameGround (taken s f rest) t ∧ t.mc.dispatchCount = (s.mc.dispatchCount + 1) % 65536 ∧
        t.tracker = { s.tracker with highWater := s.tracker.p } ∧
        (¬(s.wli.rcTimeout < s.wli.rcSilence ∧ s.wli.rcReported = false) →
          t.mc.mode = .run ∧ t.mc.heldFrom = .none ∧ t.mc.berthed = false ∧ t.mc.berthReached = false ∧
            t.mc.advance = none ∧ t.permit.log = s.permit.log))

/-- HOLD and RESUME (R13, R16, R2): HOLD keeps the mode it came from and berth reached, RESUME goes back there; into UNLOAD
berthing is judged at once (R10). The voices follow their hold behaviour, and V4 plays through the hold (R130, R131). A release
in progress goes on through HOLD (R79), and a RESUME is refused MODE until it has ended. -/
def Obligations.HoldAndResume : Prop :=
  (∀ (f : Frame) (rest : List Frame) (s : State), Admitted .hold f rest s → f.args = [] →
    (s.mc.mode = .hold → exec .hold s = .next (answered f .done [] (taken s f rest))) ∧
    (s.mc.mode ≠ .hold →
      ∃ t, exec .hold s = .next (answered f .done [] t) ∧ SameGround (taken s f rest) t ∧ t.tracker = s.tracker ∧
        t.density = s.density ∧ (ReleaseHeld s → BerthHeld s → t.restraint = s.restraint) ∧
        (¬(s.wli.rcTimeout < s.wli.rcSilence ∧ s.wli.rcReported = false) →
          t.mc.mode = .hold ∧ t.mc.heldFrom = (if s.mc.mode = .run then .run else .unload) ∧ t.mc.berthed = false ∧
            t.mc.berthReached = s.mc.berthReached ∧ t.mc.advance = none ∧ HoldShaped s t))) ∧
  (∀ (f : Frame) (rest : List Frame) (s : State), Admitted .resume f rest s → f.args = [] →
    (s.restraint.queue ≠ [] ∨ s.restraint.energised ≠ [] →
      exec .resume s = .next (answered f .mode [] (taken s f rest))) ∧
    (s.restraint.queue = [] → s.restraint.energised = [] → s.mc.heldFrom ≠ .none → s.mc.advance = none →
      ∃ t, exec .resume s = .next (answered f .done [] t) ∧ SameGround (taken s f rest) t ∧ t.tracker = s.tracker ∧
        t.density = s.density ∧
        (¬(s.wli.rcTimeout < s.wli.rcSilence ∧ s.wli.rcReported = false) → t.mc.heldFrom = .none ∧ ResumeShaped s t ∧
          (s.mc.heldFrom = .run → t.mc.mode = .run ∧ t.mc.berthed = false ∧ t.mc.berthReached = false) ∧
          (s.mc.heldFrom = .unload → t.mc.mode = .unload ∧
            t.mc.berthed = (s.permit.stationary && atStopPoint s) ∧
            t.mc.berthReached = (s.mc.berthReached || (s.permit.stationary && atStopPoint s))))))

/-- ADVANCE and the ends of an advance (R11, R12), and the zones that change the mode (R9, R12). ADVANCE is refused MODE while a
release is in progress; a distance above 20,000 mm is clamped; a distance greater than 0 gives an advance from the current
segment and ends berthed; a distance of 0 without an advance changes nothing, and with one it ends the advance. An advance also
ends when an exchange takes its remaining distance to 0 or less, and in a stop-point segment other than its starting one. Its
end in UNLOAD lets berthing be judged, also where ADVANCE ended it (model's choice, log 45). A lookup in a zone UNLOAD takes RUN
to UNLOAD, and one in a zone LOAD takes UNLOAD to LOAD with an advance; a silent RC, which the clauses leave out, is reported
before berthing is judged (log 46) and before the READY conditions are (log 55). The zone's change comes first, then the end of
the advance at a stop point, then berthing (the model's reading, log 16). Before any segment lookup the starting segment is none
(model's choice, log 54). The last four clauses are stated of the parts of an exchange that reach the Mode Controller. -/
def Obligations.AdvanceIsTaken : Prop :=
  (∀ (f : Frame) (rest : List Frame) (s : State) (hi lo : Byte), Admitted .advance f rest s → f.args = [hi, lo] →
    (s.restraint.queue ≠ [] ∨ s.restraint.energised ≠ [] →
      exec .advance s = .next (answered f .mode [] (taken s f rest))) ∧
    (s.restraint.queue = [] → s.restraint.energised = [] → 0 < 256 * hi.toNat + lo.toNat →
      ∃ t, exec .advance s = .next (answered f (if 20000 < 256 * hi.toNat + lo.toNat then .clamped else .done)
          (be2 (min (256 * hi.toNat + lo.toNat) 20000)) t) ∧
        SameGround (taken s f rest) t ∧ t.tracker = s.tracker ∧ t.density = s.density ∧ t.mc.mode = s.mc.mode ∧
        t.mc.advance = some ⟨10 * (min (256 * hi.toNat + lo.toNat) 20000 : Nat), s.tracker.segment⟩ ∧
        t.mc.berthed = false ∧ t.mc.berthReached = s.mc.berthReached) ∧
    (s.restraint.queue = [] → s.restraint.energised = [] → hi = 0 → lo = 0 → s.mc.advance = none →
      exec .advance s = .next (answered f .done [0, 0] (taken s f rest))) ∧
    (s.restraint.queue = [] → s.restraint.energised = [] → hi = 0 → lo = 0 → s.mc.advance ≠ none →
      ∃ t, exec .advance s = .next (answered f .done [0, 0] t) ∧ SameGround (taken s f rest) t ∧ t.mc.advance = none ∧
        t.tracker = s.tracker ∧
        (s.mc.mode = .unload → s.mc.berthed = false → t.mc.mode = .unload ∧
          t.mc.berthed = (s.permit.stationary && atStopPoint s) ∧
          t.mc.berthReached = (s.mc.berthReached || (s.permit.stationary && atStopPoint s))))) ∧
  (∀ (s : State) (d : Int), (s.mc.advance = none → advanceTravel d s = s) ∧
    ∀ a, s.mc.advance = some a →
      (d < a.remaining →
        advanceTravel d s = { s with mc := { s.mc with advance := some { a with remaining := a.remaining - d } } }) ∧
      (a.remaining ≤ d → SameGround s (advanceTravel d s) ∧ (advanceTravel d s).mc.advance = none ∧
        (advanceTravel d s).tracker = s.tracker ∧
        (s.mc.mode = .unload → s.mc.berthed = false → (advanceTravel d s).mc.mode = .unload ∧
          (advanceTravel d s).mc.berthed = (s.permit.stationary && atStopPoint s)))) ∧
  (∀ (s : State) (g : Segment), currentSegment s = some g → s.mc.mode = .run → g.zone = .unload → s.mc.advance = none →
    ¬(s.wli.rcTimeout < s.wli.rcSilence ∧ s.wli.rcReported = false) →
    SameGround s (zoneReport s) ∧ (zoneReport s).tracker = s.tracker ∧ (zoneReport s).mc.mode = .unload ∧
      (zoneReport s).mc.heldFrom = .none ∧ (zoneReport s).mc.berthed = (s.permit.stationary && g.ceiling == 0) ∧
      (zoneReport s).mc.berthReached = (s.permit.stationary && g.ceiling == 0)) ∧
  (∀ (s : State) (g : Segment) (a : Advance), currentSegment s = some g → s.mc.mode = .unload → g.zone = .load →
    s.mc.advance = some a → ¬(s.wli.rcTimeout < s.wli.rcSilence ∧ s.wli.rcReported = false) →
    SameGround s (zoneReport s) ∧ (zoneReport s).tracker = s.tracker ∧
      (g.ceiling ≠ 0 ∨ a.startSegment = s.tracker.segment →
        (zoneReport s).mc.mode = .load ∧ (zoneReport s).mc.advance = some a) ∧
      (g.ceiling = 0 → a.startSegment ≠ s.tracker.segment →
        ((zoneReport s).mc.mode = .load ∨ (zoneReport s).mc.mode = .ready) ∧ (zoneReport s).mc.advance = none)) ∧
  (∀ (s : State) (g : Segment), currentSegment s = some g → ¬(s.mc.mode = .run ∧ g.zone = .unload) →
    ¬(s.mc.mode = .unload ∧ g.zone = .load ∧ s.mc.advance ≠ none) →
    (∀ a, s.mc.advance = some a → g.ceiling = 0 → a.startSegment ≠ s.tracker.segment →
      SameGround s (zoneReport s) ∧ (zoneReport s).tracker = s.tracker ∧ (zoneReport s).mc.advance = none ∧
        (s.mc.mode = .unload → s.mc.berthed = false →
          (zoneReport s).mc.mode = .unload ∧ (zoneReport s).mc.berthed = s.permit.stationary)) ∧
    ((∀ a, s.mc.advance = some a → g.ceiling ≠ 0 ∨ a.startSegment = s.tracker.segment) →
      (s.mc.mode ≠ .unload ∨ s.mc.advance ≠ none ∨ s.permit.stationary = false ∨ g.ceiling ≠ 0 → zoneReport s = s) ∧
      (s.mc.mode = .unload → s.mc.advance = none → s.permit.stationary = true → g.ceiling = 0 →
        SameGround s (zoneReport s) ∧ (zoneReport s).mc = { s.mc with berthed := true, berthReached := true })))

/-- STOP_NOW (R14, R165, R167): in OFFLINE RC_STOP is logged and nothing else changes; in an online mode it is active and
logged, the first-fault record holds the first fault, and the mode is HALT with permit EMERGENCY and the held-from mode of R14.
Entry into HALT silences V0 to V4 and leaves V5 (R132). A release in progress goes on in HALT where the
vehicle is stationary, and ends where it is not (R79). -/
def Obligations.StopNowHalts : Prop :=
  ∀ (f : Frame) (rest : List Frame) (s : State), Admitted .stopNow f rest s → f.args = [] →
    (s.mc.mode = .offline → exec .stopNow s = .next (answered f .done []
      { taken s f rest with
        permit := s.permit.appendLog ⟨.rcStop, .none, 0, s.tracker.p / 10, s.clock.ms, s.mc.mode⟩ })) ∧
    (s.mc.mode ≠ .offline →
      ∃ t, exec .stopNow s = .next (answered f .done [] t) ∧ SameGround (taken s f rest) t ∧ t.tracker = s.tracker ∧
        t.mc.mode = .halt ∧ .rcStop ∈ t.permit.active ∧ t.mc.dispatchCount = s.mc.dispatchCount ∧
        t.permit.first =
          some (s.permit.first.getD ⟨.rcStop, .none, 0, s.tracker.p / 10, s.clock.ms, s.mc.mode⟩) ∧
        (ReleaseHeld s → BerthHeld s → t.restraint = s.restraint) ∧
        (s.mc.mode ≠ .halt → s.permit.stationary = false → s.restraint.queue ≠ [] ∨ s.restraint.energised ≠ [] →
          ReleaseEnded s t) ∧
        (s.mc.mode ≠ .halt →
          (∀ v : Fin 6, t.sound.voices[v] = if v = 5 then s.sound.voices[v] else none) ∧
          t.permit.level = .emergency ∧ t.permit.speedCeiling = 0 ∧ t.mc.berthed = false ∧
          t.mc.berthReached = s.mc.berthReached ∧ t.mc.advance = none ∧
          t.mc.heldFrom =
            (match s.mc.mode with
             | .run => .run
             | .unload => .unload
             | .hold => s.mc.heldFrom
             | _ => .none)) ∧
        (s.mc.mode = .halt ∨ ¬(s.wli.rcTimeout < s.wli.rcSilence ∧ s.wli.rcReported = false) →
          t.permit.log = (s.permit.appendLog ⟨.rcStop, .none, 0, s.tracker.p / 10, s.clock.ms, s.mc.mode⟩).log))

/-- RECOVER in HALT (R15, R169, R170): refused CAUSE with the persisting conditions; else the fault set and the first-fault
record are empty and the mode is HOLD with the held-from mode kept and the voices as at any entry into HOLD (R130), or LOAD (and
READY at once where R7 holds). -/
def Obligations.RecoverLeavesHalt : Prop :=
  ∀ (f : Frame) (rest : List Frame) (s : State), Admitted .recover f rest s → f.args = [] →
    ((allReady s = false ∨ (.guideLost ∈ s.permit.active ∧ s.steering.guidePresent = false) ∨ ampReady s = false ∨
      s.dli.live = false ∨ s.permit.reportFault = true ∨ onboardStop s = true ∨ s.permit.stationary = false) →
      exec .recover s = .next (answered f .cause
        (be2 ((if allReady s then 0 else 1) +
          (if .guideLost ∈ s.permit.active ∧ s.steering.guidePresent = false then 8 else 0) +
          (if ampReady s then 0 else 32) + (if s.dli.live then 0 else 128) + (if s.permit.reportFault then 256 else 0) +
          (if onboardStop s then 1024 else 0) + (if s.permit.stationary then 0 else 4096))) (taken s f rest))) ∧
    (allReady s = true → (.guideLost ∈ s.permit.active → s.steering.guidePresent = true) → ampReady s = true →
      s.dli.live = true → s.permit.reportFault = false → onboardStop s = false → s.permit.stationary = true →
      ∃ t, exec .recover s = .next (answered f .done [] t) ∧ SameGround (taken s f rest) t ∧ t.tracker = s.tracker ∧
        (¬(s.wli.rcTimeout < s.wli.rcSilence ∧ s.wli.rcReported = false) →
          t.permit.active = [] ∧ t.permit.first = none ∧ t.permit.log = s.permit.log ∧
          (s.mc.heldFrom ≠ .none → t.mc.mode = .hold ∧ t.mc.heldFrom = s.mc.heldFrom ∧
            t.mc.berthReached = s.mc.berthReached ∧ HoldShaped s t) ∧
          (s.mc.heldFrom = .none → ReadyDecided t ∧ t.mc.heldFrom = .none)))

/-- PREFACE and PREFACE_LAPSE (R20, R21): two argument bytes of which the first names a protected kind fill the RC slot with
the local time; anything else is refused ARGUMENT and leaves it empty; after 500 ms the slot empties, and a PREFACE_LAPSE before
that changes nothing (model's choice, log 1). -/
def Obligations.PrefaceFillsAndLapses : Prop :=
  (∀ (f : Frame) (rest : List Frame) (s : State) (k : Kind) (c b : Byte), Admitted .preface f rest s → f.args = [c, b] →
    c.toNat = k.code →
    exec .preface s = .next
      (if k.isProtected then
        answered f .done [] { taken s f rest with mc := { s.mc with rcSlot := some ⟨k, b, s.localMs⟩ } }
      else answered f .argument [] (taken s f rest))) ∧
  (∀ (f : Frame) (rest : List Frame) (s : State), Admitted .preface f rest s →
    (f.args.length ≠ 2 ∨ ∀ k : Kind, k.code ≠ (f.args.headD 0).toNat) →
    exec .preface s = .next (answered f .argument [] (taken s f rest))) ∧
  (∀ (s : State) (p : Preface), s.mc.rcSlot = some p →
    exec (.prefaceLapse .rc) s =
      .next (if p.time + 500 ≤ s.localMs then { s with mc := { s.mc with rcSlot := none } } else s)) ∧
  (∀ (s : State) (p : Preface), s.mc.scSlot = some p →
    exec (.prefaceLapse .sc) s =
      .next (if p.time + 500 ≤ s.localMs then { s with mc := { s.mc with scSlot := none } } else s)) ∧
  (∀ (s : State), s.mc.rcSlot = none → exec (.prefaceLapse .rc) s = .next s) ∧
  (∀ (s : State), s.mc.scSlot = none → exec (.prefaceLapse .sc) s = .next s)

/-! ## Seats and terminals (R64 to R82, R142 to R147) -/

/-- RELEASE (R73, R74, R78): refused ARGUMENT for a mask of 0, MODE with an advance present or without its mode's acceptance
condition; else each named seat in evaluation with its bar down becomes RELEASING and joins the back of the queue in ascending
number, the others stay, the head of the queue is energised while the set holds fewer than two seats, and the response gives the
mask, the queue length and the energised set. In HALT each seat that leaves VERIFIED or LOCKED is a RESTRAINT_OPEN (R82, R83);
LOAD and READY are judged by R7. -/
def Obligations.ReleaseIsTaken : Prop :=
  ∀ (f : Frame) (rest : List Frame) (s : State) (mask : Byte), Admitted .release f rest s → f.args = [mask] →
    (mask = 0 → exec .release s = .next (answered f .argument [] (taken s f rest))) ∧
    (mask ≠ 0 → (s.mc.advance ≠ none ∨
        ((s.mc.mode = .load ∨ s.mc.mode = .ready ∨ s.mc.mode = .halt) ∧ s.permit.stationary = false) ∨
        (s.mc.mode = .unload ∧ s.mc.berthed = false)) →
      exec .release s = .next (answered f .mode [] (taken s f rest))) ∧
    (mask ≠ 0 → s.mc.advance = none → ReleaseHeld s → BerthHeld s →
      (s.mc.mode = .offline ∨
        ((s.mc.mode = .load ∨ s.mc.mode = .ready ∨ s.mc.mode = .halt) ∧ s.permit.stationary = true) ∨
        (s.mc.mode = .unload ∧ s.mc.berthed = true)) →
      ∃ t, exec .release s = .next (answered f .done
          ([BitVec.ofNat 8 (maskOf fun i => mask.getLsbD i.val && (seatState s i).inEvaluation && (picture s i).barDown)] ++
            [BitVec.ofNat 8 t.restraint.queue.length] ++
            [BitVec.ofNat 8 (maskOf t.restraint.energised.contains)]) t) ∧
        SameGround (taken s f rest) t ∧ t.tracker = s.tracker ∧
        ReleaseFilled
          (s.restraint.queue ++ (List.finRange 8).filter fun i =>
            mask.getLsbD i.val && (seatState s i).inEvaluation && (picture s i).barDown)
          s.restraint.energised s.params.releasePulseTime t.restraint ∧
        (s.mc.mode = .load ∨ s.mc.mode = .ready → RcHeard s → ReadyDecided t) ∧
        ∀ i : Fin 8,
          (mask.getLsbD i.val = true → (seatState s i).inEvaluation = true → (picture s i).barDown = true →
            seatState t i = .releasing ∧ (i ∈ t.restraint.queue ∨ i ∈ t.restraint.energised) ∧
            (s.mc.mode = .halt → seatState s i = .verified ∨ seatState s i = .locked →
              FaultTaken .restraintOpen (i.val + 1) s t)) ∧
          (mask.getLsbD i.val = false ∨ (seatState s i).inEvaluation = false ∨ (picture s i).barDown = false →
            seatState t i = seatState s i))

/-- BYPASS and RESTORE (R71, R72): a bypassed seat has both timers at 0 and keeps its latches; a restored one enters evaluation
from its filtered inputs; no other seat changes, but that RESTORE can end a release by the fault it raises. In a watched mode
other than HALT the first restored seat that is OPEN or CLOSING is a RESTRAINT_OPEN (R82), and the seats after it are judged in
HALT (model's choice, log 47); without one no fault is taken. LOAD and READY are judged by R7. -/
def Obligations.BypassAndRestore : Prop :=
  (∀ (f : Frame) (rest : List Frame) (s : State) (mask : Byte), Admitted .bypass f rest s → f.args = [mask] →
    (mask = 0 → exec .bypass s = .next (answered f .argument [] (taken s f rest))) ∧
    (mask ≠ 0 → (s.restraint.queue ≠ [] ∨ s.restraint.energised ≠ []) →
      exec .bypass s = .next (answered f .mode [] (taken s f rest))) ∧
    (mask ≠ 0 → s.restraint.queue = [] → s.restraint.energised = [] →
      ∃ t, exec .bypass s = .next (answered f .done
          [BitVec.ofNat 8 (maskOf fun i => seatState s i == .bypassed ||
            (mask.getLsbD i.val && (seatState s i).inEvaluation))] t) ∧
        SameGround (taken s f rest) t ∧ t.tracker = s.tracker ∧
        ((∃ i : Fin 8, mask.getLsbD i.val = true ∧ (seatState s i).inEvaluation = true) →
          s.mc.mode = .load ∨ s.mc.mode = .ready → RcHeard s → ReadyDecided t) ∧
        ∀ i : Fin 8, t.restraint.seats[i] =
          if mask.getLsbD i.val = true ∧ (seatState s i).inEvaluation = true then
            { s.restraint.seats[i] with state := .bypassed, verifyElapsed := 0, disagreeElapsed := 0 }
          else s.restraint.seats[i])) ∧
  (∀ (f : Frame) (rest : List Frame) (s : State) (mask : Byte), Admitted .restore f rest s → f.args = [mask] →
    (mask = 0 → exec .restore s = .next (answered f .argument [] (taken s f rest))) ∧
    (mask ≠ 0 → ReleaseHeld s →
      ∃ t, exec .restore s = .next (answered f .done
          [BitVec.ofNat 8 (maskOf fun i => mask.getLsbD i.val && seatState s i == .bypassed)] t) ∧
        SameGround (taken s f rest) t ∧ t.tracker = s.tracker ∧
        ((∃ i : Fin 8, mask.getLsbD i.val = true ∧ seatState s i = .bypassed) →
          s.mc.mode = .load ∨ s.mc.mode = .ready → RcHeard s → ReadyDecided t) ∧
        (∀ i : Fin 8, RestraintsWatched s → s.mc.mode ≠ .halt → mask.getLsbD i.val = true → seatState s i = .bypassed →
          (picture s i).seatState = .open ∨ (picture s i).seatState = .closing →
          (∀ j : Fin 8, j < i → mask.getLsbD j.val = true → seatState s j = .bypassed → (picture s j).seatState = .locked) →
          FaultTaken .restraintOpen (i.val + 1) s t) ∧
        (¬RestraintsWatched s ∨ s.mc.mode = .halt ∨
          (∀ i : Fin 8, mask.getLsbD i.val = true → seatState s i = .bypassed → (picture s i).seatState = .locked) →
          RcHeard s → NoFaultTaken s t) ∧
        ∀ i : Fin 8,
          (mask.getLsbD i.val = true → seatState s i = .bypassed → t.restraint.seats[i] =
            { s.restraint.seats[i] with
              state := (picture s i).seatState, verifyElapsed := 0, disagreeElapsed := 0 }) ∧
          (mask.getLsbD i.val = false ∨ seatState s i ≠ .bypassed → i ∉ s.restraint.queue → i ∉ s.restraint.energised →
            t.restraint.seats[i] = s.restraint.seats[i])))

/-- CLEAR_SEAT_EVENTS (R70): the response carries the latches as they stood and the new summary; the named seats that are not
DISABLED lose their latches, and the summary says whether any latch is left. -/
def Obligations.ClearSeatEventsClearsLatches : Prop :=
  ∀ (f : Frame) (rest : List Frame) (s : State) (mask : Byte), Admitted .clearSeatEvents f rest s → f.args = [mask] →
    ∃ (r : Restraint) (data : List Byte),
      exec .clearSeatEvents s = .next (answered f .done data { taken s f rest with restraint := r }) ∧
      r.queue = s.restraint.queue ∧ r.energised = s.restraint.energised ∧
      (∀ i : Fin 8, r.seats[i] =
        if mask.getLsbD i.val = true ∧ seatState s i ≠ .disabled then
          { s.restraint.seats[i] with latches := ⟨false, false, false, false, false, false, false⟩ }
        else s.restraint.seats[i]) ∧
      (r.summary = true ↔ ∃ i : Fin 8, (r.seats[i]).latches ≠ ⟨false, false, false, false, false, false, false⟩) ∧
      data.length = 9 ∧ (∀ i : Fin 8, data[i.val]? = some (BitVec.ofNat 8 (s.restraint.seats[i]).latches.byte)) ∧
      data[8]? = some (if r.summary then 1 else 0)

/-- VERIFY_TIME_REACHED, DISAGREEMENT_TIME_REACHED and PULSE_TIMEOUT (R65, R66, R77): the seat's new state, timers and latch
when its time is reached; before that the row changes nothing (model's choice, log 1). In LOAD and READY the change of the
seat's state has the READY conditions judged (R7): LOAD becomes READY when they hold, READY becomes LOAD when one does not. A
pulse's timeout frees its place, which the head of the release queue fills (R74). -/
def Obligations.SeatTimersExpire : Prop :=
  (∀ (i : Fin 8) (s : State), ReleaseHeld s → seatState s i = .locked →
    s.params.verifyTime ≤ (s.restraint.seats[i]).verifyElapsed →
    ∃ t, exec (.verifyTimeReached i) s = .next t ∧ SameGround s t ∧ t.tracker = s.tracker ∧
      (s.mc.mode = .load ∨ s.mc.mode = .ready → RcHeard s → ReadyDecided t) ∧
      t.restraint.seats[i] = { s.restraint.seats[i] with state := .verified }) ∧
  (∀ (i : Fin 8) (s : State), seatState s i ≠ .locked ∨ (s.restraint.seats[i]).verifyElapsed < s.params.verifyTime →
    exec (.verifyTimeReached i) s = .next s) ∧
  (∀ (i : Fin 8) (s : State), ReleaseHeld s → (seatState s i).inEvaluation = true → seatState s i ≠ .disagree →
    (picture s i).conflict = true → s.params.disagreementTime ≤ (s.restraint.seats[i]).disagreeElapsed →
    ∃ t, exec (.disagreementTimeReached i) s = .next t ∧ SameGround s t ∧ t.tracker = s.tracker ∧
      (s.mc.mode = .load ∨ s.mc.mode = .ready → RcHeard s → ReadyDecided t) ∧
      t.restraint.summary = true ∧
      t.restraint.seats[i] =
        { s.restraint.seats[i] with
          state := .disagree, latches := { (s.restraint.seats[i]).latches with enteredDisagree := true } }) ∧
  (∀ (i : Fin 8) (s : State), seatState s i = .disagree ∨ (seatState s i).inEvaluation = false ∨
    (picture s i).conflict = false ∨ (s.restraint.seats[i]).disagreeElapsed < s.params.disagreementTime →
    exec (.disagreementTimeReached i) s = .next s) ∧
  (∀ (i : Fin 8) (s : State), i ∈ s.restraint.energised →
    (s.restraint.seats[i]).pulseTime ≤ (s.restraint.seats[i]).pulseElapsed →
    ∃ t, exec (.pulseTimeout i) s = .next t ∧ SameGround s t ∧ t.tracker = s.tracker ∧ t.restraint.summary = true ∧
      i ∉ t.restraint.energised ∧ i ∉ t.restraint.queue ∧
      (s.mc.mode = .load ∨ s.mc.mode = .ready → RcHeard s → ReadyDecided t) ∧
      (ReleaseHeld s → ReleaseFilled s.restraint.queue (s.restraint.energised.filter fun j => j != i)
        s.params.releasePulseTime t.restraint) ∧
      t.restraint.seats[i] =
        { s.restraint.seats[i] with
          state := (picture s i).seatState, verifyElapsed := 0, disagreeElapsed := 0, pulseElapsed := 0
          latches := { (s.restraint.seats[i]).latches with releaseFailed := true } }) ∧
  (∀ (i : Fin 8) (s : State), i ∉ s.restraint.energised ∨
    (s.restraint.seats[i]).pulseElapsed < (s.restraint.seats[i]).pulseTime → exec (.pulseTimeout i) s = .next s)

/-- TERMINAL_SAMPLE (R142, R143, R147): the sampled levels, each input's debounce count from its conditioned level, and each
checked terminal's mismatch count. A filtered change or a report that falls due is taken by a command of its own (log 22). -/
def Obligations.TerminalSampleCounts : Prop :=
  ∀ (levels : BitVec 40) (s : State), s.startUp.phase = .complete →
    ∃ m, exec (.terminalSample levels) s = .next { s with terminals := m } ∧ m.sampled = levels ∧
      m.filtered = s.terminals.filtered ∧
      (∀ (i : Fin 27) (level : Bool),
        level = (match s.params.sources[i] with
          | none => false
          | some t => if s.params.activeHigh[i] then levels.getLsbD t.val else !levels.getLsbD t.val) →
        m.debounce[i] = (if level = s.terminals.filtered[i] then 0 else min (s.terminals.debounce[i] + 1) 50) ∧
        (m.changeDue[i] = true ↔ level ≠ s.terminals.filtered[i] ∧
          (if i = 25 then 5 else s.params.debounceTime) ≤ s.terminals.debounce[i] + 1)) ∧
      (∀ (t : Fin 40) (k : Fin 8), s.params.outputs[t] = .release k →
        m.mismatch[t] = (if levels.getLsbD t.val = s.restraint.energised.contains k then 0
          else min (s.terminals.mismatch[t] + 1) 21) ∧
        (m.mismatchDue[t] = true ↔ s.terminals.mismatchDue[t] = true ∨
          (s.terminals.mismatch[t] = 20 ∧ levels.getLsbD t.val ≠ s.restraint.energised.contains k))) ∧
      (∀ t : Fin 40, (∀ k, s.params.outputs[t] ≠ .release k) → m.mismatch[t] = 0)

/-- FILTERED_CHANGE (R143, R144): the filtered level turns over and its count is 0. A seat in evaluation takes the state of R64,
with its change latch by the edge sense (R68); one that leaves VERIFIED or LOCKED for another state than VERIFIED in a watched
mode is a RESTRAINT_OPEN that halts the vehicle, or joins the faults of HALT (R82), and no other change of a seat is a fault; in
LOAD and READY a change of a seat's state has the READY conditions judged (R7). A RELEASING seat whose bar rises is OPEN with
release done (R76), and the head of the release queue fills its place (R74). AMP_READY clears the amplifier wait time (R60);
ONBOARD_STOP halts an online vehicle (R164); the strap changes nothing else. The change is due as the last sample left it, in
`changeDue` (model's choice, log 22); one that is not due changes nothing (log 1). -/
def Obligations.FilteredChangeReachesConsumers : Prop :=
  (∀ (i : Fin 27) (s : State), s.terminals.changeDue[i] = false → exec (.filteredChange i) s = .next s) ∧
  (∀ (i : Fin 27) (s : State), s.terminals.changeDue[i] = true → ∃ t, exec (.filteredChange i) s = .next t ∧
    t.terminals.filtered[i] = !s.terminals.filtered[i] ∧ t.terminals.debounce[i] = 0 ∧ t.terminals.changeDue[i] = false ∧
    (∀ j, j ≠ i → t.terminals.filtered[j] = s.terminals.filtered[j] ∧ t.terminals.debounce[j] = s.terminals.debounce[j]) ∧
    t.params = s.params ∧ t.tables = s.tables ∧ t.tracker = s.tracker ∧ t.clock = s.clock ∧ t.store = s.store ∧
    t.localMs = s.localMs ∧
    (i = 24 → t.steering = if s.terminals.filtered[i] = false then { s.steering with ampWait := 0 } else s.steering) ∧
    (i = 25 → s.terminals.filtered[i] = false → s.mc.mode ≠ .offline →
      t.mc.mode = .halt ∧ .onboardStop ∈ t.permit.active) ∧
    (i = 26 → t.mc = s.mc ∧ t.restraint = s.restraint ∧ t.permit = s.permit ∧ t.steering = s.steering)) ∧
  (∀ (k : Fin 8) (j : Fin 3) (i : Fin 27) (s : State), ReleaseHeld s → i.val = 3 * k.val + j.val →
    s.terminals.changeDue[i] = true → (seatState s k).inEvaluation = true →
    ∃ t, exec (.filteredChange i) s = .next t ∧
      seatState t k =
        (if seatState s k = .disagree ∧ (picture t k).conflict = true then .disagree else (picture t k).seatState) ∧
      (RestraintsWatched s → seatState s k = .verified ∨ seatState s k = .locked → seatState t k ≠ .verified →
        seatState t k ≠ seatState s k →
        FaultTaken .restraintOpen (k.val + 1) s t ∧ ∀ r, s.permit.first = some r → t.permit.first = some r) ∧
      (¬RestraintsWatched s ∨ (seatState s k ≠ .verified ∧ seatState s k ≠ .locked) ∨ seatState t k = .verified ∨
        seatState t k = seatState s k → RcHeard s → NoFaultTaken s t) ∧
      (seatState t k ≠ seatState s k → s.mc.mode = .load ∨ s.mc.mode = .ready → RcHeard s → ReadyDecided t) ∧
      ((s.params.edgeSense[j] = .both ∨ (s.params.edgeSense[j] = .rising ∧ s.terminals.filtered[i] = false) ∨
          (s.params.edgeSense[j] = .falling ∧ s.terminals.filtered[i] = true)) →
        t.restraint.summary = true ∧
        (j = 0 → (t.restraint.seats[k]).latches.lockA = true) ∧ (j = 1 → (t.restraint.seats[k]).latches.lockB = true) ∧
        (j = 2 → (t.restraint.seats[k]).latches.barDown = true))) ∧
  (∀ (k : Fin 8) (i : Fin 27) (s : State), i.val = 3 * k.val + 2 → s.terminals.changeDue[i] = true →
    s.terminals.filtered[i] = true → seatState s k = .releasing →
    ∃ t, exec (.filteredChange i) s = .next t ∧ seatState t k = .open ∧
      (t.restraint.seats[k]).latches.releaseDone = true ∧ (t.restraint.seats[k]).pulseElapsed = 0 ∧
      k ∉ t.restraint.queue ∧ k ∉ t.restraint.energised ∧ t.restraint.summary = true ∧
      (s.mc.mode = .load ∨ s.mc.mode = .ready → RcHeard s → ReadyDecided t) ∧
      (ReleaseHeld s → ReleaseFilled (s.restraint.queue.filter fun j => j != k)
        (s.restraint.energised.filter fun j => j != k) s.params.releasePulseTime t.restraint))

/-- SOLENOID_MISMATCH and AMP_NOT_READY (R81, R61): the seat's solenoid fault latch, and online the fault and HALT; the
amplifier fault once the wait has passed 100 ms in an online mode. A mismatch report is due while `mismatchDue` holds it
(model's choice, log 22); a row that is not due changes nothing (log 1). -/
def Obligations.OutputFaultsAreReported : Prop :=
  (∀ (n : Fin 40) (k : Fin 8) (s : State), s.terminals.mismatchDue[n] = true → s.params.outputs[n] = .release k →
    ∃ t, exec (.solenoidMismatch n) s = .next t ∧ t.terminals.mismatchDue[n] = false ∧ t.tracker = s.tracker ∧
      (seatState s k ≠ .disabled →
        (t.restraint.seats[k]).latches.solenoidFault = true ∧ t.restraint.summary = true) ∧
      (s.mc.mode = .offline → t.mc = s.mc ∧ t.permit = s.permit) ∧
      (s.mc.mode ≠ .offline → t.mc.mode = .halt ∧ .solenoid ∈ t.permit.active)) ∧
  (∀ (n : Fin 40) (s : State), s.terminals.mismatchDue[n] = false → exec (.solenoidMismatch n) s = .next s) ∧
  (∀ s : State, s.mc.mode ≠ .offline → 101 ≤ s.steering.ampWait →
    ∃ t, exec .ampNotReady s = .next t ∧ SameGround s t ∧ t.tracker = s.tracker ∧ t.mc.mode = .halt ∧
      .ampNotReady ∈ t.permit.active) ∧
  (∀ s : State, s.mc.mode = .offline ∨ s.steering.ampWait ≤ 100 → exec .ampNotReady s = .next s)

/-! ## Tables (R22 to R28, R42, R86, R117) -/

/-- TABLE_BEGIN (R23, R26, R42, R118): the named table is LOADING and empty with a fresh running CRC. The route table takes its
length, refused ARGUMENT out of range, and P becomes 0; route and marker unconfirm the position; the clip directory silences V5.
-/
def Obligations.TableBeginEmpties : Prop :=
  (∀ (f : Frame) (rest : List Frame) (s : State) (a b c : Byte), Admitted .tableBegin f rest s → f.args = [1, a, b, c] →
    (10000 ≤ 65536 * a.toNat + 256 * b.toNat + c.toNat → 65536 * a.toNat + 256 * b.toNat + c.toNat ≤ 2000000 →
      ∃ t, exec .tableBegin s = .next (answered f .done [] t) ∧
        SameGround { taken s f rest with tables :=
          { s.tables with route := ⟨.loading, [], 0xFFFF⟩,
                          routeLength := 65536 * a.toNat + 256 * b.toNat + c.toNat } } t ∧
        t.tracker = { s.tracker with p := 0, position := .unsync, segment := none, highWater := 0, expected := none,
                                     misses := 0 } ∧ t.cues.cursor = .unplaced ∧ t.sound = s.sound) ∧
    (65536 * a.toNat + 256 * b.toNat + c.toNat < 10000 ∨ 2000000 < 65536 * a.toNat + 256 * b.toNat + c.toNat →
      exec .tableBegin s = .next (answered f .argument [] (taken s f rest)))) ∧
  (∀ (f : Frame) (rest : List Frame) (s : State), Admitted .tableBegin f rest s → f.args = [2] →
    ∃ t, exec .tableBegin s = .next (answered f .done [] t) ∧
      SameGround { taken s f rest with tables := { s.tables with markers := ⟨.loading, [], 0xFFFF⟩ } } t ∧
      t.tracker = { s.tracker with position := .unsync, expected := none, misses := 0 } ∧ t.cues.cursor = .unplaced ∧
      t.sound = s.sound) ∧
  (∀ (f : Frame) (rest : List Frame) (s : State), Admitted .tableBegin f rest s → f.args = [3] →
    exec .tableBegin s = .next (answered f .done []
      { taken s f rest with tables := { s.tables with cues := ⟨.loading, [], 0xFFFF⟩ } })) ∧
  (∀ (f : Frame) (rest : List Frame) (s : State), Admitted .tableBegin f rest s → f.args = [4] →
    ∃ t, exec .tableBegin s = .next (answered f .done [] t) ∧
      t.tables = { s.tables with clips := ⟨.loading, [], 0xFFFF⟩ } ∧ t.sound.voices[(5 : Fin 6)] = none ∧
      (∀ v : Fin 6, v ≠ 5 → t.sound.voices[v] = s.sound.voices[v]) ∧
      (s.sound.voices[(5 : Fin 6)] ≠ none → t.sound.duckTarget = 4096) ∧
      t = { taken s f rest with tables := t.tables, sound := t.sound })

/-- TABLE_ENTRY (R24, R26, R27, R86, R117): into a LOADING table with room, an entry in range whose identifier is new and whose
key is above the last one's is appended, and the running CRC is extended over its bytes; a table that is not LOADING refuses
MODE, a full one FULL, as does the cue table past 1536 actions. An entry whose key is not above the last one's is refused ORDER;
one whose identifier is there already, and bytes that are no entry in range, ARGUMENT. The capacity check comes first and counts
a malformed cue entry's actions by its header (the model's reading, log 25); a RUN_ONLY byte other than 0 and 1 makes bytes that
are no entry (the model's reading, log 42). A refusal leaves the tables as they were. -/
def Obligations.TableEntryAppends : Prop :=
  (∀ (f : Frame) (rest : List Frame) (s : State) (g : Segment), Admitted .tableEntry f rest s →
    f.args = 1 :: g.bytes → s.tables.route.status = .loading → s.tables.route.entries.length < 256 →
    s.tables.routeLength ≤ 2000000 → g.inRange s.tables.routeLength = true →
    (match s.tables.route.entries.getLast? with | none => g.start = 0 | some l => l.start < g.start) →
    exec .tableEntry s = .next (answered f .done []
      { taken s f rest with tables := { s.tables with route :=
        ⟨.loading, s.tables.route.entries ++ [g], crc16From s.tables.route.crc g.bytes⟩ } })) ∧
  (∀ (f : Frame) (rest : List Frame) (s : State) (m : Marker), Admitted .tableEntry f rest s →
    f.args = 2 :: m.bytes → s.tables.markers.status = .loading → s.tables.markers.entries.length < 512 →
    m.inRange = true → (∀ o ∈ s.tables.markers.entries, o.id ≠ m.id) →
    (∀ l, s.tables.markers.entries.getLast? = some l → l.position < m.position) →
    exec .tableEntry s = .next (answered f .done []
      { taken s f rest with tables := { s.tables with markers :=
        ⟨.loading, s.tables.markers.entries ++ [m], crc16From s.tables.markers.crc m.bytes⟩ } })) ∧
  (∀ (f : Frame) (rest : List Frame) (s : State) (c : Cue), Admitted .tableEntry f rest s →
    f.args = 3 :: c.bytes → s.tables.cues.status = .loading → s.tables.cues.entries.length < 512 →
    (s.tables.cues.entries.map fun o => o.actions.length).sum + c.actions.length ≤ 1536 →
    c.inRange = true → (∀ o ∈ s.tables.cues.entries, o.id ≠ c.id) →
    (∀ l, s.tables.cues.entries.getLast? = some l → l.trigger.below c.trigger = true) →
    exec .tableEntry s = .next (answered f .done []
      { taken s f rest with tables := { s.tables with cues :=
        ⟨.loading, s.tables.cues.entries ++ [c], crc16From s.tables.cues.crc c.bytes⟩ } })) ∧
  (∀ (f : Frame) (rest : List Frame) (s : State) (c : Clip), Admitted .tableEntry f rest s →
    f.args = 4 :: c.bytes → s.tables.clips.status = .loading → s.tables.clips.entries.length < 128 →
    c.inRange = true → (∀ l, s.tables.clips.entries.getLast? = some l → l.number < c.number) →
    exec .tableEntry s = .next (answered f .done []
      { taken s f rest with tables := { s.tables with clips :=
        ⟨.loading, s.tables.clips.entries ++ [c], crc16From s.tables.clips.crc c.bytes⟩ } })) ∧
  (∀ (f : Frame) (rest : List Frame) (s : State) (bytes : List Byte), Admitted .tableEntry f rest s →
    (f.args = 1 :: bytes ∧ s.tables.route.status ≠ .loading) ∨ (f.args = 2 :: bytes ∧ s.tables.markers.status ≠ .loading) ∨
      (f.args = 3 :: bytes ∧ s.tables.cues.status ≠ .loading) ∨ (f.args = 4 :: bytes ∧ s.tables.clips.status ≠ .loading) →
    exec .tableEntry s = .next (answered f .mode [] (taken s f rest))) ∧
  (∀ (f : Frame) (rest : List Frame) (s : State) (bytes : List Byte), Admitted .tableEntry f rest s →
    (f.args = 1 :: bytes ∧ s.tables.route.status = .loading ∧ 256 ≤ s.tables.route.entries.length) ∨
      (f.args = 2 :: bytes ∧ s.tables.markers.status = .loading ∧ 512 ≤ s.tables.markers.entries.length) ∨
      (f.args = 3 :: bytes ∧ s.tables.cues.status = .loading ∧ 512 ≤ s.tables.cues.entries.length) ∨
      (f.args = 4 :: bytes ∧ s.tables.clips.status = .loading ∧ 128 ≤ s.tables.clips.entries.length) →
    exec .tableEntry s = .next (answered f .full [] (taken s f rest))) ∧
  (∀ (f : Frame) (rest : List Frame) (s : State) (g : Segment), Admitted .tableEntry f rest s →
    f.args = 1 :: g.bytes → s.tables.route.status = .loading → s.tables.route.entries.length < 256 →
    s.tables.routeLength ≤ 2000000 → g.inRange s.tables.routeLength = true →
    (match s.tables.route.entries.getLast? with | none => g.start ≠ 0 | some l => g.start ≤ l.start) →
    exec .tableEntry s = .next (answered f .order [] (taken s f rest))) ∧
  (∀ (f : Frame) (rest : List Frame) (s : State) (m : Marker), Admitted .tableEntry f rest s →
    f.args = 2 :: m.bytes → s.tables.markers.status = .loading → s.tables.markers.entries.length < 512 →
    m.inRange = true →
    ((∃ o ∈ s.tables.markers.entries, o.id = m.id) →
      exec .tableEntry s = .next (answered f .argument [] (taken s f rest))) ∧
    ((∀ o ∈ s.tables.markers.entries, o.id ≠ m.id) →
      (∃ l, s.tables.markers.entries.getLast? = some l ∧ m.position ≤ l.position) →
      exec .tableEntry s = .next (answered f .order [] (taken s f rest)))) ∧
  (∀ (f : Frame) (rest : List Frame) (s : State) (c : Cue), Admitted .tableEntry f rest s →
    f.args = 3 :: c.bytes → s.tables.cues.status = .loading → s.tables.cues.entries.length < 512 → c.inRange = true →
    (1536 < (s.tables.cues.entries.map fun o => o.actions.length).sum + c.actions.length →
      exec .tableEntry s = .next (answered f .full [] (taken s f rest))) ∧
    ((s.tables.cues.entries.map fun o => o.actions.length).sum + c.actions.length ≤ 1536 →
      ((∃ o ∈ s.tables.cues.entries, o.id = c.id) →
        exec .tableEntry s = .next (answered f .argument [] (taken s f rest))) ∧
      ((∀ o ∈ s.tables.cues.entries, o.id ≠ c.id) →
        (∃ l, s.tables.cues.entries.getLast? = some l ∧ l.trigger.below c.trigger = false) →
        exec .tableEntry s = .next (answered f .order [] (taken s f rest))))) ∧
  (∀ (f : Frame) (rest : List Frame) (s : State) (c : Clip), Admitted .tableEntry f rest s →
    f.args = 4 :: c.bytes → s.tables.clips.status = .loading → s.tables.clips.entries.length < 128 →
    c.inRange = true → (∃ l, s.tables.clips.entries.getLast? = some l ∧ c.number ≤ l.number) →
    exec .tableEntry s = .next (answered f .order [] (taken s f rest))) ∧
  (∀ (f : Frame) (rest : List Frame) (s : State) (bytes : List Byte), Admitted .tableEntry f rest s →
    (f.args = 1 :: bytes → s.tables.route.status = .loading → s.tables.route.entries.length < 256 →
      (∀ g : Segment, g.inRange s.tables.routeLength = true → g.bytes ≠ bytes) →
      exec .tableEntry s = .next (answered f .argument [] (taken s f rest))) ∧
    (f.args = 2 :: bytes → s.tables.markers.status = .loading → s.tables.markers.entries.length < 512 →
      (∀ m : Marker, m.inRange = true → m.bytes ≠ bytes) →
      exec .tableEntry s = .next (answered f .argument [] (taken s f rest))) ∧
    (f.args = 3 :: bytes → s.tables.cues.status = .loading → s.tables.cues.entries.length < 512 →
      (∀ c : Cue, c.inRange = true → c.bytes ≠ bytes) →
      exec .tableEntry s = .next (answered f
        (if 1536 < (s.tables.cues.entries.map fun o => o.actions.length).sum + Cue.actionCount bytes then .full
        else .argument) [] (taken s f rest))) ∧
    (f.args = 4 :: bytes → s.tables.clips.status = .loading → s.tables.clips.entries.length < 128 →
      (∀ c : Clip, c.inRange = true → c.bytes ≠ bytes) →
      exec .tableEntry s = .next (answered f .argument [] (taken s f rest))))

/-- TABLE_END (R25, R28): a count and CRC that agree make the table VALID, others leave it INVALID and empty, as does a route
table without entries; a marker at or past the end of the route makes the marker table INVALID once both are VALID. The response
gives the status, the count and the CRC (as compared: log 24). -/
def Obligations.TableEndCloses : Prop :=
  (∀ (f : Frame) (rest : List Frame) (s : State) (n1 n0 c1 c0 : Byte), Admitted .tableEnd f rest s →
    f.args = [3, n1, n0, c1, c0] → s.tables.cues.status = .loading →
    exec .tableEnd s = .next (
      if s.tables.cues.entries.length = 256 * n1.toNat + n0.toNat ∧ s.tables.cues.crc.toNat = 256 * c1.toNat + c0.toNat then
        answered f .done ([2] ++ be2 s.tables.cues.entries.length ++ be2 s.tables.cues.crc.toNat)
          { taken s f rest with tables := { s.tables with cues := { s.tables.cues with status := .valid } } }
      else
        answered f .done ([0] ++ be2 s.tables.cues.entries.length ++ be2 s.tables.cues.crc.toNat)
          { taken s f rest with tables := { s.tables with cues := ⟨.invalid, [], 0xFFFF⟩ } })) ∧
  (∀ (f : Frame) (rest : List Frame) (s : State) (n1 n0 c1 c0 : Byte), Admitted .tableEnd f rest s →
    f.args = [4, n1, n0, c1, c0] → s.tables.clips.status = .loading →
    exec .tableEnd s = .next (
      if s.tables.clips.entries.length = 256 * n1.toNat + n0.toNat ∧ s.tables.clips.crc.toNat = 256 * c1.toNat + c0.toNat then
        answered f .done ([2] ++ be2 s.tables.clips.entries.length ++ be2 s.tables.clips.crc.toNat)
          { taken s f rest with tables := { s.tables with clips := { s.tables.clips with status := .valid } } }
      else
        answered f .done ([0] ++ be2 s.tables.clips.entries.length ++ be2 s.tables.clips.crc.toNat)
          { taken s f rest with tables := { s.tables with clips := ⟨.invalid, [], 0xFFFF⟩ } })) ∧
  (∀ (f : Frame) (rest : List Frame) (s : State) (n1 n0 c1 c0 : Byte), Admitted .tableEnd f rest s →
    f.args = [1, n1, n0, c1, c0] → s.tables.route.status = .loading →
    ∃ t data, exec .tableEnd s = .next (answered f .done data t) ∧ data.tail = be2 s.tables.route.entries.length ++
        be2 s.tables.route.crc.toNat ∧ t.tables.cues = s.tables.cues ∧ t.tables.clips = s.tables.clips ∧
      (s.tables.route.entries.length = 256 * n1.toNat + n0.toNat → s.tables.route.crc.toNat = 256 * c1.toNat + c0.toNat →
        s.tables.route.entries ≠ [] → data.head? = some 2 ∧
          t.tables.route = { s.tables.route with status := .valid } ∧ t.tables.routeLength = s.tables.routeLength ∧
          (s.tables.markers.status = .valid → (∃ m ∈ s.tables.markers.entries, s.tables.routeLength ≤ m.position) →
            t.tables.markers = ⟨.invalid, [], 0xFFFF⟩ ∧ t.tracker.position = .unsync) ∧
          (s.tables.markers.status ≠ .valid ∨ (∀ m ∈ s.tables.markers.entries, m.position < s.tables.routeLength) →
            t.tables.markers = s.tables.markers ∧ t.tracker = s.tracker)) ∧
      (s.tables.route.entries.length ≠ 256 * n1.toNat + n0.toNat ∨
        s.tables.route.crc.toNat ≠ 256 * c1.toNat + c0.toNat ∨ s.tables.route.entries = [] →
        data.head? = some 0 ∧ t.tables.route = ⟨.invalid, [], 0xFFFF⟩ ∧ t.tables.routeLength = 0 ∧
          t.tables.markers = s.tables.markers ∧ t.tracker = s.tracker)) ∧
  (∀ (f : Frame) (rest : List Frame) (s : State) (n1 n0 c1 c0 : Byte), Admitted .tableEnd f rest s →
    f.args = [2, n1, n0, c1, c0] → s.tables.markers.status = .loading →
    ∃ t data, exec .tableEnd s = .next (answered f .done data t) ∧ data.tail = be2 s.tables.markers.entries.length ++
        be2 s.tables.markers.crc.toNat ∧ t.tables.route = s.tables.route ∧ t.tables.cues = s.tables.cues ∧
      t.tables.clips = s.tables.clips ∧
      (s.tables.markers.entries.length = 256 * n1.toNat + n0.toNat →
        s.tables.markers.crc.toNat = 256 * c1.toNat + c0.toNat → data.head? = some 2 ∧
          (s.tables.route.status ≠ .valid ∨ (∀ m ∈ s.tables.markers.entries, m.position < s.tables.routeLength) →
            t.tables.markers = { s.tables.markers with status := .valid }) ∧
          (s.tables.route.status = .valid → (∃ m ∈ s.tables.markers.entries, s.tables.routeLength ≤ m.position) →
            t.tables.markers = ⟨.invalid, [], 0xFFFF⟩)) ∧
      (s.tables.markers.entries.length ≠ 256 * n1.toNat + n0.toNat ∨
        s.tables.markers.crc.toNat ≠ 256 * c1.toNat + c0.toNat →
        data.head? = some 0 ∧ t.tables.markers = ⟨.invalid, [], 0xFFFF⟩ ∧ t.tracker = s.tracker))

/-- Every entry in its ranges is read back from its bytes: no field of a table entry is dropped or mixed (R26, R27, R86, R87,
R117, R186). -/
def Obligations.TableEntriesRoundTrip : Prop :=
  (∀ (len : Nat) (g : Segment), len ≤ 2000000 → g.inRange len = true → Segment.parse len g.bytes = some g) ∧
  (∀ m : Marker, m.inRange = true → Marker.parse m.bytes = some m) ∧
  (∀ c : Clip, c.inRange = true → Clip.parse c.bytes = some c) ∧
  (∀ c : Cue, c.inRange = true → Cue.parse c.bytes = some c) ∧
  (∀ (a : Action) (rest : List Byte), a.inRange = true → Action.parse (a.bytes ++ rest) = some (a, rest))

/-! ## The store (R189, R190) -/

/-- STORE_WRITE, STORE_ERASE and STORE_READ (R189): refused ARGUMENT outside the clip region, BUSY unless the store and every
voice are IDLE; else the operation begins, or the bytes are answered. -/
def Obligations.StoreRequestsBegin : Prop :=
  (∀ (f : Frame) (rest : List Frame) (s : State) (a b c : Byte) (data : List Byte), Admitted .storeWrite f rest s →
    f.args = a :: b :: c :: data →
    (data = [] ∨ 32 < data.length ∨ 16515072 < 65536 * a.toNat + 256 * b.toNat + c.toNat + data.length →
      exec .storeWrite s = .next (answered f .argument [] (taken s f rest))) ∧
    (data ≠ [] → data.length ≤ 32 → 65536 * a.toNat + 256 * b.toNat + c.toNat + data.length ≤ 16515072 →
      (s.store.activity ≠ .idle ∨ (∃ v : Fin 6, s.sound.voices[v] ≠ none) →
        exec .storeWrite s = .next (answered f .busy [] (taken s f rest))) ∧
      (s.store.activity = .idle → (∀ v : Fin 6, s.sound.voices[v] = none) →
        exec .storeWrite s = .next (answered f .done [] { taken s f rest with store :=
          { s.store with activity := .writing (65536 * a.toNat + 256 * b.toNat + c.toNat) data 0 } })))) ∧
  (∀ (f : Frame) (rest : List Frame) (s : State) (a b c : Byte), Admitted .storeErase f rest s → f.args = [a, b, c] →
    (b ≠ 0 ∨ c ≠ 0 ∨ 252 ≤ a.toNat → exec .storeErase s = .next (answered f .argument [] (taken s f rest))) ∧
    (b = 0 → c = 0 → a.toNat < 252 →
      (s.store.activity ≠ .idle ∨ (∃ v : Fin 6, s.sound.voices[v] ≠ none) →
        exec .storeErase s = .next (answered f .busy [] (taken s f rest))) ∧
      (s.store.activity = .idle → (∀ v : Fin 6, s.sound.voices[v] = none) →
        exec .storeErase s = .next (answered f .done [] { taken s f rest with store :=
          { s.store with activity := .erasing a.toNat 0 } })))) ∧
  (∀ (f : Frame) (rest : List Frame) (s : State) (a b c n : Byte), Admitted .storeRead f rest s → f.args = [a, b, c, n] →
    (n = 0 ∨ 32 < n.toNat ∨ 16515072 < 65536 * a.toNat + 256 * b.toNat + c.toNat + n.toNat →
      exec .storeRead s = .next (answered f .argument [] (taken s f rest))) ∧
    (n ≠ 0 → n.toNat ≤ 32 → 65536 * a.toNat + 256 * b.toNat + c.toNat + n.toNat ≤ 16515072 →
      (s.store.activity ≠ .idle ∨ (∃ v : Fin 6, s.sound.voices[v] ≠ none) →
        exec .storeRead s = .next (answered f .busy [] (taken s f rest))) ∧
      (s.store.activity = .idle → (∀ v : Fin 6, s.sound.voices[v] = none) →
        ∃ data, exec .storeRead s = .next (answered f .done data (taken s f rest)) ∧ data.length = n.toNat ∧
          ∀ i, i < n.toNat →
            data[i]? = some (s.store.memory.read (65536 * a.toNat + 256 * b.toNat + c.toNat + i)))))

/-- STORE_COMPLETE and STORE_TIMEOUT (R189): a write that succeeds puts its bytes where it said and nowhere else, an erase that
succeeds touches its block alone (the erased byte is a free value: log 10); an error or a passed limit sets the error flag,
with the bytes of the operation left open (log 11) and every other byte as it was. -/
def Obligations.StoreOperationsEnd : Prop :=
  (∀ (s : State) (address : Nat) (data : List Byte) (elapsed : Nat), MemoryCanonical s →
    s.store.activity = .writing address data elapsed →
    (∃ m, exec (.storeComplete true) s =
        .next { s with store := { s.store with activity := .idle, errorFlag := false, memory := m } } ∧
      (∀ i, i < data.length → some (m.read (address + i)) = data[i]?) ∧
      (∀ x, x < address ∨ address + data.length ≤ x → m.read x = s.store.memory.read x)) ∧
    (∃ m, exec (.storeComplete false) s = .next { s with
          store := { s.store with activity := .idle, errorFlag := true, memory := m }, freeDraws := s.freeDraws + 1 } ∧
      (∀ x, x < address ∨ address + data.length ≤ x → m.read x = s.store.memory.read x)) ∧
    (2 < elapsed → exec .storeTimeout s = exec (.storeComplete false) s) ∧
    (elapsed ≤ 2 → exec .storeTimeout s = .next s)) ∧
  (∀ (s : State) (block elapsed : Nat), s.store.activity = .erasing block elapsed →
    (∃ m, exec (.storeComplete true) s =
        .next { s with store := { s.store with activity := .idle, errorFlag := false, memory := m } } ∧
      (∀ x, x / 65536 = block → m.read x = Config.erasedByte) ∧
      (∀ x, x / 65536 ≠ block → m.read x = s.store.memory.read x)) ∧
    (∃ m, exec (.storeComplete false) s = .next { s with
          store := { s.store with activity := .idle, errorFlag := true, memory := m }, freeDraws := s.freeDraws + 1 } ∧
      (∀ x, x / 65536 ≠ block → m.read x = s.store.memory.read x)) ∧
    (500 < elapsed → exec .storeTimeout s = exec (.storeComplete false) s) ∧
    (elapsed ≤ 500 → exec .storeTimeout s = .next s)) ∧
  (∀ (s : State) (success : Bool), (∀ a d e, s.store.activity ≠ .writing a d e) → (∀ b e, s.store.activity ≠ .erasing b e) →
    exec (.storeComplete success) s = .next s ∧ exec .storeTimeout s = .next s)

/-- SAVE, SAVE_COMPLETE and SAVE_TIMEOUT (R190): BUSY unless the store and every voice are IDLE; else the working configuration
and the VALID tables are copied; success puts the copy in the image region; an error or 400 ms sets the error flag, the image
then being partly new: each section, the route's with its length, is the old one, the new one or one that fails its CRC (model's
choice, log 13). The clip region is not touched. A row whose operation is not in flight changes nothing (log 1). -/
def Obligations.SaveWritesTheImage : Prop :=
  (∀ (f : Frame) (rest : List Frame) (s : State), Admitted .save f rest s → f.args = [] →
    (s.store.activity ≠ .idle ∨ (∃ v : Fin 6, s.sound.voices[v] ≠ none) →
      exec .save s = .next (answered f .busy [] (taken s f rest))) ∧
    (s.store.activity = .idle → (∀ v : Fin 6, s.sound.voices[v] = none) → ∃ copy : Image,
      exec .save s = .next (answered f .done []
        { taken s f rest with store := { s.store with activity := .saving copy 0 } }) ∧
      copy.config = some s.params ∧ copy.routeLength = s.tables.routeLength ∧
      copy.route = (if s.tables.route.status = .valid then
        .present s.tables.route.entries.length s.tables.route.crc s.tables.route.entries else .absent) ∧
      copy.markers = (if s.tables.markers.status = .valid then
        .present s.tables.markers.entries.length s.tables.markers.crc s.tables.markers.entries else .absent) ∧
      copy.cues = (if s.tables.cues.status = .valid then
        .present s.tables.cues.entries.length s.tables.cues.crc s.tables.cues.entries else .absent) ∧
      copy.clips = (if s.tables.clips.status = .valid then
        .present s.tables.clips.entries.length s.tables.clips.crc s.tables.clips.entries else .absent))) ∧
  (∀ (s : State) (copy : Image) (elapsed : Nat), s.store.activity = .saving copy elapsed →
    exec (.saveComplete true) s =
      .next { s with store := { s.store with activity := .idle, errorFlag := false, image := copy } } ∧
    (∃ image : Image, exec (.saveComplete false) s = .next { s with
        store := { s.store with activity := .idle, errorFlag := true, image := image }, freeDraws := s.freeDraws + 1 } ∧
      (image.config = s.store.image.config ∨ image.config = copy.config ∨ image.config = none) ∧
      ((image.route = s.store.image.route ∧ image.routeLength = s.store.image.routeLength) ∨
        ((image.route = copy.route ∨ image.route = .broken) ∧ image.routeLength = copy.routeLength)) ∧
      (image.markers = s.store.image.markers ∨ image.markers = copy.markers ∨ image.markers = .broken) ∧
      (image.cues = s.store.image.cues ∨ image.cues = copy.cues ∨ image.cues = .broken) ∧
      (image.clips = s.store.image.clips ∨ image.clips = copy.clips ∨ image.clips = .broken)) ∧
    (400 < elapsed → exec .saveTimeout s = exec (.saveComplete false) s) ∧
    (elapsed ≤ 400 → exec .saveTimeout s = .next s)) ∧
  (∀ (s : State) (success : Bool), (∀ c e, s.store.activity ≠ .saving c e) →
    exec (.saveComplete success) s = .next s ∧ exec .saveTimeout s = .next s)

/-- SET_PARAM and GET_PARAM (R187, R188): a number is brought into its range and answered CLAMPED when that moved it, an
enumerated value is taken when it names something (R140); no other parameter changes. Refused ARGUMENT for an unknown number, a
read-only item or a value that names nothing, MODE outside OFFLINE where the list says so, for the seat enable mask while a
release is in progress (R63), and for a running generator's precision and divider (R149). An output selection clears its
terminal's mismatch count (R140), with a report that is not taken yet (model's choice, log 51); a source or an active level
forms the filtered level at once (R145); the seat enable mask takes seats out and puts them in (R63). GET_PARAM answers the
value in force, for the read-only items the levels (R186), and changes nothing. -/
def Obligations.ParametersAreWrittenAndRead : Prop :=
  (∀ (f : Frame) (rest : List Frame) (s : State) (n1 n0 v3 v2 v1 v0 : Byte) (id : ParamId) (lo hi : Int),
    Admitted .setParam f rest s → f.args = [n1, n0, v3, v2, v1, v0] →
    ParamId.ofNumber (256 * n1.toNat + n0.toNat) = some id → id.range = some (lo, hi) →
    (id.anyMode = false → s.mc.mode ≠ .offline → exec .setParam s = .next (answered f .mode [] (taken s f rest))) ∧
    ((id.anyMode = true ∨ s.mc.mode = .offline) →
      (id = .seatMask → s.restraint.queue = [] ∧ s.restraint.energised = []) →
      (∀ g, id = .dgPrecision g ∨ id = .dgDivider g → (s.density[g]).running = false) →
      ∃ t, exec .setParam s = .next (answered f
          (if clampInt lo hi (beInt [v3, v2, v1, v0]) = beInt [v3, v2, v1, v0] then .done else .clamped)
          ([n1, n0] ++ beInt4 (clampInt lo hi (beInt [v3, v2, v1, v0]))) t) ∧
        t.params.value id = clampInt lo hi (beInt [v3, v2, v1, v0]) ∧
        (∀ other, other ≠ id → t.params.value other = s.params.value other) ∧
        t.tables = s.tables ∧ t.clock = s.clock ∧ t.store = s.store ∧ t.mc.dispatchCount = s.mc.dispatchCount)) ∧
  (∀ (f : Frame) (rest : List Frame) (s : State) (n1 n0 v3 v2 v1 v0 : Byte) (id : ParamId),
    Admitted .setParam f rest s → f.args = [n1, n0, v3, v2, v1, v0] →
    ParamId.ofNumber (256 * n1.toNat + n0.toNat) = some id → id.range = none → id.readOnly = false →
    (id.anyMode = false → s.mc.mode ≠ .offline → exec .setParam s = .next (answered f .mode [] (taken s f rest))) ∧
    ((id.anyMode = true ∨ s.mc.mode = .offline) →
      (¬id.takes (beInt [v3, v2, v1, v0]) →
        exec .setParam s = .next (answered f .argument [] (taken s f rest))) ∧
      (id.takes (beInt [v3, v2, v1, v0]) →
        ∃ t, exec .setParam s = .next (answered f .done [n1, n0, v3, v2, v1, v0] t) ∧
          t.params.value id = beInt [v3, v2, v1, v0] ∧
          (∀ other, other ≠ id → t.params.value other = s.params.value other) ∧
          t.tables = s.tables ∧ t.clock = s.clock ∧ t.store = s.store ∧ t.mc.dispatchCount = s.mc.dispatchCount ∧
          (∀ i, id = .output i → t = { taken s f rest with
            params := t.params
            terminals := { s.terminals with
              mismatch := s.terminals.mismatch.set i 0, mismatchDue := s.terminals.mismatchDue.set i false } }) ∧
          (∀ i, id = .source i ∨ id = .activeLevel i →
            t.terminals.filtered[i] = (match t.params.sources[i] with
              | none => false
              | some x => if t.params.activeHigh[i] then s.terminals.sampled.getLsbD x.val
                else !s.terminals.sampled.getLsbD x.val) ∧
            t.terminals.debounce[i] = 0 ∧ t.terminals.changeDue[i] = false ∧
            t.terminals.sampled = s.terminals.sampled ∧
            ∀ j, j ≠ i → t.terminals.filtered[j] = s.terminals.filtered[j] ∧
              t.terminals.debounce[j] = s.terminals.debounce[j])))) ∧
  (∀ (f : Frame) (rest : List Frame) (s : State) (n1 n0 v3 v2 v1 v0 : Byte) (id : ParamId),
    Admitted .setParam f rest s → f.args = [n1, n0, v3, v2, v1, v0] →
    ParamId.ofNumber (256 * n1.toNat + n0.toNat) = some id → s.mc.mode = .offline →
    (id = .seatMask ∧ (s.restraint.queue ≠ [] ∨ s.restraint.energised ≠ []) ∨
      (∃ g, (id = .dgPrecision g ∨ id = .dgDivider g) ∧ (s.density[g]).running = true)) →
    exec .setParam s = .next (answered f .mode [] (taken s f rest))) ∧
  (∀ (f : Frame) (rest : List Frame) (s : State) (v3 v2 v1 v0 : Byte) (mask : Nat), Admitted .setParam f rest s →
    f.args = [0, 0x20, v3, v2, v1, v0] → s.mc.mode = .offline → s.restraint.queue = [] → s.restraint.energised = [] →
    (mask : Int) = clampInt 0 255 (beInt [v3, v2, v1, v0]) →
    ∃ st data t, exec .setParam s = .next (answered f st data t) ∧ t.params.seatMask.toNat = mask ∧
      t.restraint.queue = [] ∧ t.restraint.energised = [] ∧
      (∀ i : Fin 8, t.restraint.seats[i] =
        if mask.testBit i.val then
          if seatState s i = .disabled then
            { s.restraint.seats[i] with state := (picture s i).seatState, verifyElapsed := 0, disagreeElapsed := 0 }
          else s.restraint.seats[i]
        else if seatState s i = .disabled then s.restraint.seats[i]
        else { s.restraint.seats[i] with state := .disabled, verifyElapsed := 0, disagreeElapsed := 0,
                                         latches := Latches.clear }) ∧
      (t.restraint.summary = true ↔ ∃ i : Fin 8, (t.restraint.seats[i]).latches ≠ Latches.clear)) ∧
  (∀ (f : Frame) (rest : List Frame) (s : State) (n1 n0 v3 v2 v1 v0 : Byte), Admitted .setParam f rest s →
    f.args = [n1, n0, v3, v2, v1, v0] →
    (ParamId.ofNumber (256 * n1.toNat + n0.toNat) = none ∨
      ∃ id, ParamId.ofNumber (256 * n1.toNat + n0.toNat) = some id ∧ id.readOnly = true) →
    exec .setParam s = .next (answered f .argument [] (taken s f rest))) ∧
  (∀ (f : Frame) (rest : List Frame) (s : State) (n1 n0 : Byte), Admitted .getParam f rest s → f.args = [n1, n0] →
    (∀ id, ParamId.ofNumber (256 * n1.toNat + n0.toNat) = some id → id.readOnly = false →
      exec .getParam s = .next (answered f .done ([n1, n0] ++ beInt4 (s.params.value id)) (taken s f rest))) ∧
    (n1 = 4 → n0 = 0 → ∃ levels : Nat, levels < 2 ^ 27 ∧ (∀ i : Fin 27, levels.testBit i.val = s.terminals.filtered[i]) ∧
      exec .getParam s = .next (answered f .done ([n1, n0] ++ be4 levels) (taken s f rest))) ∧
    (n1 = 4 → n0 = 1 → exec .getParam s = .next (answered f .done
      ([n1, n0] ++ be4 (s.terminals.sampled.toNat % 4294967296)) (taken s f rest))) ∧
    (n1 = 4 → n0 = 2 → exec .getParam s = .next (answered f .done
      ([n1, n0] ++ be4 (s.terminals.sampled.toNat / 4294967296)) (taken s f rest))) ∧
    (ParamId.ofNumber (256 * n1.toNat + n0.toNat) = none →
      exec .getParam s = .next (answered f .argument [] (taken s f rest))))

/-! ## Requests to the Permit Unit and the Cue Engine (R104, R159, R168) -/

/-- SET_SPEED_LIMIT (R159) takes a limit of at most 3000 and forms the speed ceiling of R157 again; a fall of it clears the
overspeed count (R161). Where the ceiling ahead is formed again, on a route whose segments rise from 0, it is the least of what
the segments ahead let the vehicle run (R158), and the speed ceiling is formed from it; without a confirmed position or a VALID
route table it is the speed ceiling. Where the permit level is formed again (R156), it is the lowest of the mode permit (R3),
the position, the seats and the onboard stop (R155); a new level forms the speed ceiling, and one of STOP or EMERGENCY clears
the overspeed count and the amplifier wait time (R60); during start-up it stays (R154). READ_FAULT_LOG (R168) answers up to
three records with their numbers, and removes none. -/
def Obligations.SpeedLimitAndFaultLog : Prop :=
  (∀ (f : Frame) (rest : List Frame) (s : State) (hi lo : Byte), Admitted .setSpeedLimit f rest s → f.args = [hi, lo] →
    ∃ u, exec .setSpeedLimit s = .next (answered f (if 3000 < 256 * hi.toNat + lo.toNat then .clamped else .done)
        (be2 (min (256 * hi.toNat + lo.toNat) 3000) ++ be2 u.speedCeiling) { taken s f rest with permit := u }) ∧
      u.rcLimit = min (256 * hi.toNat + lo.toNat) 3000 ∧ u.level = s.permit.level ∧ u.active = s.permit.active ∧
      u.first = s.permit.first ∧ u.log = s.permit.log ∧ u.stationary = s.permit.stationary ∧
      (s.permit.level = .stop ∨ s.permit.level = .emergency → u.speedCeiling = 0) ∧
      (s.permit.level = .run → s.tracker.position = .sync →
        u.speedCeiling = min (ceilingInForce s) (min u.rcLimit s.permit.ceilingAhead)) ∧
      (s.permit.level = .creep → s.tracker.position = .sync →
        u.speedCeiling = min s.params.creepCeiling (min (ceilingInForce s) (min u.rcLimit s.permit.ceilingAhead))) ∧
      (s.permit.level = .creep → s.tracker.position = .unsync →
        u.speedCeiling = min s.params.creepCeiling u.rcLimit) ∧
      u.overspeed = (if u.speedCeiling < s.permit.speedCeiling then 0 else s.permit.overspeed)) ∧
  (∀ s : State, s.tracker.position = .sync → s.tables.route.status = .valid →
    s.tables.route.entries.Pairwise (fun g h => g.start < h.start) →
    (∃ g more, s.tables.route.entries = g :: more ∧ g.start = 0) →
    (∀ g ∈ s.tables.route.entries, g.start < s.tables.routeLength ∧ g.ceiling ≤ 3000) →
    s.params.creepCeiling ≤ 3000 → s.tracker.p < 10 * s.tables.routeLength →
    ∃ u, formAhead s = { s with permit := u } ∧
      (∀ g : Segment, g.Ahead s → u.ceilingAhead ≤ g.ceilingSeen s.params.creepCeiling) ∧
      (∃ g : Segment, g.Ahead s ∧ u.ceilingAhead = g.ceilingSeen s.params.creepCeiling) ∧
      CeilingFormed s s.permit.rcLimit u.ceilingAhead u.speedCeiling) ∧
  (∀ s : State, s.tracker.position = .unsync ∨ s.tables.route.status ≠ .valid →
    ∃ u, formAhead s = { s with permit := u } ∧ u.ceilingAhead = u.speedCeiling ∧
      CeilingFormed s s.permit.rcLimit s.permit.ceilingAhead u.speedCeiling) ∧
  (∀ s t : State, s.startUp.phase = .complete → t = refreshPermit s →
    LevelFormed s t.permit.level ∧ t.mc = s.mc ∧ t.tracker = s.tracker ∧
      (t.permit.level = s.permit.level → t = s) ∧
      (t.permit.level ≠ s.permit.level →
        CeilingFormed t s.permit.rcLimit s.permit.ceilingAhead t.permit.speedCeiling ∧
        (t.permit.level = .stop ∨ t.permit.level = .emergency → t.permit.overspeed = 0 ∧ t.steering.ampWait = 0))) ∧
  (∀ s : State, s.startUp.phase ≠ .complete → refreshPermit s = s) ∧
  (∀ (f : Frame) (rest : List Frame) (s : State) (b : Byte), Admitted .readFaultLog f rest s → f.args = [b] →
    (b.toNat ≤ 15 → exec .readFaultLog s = .next (answered f .done
      ([BitVec.ofNat 8 s.permit.log.length] ++ be2 s.permit.nextNumber ++
        ((s.permit.log.drop b.toNat).take 3).flatMap fun e =>
          be2 e.1 ++ [BitVec.ofNat 8 e.2.kind.code, BitVec.ofNat 8 e.2.sub.code] ++ be2 e.2.detail ++ be3 e.2.position ++
            be4 e.2.showMs ++ [BitVec.ofNat 8 e.2.mode.code]) (taken s f rest))) ∧
    (15 < b.toNat → exec .readFaultLog s = .next (answered f .argument [] (taken s f rest)))) ∧
  (∀ (f : Frame) (rest : List Frame) (s : State),
    (f.args.length ≠ 2 → Admitted .setSpeedLimit f rest s →
      exec .setSpeedLimit s = .next (answered f .argument [] (taken s f rest))) ∧
    (f.args.length ≠ 1 → Admitted .readFaultLog f rest s →
      exec .readFaultLog s = .next (answered f .argument [] (taken s f rest))))

/-- NOTICES (R104) answers and removes up to eight notices from the front of the queue, then the number left and the three
counts, which it does not change. -/
def Obligations.NoticesAreTaken : Prop :=
  ∀ (f : Frame) (rest : List Frame) (s : State), Admitted .notices f rest s →
    (f.args = [] → exec .notices s = .next (answered f .done
      ([BitVec.ofNat 8 (min 8 s.cues.notices.length)] ++
        ((s.cues.notices.take 8).flatMap fun n =>
          be2 n.cue ++ [n.code] ++ be4 n.showMs ++ be3 n.position ++ be2 n.dispatchCount) ++
        [BitVec.ofNat 8 (s.cues.notices.length - 8)] ++ be2 s.cues.lostNotices ++ be2 s.cues.skippedCues ++
        be2 s.cues.skippedActions)
      { taken s f rest with cues := { s.cues with notices := s.cues.notices.drop 8 } })) ∧
    (f.args ≠ [] → exec .notices s = .next (answered f .argument [] (taken s f rest)))

/-! ## The show clock (R105 to R114) -/

/-- SHOW_CLOCK_ADVANCE (R106): a local millisecond adds 1,000,000 ns and the slew adjustment to show time, takes the adjustment
off the pending correction and adds it to the adjustment total, and ages the sync; the clock is FREE from the event in which the
age reaches 5000 (R111); nothing else changes. SYNC_AGE_EXPIRY is the last millisecond of the age taken by itself (model's
choice, log 48), and changes nothing before it (log 1). Then the capture of R107 (24 oscillator periods are one us) and the grid
instants of R113. -/
def Obligations.ShowClockAdvancesAndIsRead : Prop :=
  (∀ s : State, ∃ c, exec .showClockAdvance s = .next { s with clock := c } ∧ c.us < 1000 ∧ c.residue < 1000 ∧
    (s.clock.us < 1000 → s.clock.residue < 1000 → c.residue = s.clock.residue) ∧
    c.state = (if 4999 ≤ s.clock.age then .free else s.clock.state) ∧ c.steps = s.clock.steps ∧
    c.age = min (s.clock.age + 1) 5000 ∧
    (0 < s.clock.pending → c.pending = s.clock.pending - 1 ∧ c.adjustment = s.clock.adjustment + 1000 ∧
      c.ms * 1000000 + c.us * 1000 + c.residue =
        (s.clock.ms * 1000000 + s.clock.us * 1000 + s.clock.residue + 1001000) % 4294967296000000) ∧
    (s.clock.pending < 0 → c.pending = s.clock.pending + 1 ∧ c.adjustment = s.clock.adjustment - 1000 ∧
      c.ms * 1000000 + c.us * 1000 + c.residue =
        (s.clock.ms * 1000000 + s.clock.us * 1000 + s.clock.residue + 999000) % 4294967296000000) ∧
    (s.clock.pending = 0 → c.pending = 0 ∧ c.adjustment = s.clock.adjustment ∧
      c.ms * 1000000 + c.us * 1000 + c.residue =
        (s.clock.ms * 1000000 + s.clock.us * 1000 + s.clock.residue + 1000000) % 4294967296000000)) ∧
  (∀ s : State, 4999 ≤ s.clock.age →
    exec .syncAgeExpiry s = .next { s with clock := { s.clock with age := 5000, state := .free } }) ∧
  (∀ s : State, s.clock.age < 4999 → exec .syncAgeExpiry s = .next s) ∧
  (∀ (c : ShowClock) (periods : Nat), periods < 24000 →
    (c.capture periods).us < 1000 ∧ (c.capture periods).residue < 1000 ∧
    (c.capture periods).adjustment = c.adjustment ∧
    (c.capture periods).ms * 1000000 + (c.capture periods).us * 1000 + (c.capture periods).residue =
      (c.ms * 1000000 + c.us * 1000 + c.residue + periods * 1000000 / 24000) % 4294967296000000) ∧
  (∀ (c : ShowClock) (period : Nat), 0 < period → c.ms < 4294967296 → ∃ k, c.ms < k * period ∧ k * period ≤ c.ms + period ∧
    c.nextGrid period = if k * period < 4294967296 then k * period else k * period - 4294967296)

/-- SYNC (R108 to R111): the offset D of R109 between the carried show time and the frame's capture; above the step threshold
show time moves by the whole of D, else the offset in us becomes the pending correction. In the same event every timed voice is
compared with its expected position under the clock as the sync left it (R114, R124, R125): a PLAYING voice plays on within the
resync tolerance, around the loop where its clip loops, and is moved, put back to WAITING or ended beyond it, each of which
counts as a resync; a WAITING one joins when its time has come; a checked voice is no longer unsynced. PAUSED, STOPPING and
untimed voices keep their records. -/
def Obligations.SyncSetsClockAndVoices : Prop :=
  (∀ (f : Frame) (rest : List Frame) (s : State) (t3 t2 t1 t0 u1 u0 : Byte) (d o : Int), Admitted .sync f rest s →
    f.args = [t3, t2, t1, t0, u1, u0] → 256 * u1.toNat + u0.toNat ≤ 999 →
    d = Int.bmod
          ((16777216 * t3.toNat + 65536 * t2.toNat + 256 * t1.toNat + t0.toNat : Nat) - (f.capture.ms : Int)) 4294967296 *
          1000000 + (256 * u1.toNat + u0.toNat : Nat) * 1000 - f.capture.us * 1000 - f.capture.residue -
        (s.clock.adjustment - f.capture.adjustment).toInt →
    o = d.tdiv 1000 →
    ∃ t, exec .sync s = .next (answered f .done
        (beInt4 (clampInt (-2147483647) 2147483647 o) ++ [if (s.params.stepThreshold : Int) * 1000 < |o| then 1 else 0] ++
          [BitVec.ofNat 8 t.clock.state.code] ++ be2 t.clock.steps) t) ∧
      t = { taken s f rest with clock := t.clock, sound := t.sound } ∧
      t.clock.state = (if |o| ≤ (s.params.lockTolerance : Int) then .locked else .slewing) ∧ t.clock.age = 0 ∧
      ((s.params.stepThreshold : Int) * 1000 < |o| →
        ((t.clock.ms * 1000000 + t.clock.us * 1000 + t.clock.residue : Nat) : Int) =
          ((s.clock.ms * 1000000 + s.clock.us * 1000 + s.clock.residue : Nat) + d) % 4294967296000000 ∧
        t.clock.us < 1000 ∧ t.clock.residue < 1000 ∧ t.clock.pending = 0 ∧
        t.clock.steps = min (s.clock.steps + 1) 65535 ∧
        t.clock.adjustment = s.clock.adjustment + BitVec.ofInt 64 d) ∧
      (|o| ≤ (s.params.stepThreshold : Int) * 1000 →
        t.clock = { s.clock with pending := o, state := t.clock.state, age := 0 }) ∧
      ((∀ v, s.sound.voices[(5 : Fin 6)] = some v → v.timing = none) →
        t.sound = { s.sound with voices := t.sound.voices, resyncs := t.sound.resyncs }) ∧
      ∃ moved : Fin 6 → Bool,
        (∀ i : Fin 6, (∀ v, s.sound.voices[i] = some v → v.timing = none) →
          t.sound.voices[i] = s.sound.voices[i] ∧ moved i = false) ∧
        (∀ (i : Fin 6) (v : Voice) (tm : Timing) (c : Clip), s.sound.voices[i] = some v → v.timing = some tm →
          findClip s v.clip = some c → VoiceChecked s.params.resyncTolerance
            (Int.bmod ((t.clock.ms : Int) - tm.ms) 4294967296 * 1000 + ((t.clock.us : Int) - tm.us))
            c.length v tm t.sound.voices[i] (moved i)) ∧
        t.sound.resyncs =
          (if ∀ i, moved i = false then s.sound.resyncs
           else min (s.sound.resyncs + ((List.finRange 6).filter moved).length) 65535)) ∧
  (∀ (f : Frame) (rest : List Frame) (s : State), Admitted .sync f rest s →
    (f.args.length ≠ 6 ∨ ∃ t3 t2 t1 t0 u1 u0 : Byte, f.args = [t3, t2, t1, t0, u1, u0] ∧
      999 < 256 * u1.toNat + u0.toNat) →
    exec .sync s = .next (answered f .argument [] (taken s f rest)))

/-! ## Sound (R115 to R137) -/

/-- VOICE_START (R122, R123, R124): the record of the started voice for each start mode, the response's state, unsynced flag and
start show time, the clamps and the refusals. A start at a time that has passed joins at its expected position, also around the
loop, or is IDLE past the end of its clip. The other voices and the duck level are not touched. -/
def Obligations.VoiceStartStartsVoices : Prop :=
  (∀ (f : Frame) (rest : List Frame) (s : State) (v : Fin 4) (n g1 g0 : Byte) (r : Route) (h : HoldBehaviour)
      (mode : List Byte) (clip : Clip), Admitted .voiceStart f rest s →
    f.args = [BitVec.ofNat 8 v.val, n, g1, g0, BitVec.ofNat 8 r.code, BitVec.ofNat 8 h.code] ++ mode →
    findClip s n.toNat = some clip → s.store.activity = .idle →
    (mode = [0] → exec .voiceStart s = .next (answered f (if 8191 < 256 * g1.toNat + g0.toNat then .clamped else .done)
      [2, 0, 0, 0, 0, 0, 0, 0]
      { taken s f rest with sound := { s.sound with voices := s.sound.voices.set v.val (some
        ⟨.playing, clip.number, 0, min (256 * g1.toNat + g0.toNat) 8191, min (256 * g1.toNat + g0.toNat) 8191, 0, r,
          clip.loopStart, some h, none⟩) } })) ∧
    (∀ (p1 p0 : Byte) (p k : Nat), mode = [1, p1, p0] → p = max 100 (min (256 * p1.toNat + p0.toNat) 10000) →
      k = (s.clock.ms / p + 1) * p → s.clock.ms < 4294967296 →
      exec .voiceStart s = .next (answered f
        (if 8191 < 256 * g1.toNat + g0.toNat ∨ p ≠ 256 * p1.toNat + p0.toNat then .clamped else .done)
        ([1, if s.clock.state = .free then 3 else 2] ++ be4 (k % 4294967296) ++ [0, 0])
        { taken s f rest with sound := { s.sound with voices := s.sound.voices.set v.val (some
          ⟨.waiting, clip.number, 0, min (256 * g1.toNat + g0.toNat) 8191, min (256 * g1.toNat + g0.toNat) 8191, 0, r,
            clip.loopStart, some h, some ⟨k % 4294967296, 0, s.clock.state == .free⟩⟩) } })) ∧
    (∀ (t3 t2 t1 t0 u1 u0 : Byte) (e : Int), mode = [2, t3, t2, t1, t0, u1, u0] →
      e = Int.bmod ((s.clock.ms : Int) - (16777216 * t3.toNat + 65536 * t2.toNat + 256 * t1.toNat + t0.toNat : Nat))
        4294967296 * 1000 + ((s.clock.us : Int) - (256 * u1.toNat + u0.toNat : Nat)) →
      (999 < 256 * u1.toNat + u0.toNat ∨ e < -600000000 →
        exec .voiceStart s = .next (answered f .argument [] (taken s f rest))) ∧
      (256 * u1.toNat + u0.toNat ≤ 999 → -600000000 ≤ e → ∃ t data,
        exec .voiceStart s = .next (answered f (if 8191 < 256 * g1.toNat + g0.toNat then .clamped else .done) data t) ∧
        t = { taken s f rest with sound := { s.sound with voices := t.sound.voices } } ∧
        (∀ o : Fin 6, o.val ≠ v.val → t.sound.voices[o] = s.sound.voices[o]) ∧
        (e < 0 → data = [1, if s.clock.state = .free then 3 else 2, t3, t2, t1, t0, u1, u0] ∧ t.sound.voices[v.val] = some
          ⟨.waiting, clip.number, 0, min (256 * g1.toNat + g0.toNat) 8191, min (256 * g1.toNat + g0.toNat) 8191, 0, r,
            clip.loopStart, some h, some ⟨16777216 * t3.toNat + 65536 * t2.toNat + 256 * t1.toNat + t0.toNat,
              256 * u1.toNat + u0.toNat, s.clock.state == .free⟩⟩) ∧
        (∀ x, 0 ≤ e → ExpectedAt e clip.length clip.loopStart x →
          data = [2, if s.clock.state = .free then 3 else 2, t3, t2, t1, t0, u1, u0] ∧ t.sound.voices[v.val] = some
            ⟨.playing, clip.number, x, min (256 * g1.toNat + g0.toNat) 8191, min (256 * g1.toNat + g0.toNat) 8191, 0, r,
              clip.loopStart, some h, some ⟨16777216 * t3.toNat + 65536 * t2.toNat + 256 * t1.toNat + t0.toNat,
                256 * u1.toNat + u0.toNat, s.clock.state == .free⟩⟩) ∧
        (0 ≤ e → ExpectedPast e clip.length clip.loopStart →
          data = [0, 0, 0, 0, 0, 0, 0, 0] ∧ t.sound.voices[v.val] = none)))) ∧
  (∀ (f : Frame) (rest : List Frame) (s : State) (v n g1 g0 r h : Byte), Admitted .voiceStart f rest s →
    f.args = [v, n, g1, g0, r, h, 0] → r.toNat ≤ 2 → h.toNat ≤ 2 →
    (4 ≤ v.toNat → exec .voiceStart s = .next (answered f .argument [] (taken s f rest))) ∧
    (findClip s n.toNat = none → exec .voiceStart s = .next (answered f .argument [] (taken s f rest))) ∧
    (v.toNat < 4 → findClip s n.toNat ≠ none → s.store.activity ≠ .idle →
      exec .voiceStart s = .next (answered f .busy [] (taken s f rest))))

/-- VOICE_STOP and VOICE_GAIN (R127, R128) act on one show voice by its state, with the clamps of their rules; the response
gives the voice's state, and VOICE_GAIN's its gain (0 when IDLE: log 44). -/
def Obligations.VoiceStopAndGain : Prop :=
  (∀ (f : Frame) (rest : List Frame) (s : State) (v : Fin 4) (f1 f0 : Byte), Admitted .voiceStop f rest s →
    f.args = [BitVec.ofNat 8 v.val, f1, f0] →
    ∃ w : Option Voice, exec .voiceStop s = .next (answered f
        (if 5000 < 256 * f1.toNat + f0.toNat then .clamped else .done) [BitVec.ofNat 8 (voiceCode w)]
        { taken s f rest with sound := { s.sound with voices := s.sound.voices.set v.val w } }) ∧
      (s.sound.voices[v.val] = none → w = none) ∧
      (∀ x, s.sound.voices[v.val] = some x → x.state = .waiting ∨ x.state = .paused ∨ (f1 = 0 ∧ f0 = 0) → w = none) ∧
      (∀ x, s.sound.voices[v.val] = some x → x.state = .playing ∨ x.state = .stopping → f1 ≠ 0 ∨ f0 ≠ 0 →
        w = some { x with state := .stopping, target := 0, ramp := min (256 * f1.toNat + f0.toNat) 5000,
                          timing := none })) ∧
  (∀ (f : Frame) (rest : List Frame) (s : State) (v : Fin 4) (t1 t0 r1 r0 : Byte), Admitted .voiceGain f rest s →
    f.args = [BitVec.ofNat 8 v.val, t1, t0, r1, r0] →
    ∃ w : Option Voice, exec .voiceGain s = .next (answered f
        (if 8191 < 256 * t1.toNat + t0.toNat ∨ 10000 < 256 * r1.toNat + r0.toNat then .clamped else .done)
        ([BitVec.ofNat 8 (voiceCode w)] ++ be2 (match w with | none => 0 | some x => x.gain))
        { taken s f rest with sound := { s.sound with voices := s.sound.voices.set v.val w } }) ∧
      (s.sound.voices[v.val] = none → w = none) ∧
      (∀ x, s.sound.voices[v.val] = some x → x.state = .stopping → w = some x) ∧
      (∀ x, s.sound.voices[v.val] = some x → x.state ≠ .stopping →
        w = some { x with target := min (256 * t1.toNat + t0.toNat) 8191, ramp := min (256 * r1.toNat + r0.toNat) 10000,
                          gain := if r1 = 0 ∧ r0 = 0 then min (256 * t1.toNat + t0.toNat) 8191 else x.gain })) ∧
  (∀ (f : Frame) (rest : List Frame) (s : State) (v f1 f0 : Byte), f.args = [v, f1, f0] → 4 ≤ v.toNat →
    Admitted .voiceStop f rest s → exec .voiceStop s = .next (answered f .argument [] (taken s f rest))) ∧
  (∀ (f : Frame) (rest : List Frame) (s : State) (v t1 t0 r1 r0 : Byte), f.args = [v, t1, t0, r1, r0] → 4 ≤ v.toNat →
    Admitted .voiceGain f rest s → exec .voiceGain s = .next (answered f .argument [] (taken s f rest)))

/-- ANNOUNCE (R133, R134): clip 0 makes V5 IDLE, and is answered DONE whatever the gain (model's choice, log 50); another clip
that is present, with the store IDLE, plays on V5. Arguments that are not three bytes are refused ARGUMENT before the store is
looked at (model's choice, log 32). The duck target moves when V5 leaves or becomes IDLE, and only then. -/
def Obligations.AnnouncementsDuckTheShow : Prop :=
  (∀ (f : Frame) (rest : List Frame) (s : State) (g1 g0 : Byte), Admitted .announce f rest s → f.args = [0, g1, g0] →
    ∃ t, exec .announce s = .next (answered f .done [0] t) ∧
      t = { taken s f rest with sound :=
        { s.sound with voices := s.sound.voices.set 5 none, duckLevel := t.sound.duckLevel,
                       duckTarget := t.sound.duckTarget, duckRamp := t.sound.duckRamp } } ∧
      (s.sound.voices[5] = none → t.sound.duckLevel = s.sound.duckLevel ∧ t.sound.duckTarget = s.sound.duckTarget ∧
        t.sound.duckRamp = s.sound.duckRamp) ∧
      (s.sound.voices[5] ≠ none → t.sound.duckTarget = 4096 ∧ t.sound.duckRamp = s.params.duckRamp ∧
        t.sound.duckLevel = if s.params.duckRamp = 0 then 4096 else s.sound.duckLevel)) ∧
  (∀ (f : Frame) (rest : List Frame) (s : State) (n g1 g0 : Byte), Admitted .announce f rest s → f.args = [n, g1, g0] →
    n ≠ 0 →
    (findClip s n.toNat = none → exec .announce s = .next (answered f .argument [] (taken s f rest))) ∧
    (∀ clip, findClip s n.toNat = some clip →
      (s.store.activity ≠ .idle → exec .announce s = .next (answered f .busy [] (taken s f rest))) ∧
      (s.store.activity = .idle → ∃ t,
        exec .announce s = .next (answered f (if 8191 < 256 * g1.toNat + g0.toNat then .clamped else .done) [2] t) ∧
        t = { taken s f rest with sound :=
          { s.sound with
            voices := s.sound.voices.set 5 (some
              ⟨.playing, clip.number, 0, min (256 * g1.toNat + g0.toNat) 8191, min (256 * g1.toNat + g0.toNat) 8191, 0,
                .both, clip.loopStart, none, none⟩)
            duckLevel := t.sound.duckLevel, duckTarget := t.sound.duckTarget, duckRamp := t.sound.duckRamp } } ∧
        (s.sound.voices[5] ≠ none → t.sound.duckLevel = s.sound.duckLevel ∧ t.sound.duckTarget = s.sound.duckTarget ∧
          t.sound.duckRamp = s.sound.duckRamp) ∧
        (s.sound.voices[5] = none → t.sound.duckTarget = s.params.duckLevel ∧ t.sound.duckRamp = s.params.duckRamp ∧
          t.sound.duckLevel = if s.params.duckRamp = 0 then s.params.duckLevel else s.sound.duckLevel)))) ∧
  (∀ (f : Frame) (rest : List Frame) (s : State), Admitted .announce f rest s → f.args.length ≠ 3 →
    exec .announce s = .next (answered f .argument [] (taken s f rest)))

/-- MASTER_VOLUME (R136): without arguments it changes nothing; else the named channels take the volume, at most 4096. The
response gives both volumes, the saturation counts and the resync count. The effective gain (R135): V0 to V4 are scaled by the
duck level, V5 keeps its own gain, and none exceeds its gain. -/
def Obligations.VolumesAndEffectiveGain : Prop :=
  (∀ (f : Frame) (rest : List Frame) (s : State), Admitted .masterVolume f rest s → f.args = [] →
    exec .masterVolume s = .next (answered f .done (be2 s.sound.masterA ++ be2 s.sound.masterB ++
      be2 s.sound.saturationA ++ be2 s.sound.saturationB ++ be2 s.sound.resyncs) (taken s f rest))) ∧
  (∀ (f : Frame) (rest : List Frame) (s : State) (c v1 v0 : Byte) (v a b : Nat), Admitted .masterVolume f rest s →
    f.args = [c, v1, v0] → v = 256 * v1.toNat + v0.toNat →
    (a = if c = 0 ∨ c = 2 then min v 4096 else s.sound.masterA) →
    (b = if c = 1 ∨ c = 2 then min v 4096 else s.sound.masterB) →
    (c.toNat ≤ 2 → exec .masterVolume s = .next (answered f (if 4096 < v then .clamped else .done)
      (be2 a ++ be2 b ++ be2 s.sound.saturationA ++ be2 s.sound.saturationB ++ be2 s.sound.resyncs)
      { taken s f rest with sound := { s.sound with masterA := a, masterB := b } })) ∧
    (2 < c.toNat → exec .masterVolume s = .next (answered f .argument [] (taken s f rest)))) ∧
  (∀ (f : Frame) (rest : List Frame) (s : State), Admitted .masterVolume f rest s → f.args.length ≠ 0 →
    f.args.length ≠ 3 → exec .masterVolume s = .next (answered f .argument [] (taken s f rest))) ∧
  (∀ (snd : Sound) (i : Fin 6) (v : Voice), snd.duckLevel ≤ 4096 →
    (i.val ≤ 4 → effectiveGain snd i v = v.gain * snd.duckLevel / 4096) ∧
    (i.val = 5 → effectiveGain snd i v = v.gain) ∧
    effectiveGain snd i v ≤ v.gain)

/-- VOICE_JOIN, GAIN_RAMP_TICK and FADE_END (R124, R126, R134): a WAITING voice whose instant has come joins at its expected
position; each ramp moves its gain and the duck level toward the target and ends there; a STOPPING voice is IDLE in the event in
which its ramp ends, which is the local millisecond of GAIN_RAMP_TICK or, for one voice, FADE_END (model's choice, log 49). A
row whose event is not due changes nothing (log 1). -/
def Obligations.VoicesJoinRampAndFade : Prop :=
  (∀ (i : Fin 6) (s : State) (v : Voice) (tm : Timing) (e : Int), s.sound.voices[i] = some v → v.timing = some tm →
    v.state = .waiting →
    e = Int.bmod ((s.clock.ms : Int) - tm.ms) 4294967296 * 1000 + ((s.clock.us : Int) - tm.us) →
    (e < 0 → exec (.voiceJoin i) s = .next s) ∧
    (∀ c, 0 ≤ e → i.val < 5 → findClip s v.clip = some c →
      ((e * 32).tdiv 1000 < c.length → exec (.voiceJoin i) s = .next
        { s with sound := { s.sound with voices := s.sound.voices.set i (some
          { v with state := .playing, position := ((e * 32).tdiv 1000).toNat }) } }) ∧
      (∀ l, (c.length : Int) ≤ (e * 32).tdiv 1000 → v.loopPoint = some l →
        exec (.voiceJoin i) s = .next { s with sound := { s.sound with voices := s.sound.voices.set i (some
          { v with state := .playing,
                   position := l + (((e * 32).tdiv 1000).toNat - c.length) % (c.length - l) }) } }) ∧
      ((c.length : Int) ≤ (e * 32).tdiv 1000 → v.loopPoint = none → exec (.voiceJoin i) s =
        .next { s with sound := { s.sound with voices := s.sound.voices.set i none } }))) ∧
  (∀ (i : Fin 6) (s : State), (∀ v, s.sound.voices[i] = some v → v.state ≠ .waiting) →
    exec (.voiceJoin i) s = .next s) ∧
  (∀ s : State, ∃ snd, exec .gainRampTick s = .next { s with sound := snd } ∧
    snd = { s.sound with voices := snd.voices, duckLevel := snd.duckLevel, duckRamp := s.sound.duckRamp - 1 } ∧
    (s.sound.duckRamp = 0 → snd.duckLevel = s.sound.duckLevel) ∧
    (s.sound.duckRamp = 1 → snd.duckLevel = s.sound.duckTarget) ∧
    (2 ≤ s.sound.duckRamp → (snd.duckLevel : Int) =
      s.sound.duckLevel + ((s.sound.duckTarget : Int) - s.sound.duckLevel).tdiv s.sound.duckRamp) ∧
    ∀ i : Fin 6, (s.sound.voices[i] = none → snd.voices[i] = none) ∧
      ∀ v, s.sound.voices[i] = some v →
        (v.state = .stopping → v.ramp ≤ 1 → snd.voices[i] = none) ∧
        (v.state ≠ .stopping → v.ramp = 0 → snd.voices[i] = some v) ∧
        (v.state ≠ .stopping → v.ramp = 1 → snd.voices[i] = some { v with gain := v.target, ramp := 0 }) ∧
        (2 ≤ v.ramp → ∃ g : Nat, (g : Int) = v.gain + ((v.target : Int) - v.gain).tdiv v.ramp ∧
          snd.voices[i] = some { v with gain := g, ramp := v.ramp - 1 })) ∧
  (∀ (i : Fin 6) (s : State),
    (∀ v, s.sound.voices[i] = some v → v.state = .stopping → v.ramp ≤ 1 → i.val < 5 →
      exec (.fadeEnd i) s = .next { s with sound := { s.sound with voices := s.sound.voices.set i none } }) ∧
    ((∀ v, s.sound.voices[i] = some v → v.state ≠ .stopping ∨ 1 < v.ramp) → exec (.fadeEnd i) s = .next s))

/-- SAMPLE_CLOCK (R118, R120, R137): each channel's code is the scaled and clamped sum of the voices that sound on it, each with
its effective gain; a clamped sample is counted; a voice that sounds advances by one, loops, or ends with its clip, and V5's end
moves the duck target back (R134). A sample outside the store is this model's fault (log 31). -/
def Obligations.SampleClockMixes : Prop :=
  (∀ (s : State) (share : Route → Fin 6 → Int) (accA accB mA mB : Int),
    (∀ (i : Fin 6) (v : Voice), s.sound.voices[i] = some v → v.state = .playing ∨ v.state = .stopping →
      sampleIndex s v < 8388608) →
    (∀ (other : Route) (i : Fin 6), share other i =
      match s.sound.voices[i] with
      | none => 0
      | some v =>
        if (v.state = .playing ∨ v.state = .stopping) ∧ v.route ≠ other then
          beInt [s.store.memory.read (2 * sampleIndex s v), s.store.memory.read (2 * sampleIndex s v + 1)] *
            effectiveGain s.sound i v
        else 0) →
    accA = share .b 0 + share .b 1 + share .b 2 + share .b 3 + share .b 4 + share .b 5 →
    accB = share .a 0 + share .a 1 + share .a 2 + share .a 3 + share .a 4 + share .a 5 →
    mA = accA / 4096 * s.sound.masterA / 4096 → mB = accB / 4096 * s.sound.masterB / 4096 →
    ∃ t, exec .sampleClock s = .next t ∧ t = { s with sound := t.sound, density := t.density } ∧
      t.density[0] = s.density[0] ∧
      t.density[1] = { s.density[1] with code := (max (-32768) (min mA 32767) + 32768).toNat } ∧
      t.density[2] = { s.density[2] with code := (max (-32768) (min mB 32767) + 32768).toNat } ∧
      t.sound.saturationA =
        (if mA < -32768 ∨ 32767 < mA then min (s.sound.saturationA + 1) 65535 else s.sound.saturationA) ∧
      t.sound.saturationB =
        (if mB < -32768 ∨ 32767 < mB then min (s.sound.saturationB + 1) 65535 else s.sound.saturationB) ∧
      t.sound.masterA = s.sound.masterA ∧ t.sound.masterB = s.sound.masterB ∧ t.sound.resyncs = s.sound.resyncs ∧
      (s.sound.voices[(5 : Fin 6)] ≠ none → t.sound.voices[(5 : Fin 6)] = none →
        t.sound.duckTarget = 4096 ∧ t.sound.duckRamp = s.params.duckRamp ∧
        t.sound.duckLevel = if s.params.duckRamp = 0 then 4096 else s.sound.duckLevel) ∧
      (s.sound.voices[(5 : Fin 6)] = none ∨ t.sound.voices[(5 : Fin 6)] ≠ none →
        t.sound.duckTarget = s.sound.duckTarget ∧ t.sound.duckRamp = s.sound.duckRamp ∧
        t.sound.duckLevel = s.sound.duckLevel) ∧
      ∀ i : Fin 6,
        (s.sound.voices[i] = none → t.sound.voices[i] = none) ∧
        ∀ v, s.sound.voices[i] = some v →
          (v.state = .waiting ∨ v.state = .paused → t.sound.voices[i] = some v) ∧
          (v.state = .playing ∨ v.state = .stopping → ∀ c, findClip s v.clip = some c →
            (v.position + 1 < c.length → t.sound.voices[i] = some { v with position := v.position + 1 }) ∧
            (c.length ≤ v.position + 1 → ∀ l, v.loopPoint = some l →
              t.sound.voices[i] = some { v with position := l }) ∧
            (c.length ≤ v.position + 1 → v.loopPoint = none → t.sound.voices[i] = none))) ∧
  (∀ (s : State) (i : Fin 6) (v : Voice), s.sound.voices[i] = some v → v.state = .playing ∨ v.state = .stopping →
    8388608 ≤ sampleIndex s v → ∃ a, exec .sampleClock s = .fault (.noStoreAddress a))

/-! ## Density generators (R151) -/

/-- GENERATOR_CLOCK (R151): the top bits of the code are added to the accumulator, and a carry is the output bit; over a whole
cycle of 2 to the precision clocks the accumulator comes back and the output is 1 at exactly c of them. -/
def Obligations.GeneratorClocksKeepDensity : Prop :=
  (∀ (g : Fin 3) (s : State) (p c : Nat), (s.density[g]).running = true → p = s.params.dgPrecision[g] →
    c = (s.density[g]).code / 2 ^ (16 - p) →
    exec (.generatorClock g) s = .next
      { s with
        density := s.density.set g
          (if 2 ^ p ≤ (s.density[g]).accumulator + c then
            { s.density[g] with accumulator := (s.density[g]).accumulator + c - 2 ^ p, bit := true }
          else { s.density[g] with accumulator := (s.density[g]).accumulator + c, bit := false }) }) ∧
  (∀ (g : Fin 3) (s : State), (s.density[g]).running = false → exec (.generatorClock g) s = .next s) ∧
  (∀ (p : Nat) (g : Density), 9 ≤ p → p ≤ 16 → g.code < 65536 → g.accumulator < 2 ^ p →
    (∀ n, ((Density.clock p)^[n] g).accumulator < 2 ^ p) ∧
    ((Density.clock p)^[2 ^ p] g).accumulator = g.accumulator ∧
    ((List.range (2 ^ p)).filter fun n => ((Density.clock p)^[n + 1] g).bit).length = g.code / 2 ^ (16 - p))

/-! ## Drive exchanges (R30 to R57, R161 to R164, R181 to R184) -/

/-- EXCHANGE_START and the checks of DRIVE_EXCHANGE (R181 to R183): the outgoing record, which is not built again while an
exchange is in progress; an exchange of other than 96 edges or with a CRC-8 that differs is counted as bad, one that repeats the
cycle count as a duplicate, and neither changes anything else; during start-up, and of an exchange that began before a restart
(R185), an accepted one is handled by the DLI alone. An EXCHANGE_START while an exchange is in progress and a DRIVE_EXCHANGE
without one are no events (model's choice, log 34). -/
def Obligations.DriveExchangesAreChecked : Prop :=
  (∀ (s : State) (echo : Byte), s.dli.outgoing = none →
    echo = (match s.dli.lastAccepted with | none => 0 | some r => r.cycle) →
    exec .exchangeStart s = .next
      { s with
        dli :=
          { s.dli with
            heldOver := false
            outgoing := some (if s.startUp.phase = .complete then
              ⟨echo, s.permit.level, s.permit.speedCeiling, s.permit.ceilingAhead, s.tracker.p / 10, s.steering.y⟩
            else ⟨echo, .emergency, 0, 0, 0, 0⟩) } }) ∧
  (∀ s : State, s.dli.outgoing ≠ none → exec .exchangeStart s = .next s) ∧
  (∀ (s : State) (edges : Nat) (bytes : List Byte), s.dli.outgoing = none →
    exec (.driveExchange edges bytes) s = .next s) ∧
  (∀ (s : State) (edges : Nat) (bytes : List Byte), s.dli.outgoing ≠ none →
    edges ≠ 96 ∨ bytes.length ≠ 12 ∨ bytes.drop 11 ≠ [crc8 (bytes.take 11)] →
    exec (.driveExchange edges bytes) s = .next
      { s with dli := { s.dli with
        outgoing := none, heldOver := false, badExchanges := min (s.dli.badExchanges + 1) 65535 } }) ∧
  (∀ (s : State) (body : List Byte) (r last : DcRecord), s.dli.outgoing ≠ none →
    DcRecord.parse (body ++ [crc8 body]) = some r → s.dli.lastAccepted = some last → last.cycle = r.cycle →
    exec (.driveExchange 96 (body ++ [crc8 body])) s = .next
      { s with dli := { s.dli with
        outgoing := none, heldOver := false, duplicates := min (s.dli.duplicates + 1) 65535 } }) ∧
  (∀ (s : State) (body : List Byte) (r : DcRecord), s.dli.outgoing ≠ none →
    s.startUp.phase ≠ .complete ∨ s.dli.heldOver = true →
    DcRecord.parse (body ++ [crc8 body]) = some r → (∀ last, s.dli.lastAccepted = some last → last.cycle ≠ r.cycle) →
    exec (.driveExchange 96 (body ++ [crc8 body])) s = .next
      { s with dli :=
        { s.dli with
          outgoing := none, heldOver := false, lastAccepted := some r, silence := 0, live := true
          missedExchanges := min (s.dli.missedExchanges + (match s.dli.lastAccepted with
            | none => 0
            | some last => (r.cycle - last.cycle - 1).toNat)) 65535 } })

/-- An accepted exchange outside start-up (R30, R34, R45, R164, R182): the DLI accepts it and passes it to the Position Tracker,
the Steering Computer and the Permit Unit in turn, the last with the ceiling of the record returned, and the whole effect is
that composition. The distance is integrated modulo the route length, an acquisition puts P at the marker, guide present and the
last DC report follow the record, and OVERSPEED is taken before DRIVE_REPORTED (model's choice, log 52). Online, a release in
progress ends at the first report that is no standstill, by the end of stationary or of berthed, and goes on through the others
(R79, R162). The blocks the exchange does not reach stay as they were. -/
def Obligations.AcceptedExchangesReachTheBlocks : Prop :=
  (∀ (s : State) (out : DriveRecord) (body : List Byte) (r : DcRecord), s.dli.outgoing = some out →
    s.startUp.phase = .complete → s.dli.heldOver = false →
    DcRecord.parse (body ++ [crc8 body]) = some r → (∀ last, s.dli.lastAccepted = some last → last.cycle ≠ r.cycle) →
    ∃ t, exec (.driveExchange 96 (body ++ [crc8 body])) s = .next t ∧
      t = permitExchange r out.speedCeiling (steerExchange r.guide r.distance (trackExchange r.distance r.marker
        { s with dli := { s.dli with
          outgoing := none, heldOver := false, lastAccepted := some r, silence := 0, live := true
          missedExchanges := min (s.dli.missedExchanges + (match s.dli.lastAccepted with
            | none => 0
            | some last => (r.cycle - last.cycle - 1).toNat)) 65535 } })) ∧
      t.dli = { s.dli with
        outgoing := none, heldOver := false, lastAccepted := some r, silence := 0, live := true
        missedExchanges := min (s.dli.missedExchanges + (match s.dli.lastAccepted with
          | none => 0
          | some last => (r.cycle - last.cycle - 1).toNat)) 65535 } ∧
      t.params = s.params ∧ t.tables = s.tables ∧ t.clock = s.clock ∧ t.store = s.store ∧ t.terminals = s.terminals ∧
      t.localMs = s.localMs ∧ t.pending = s.pending ∧ t.wli.queue = s.wli.queue ∧ t.wli.outgoing = s.wli.outgoing ∧
      t.mc.dispatchCount = s.mc.dispatchCount ∧ t.permit.rcLimit = s.permit.rcLimit ∧
      (t.steering.guidePresent = true ↔ -2000 ≤ r.guide ∧ r.guide ≤ 2000) ∧
      t.permit.reportSpeed = r.speed ∧ t.permit.reportBrake = r.brake ∧ t.permit.reportFault = r.dcFault ∧
      t.permit.reportCode = r.faultCode ∧
      (¬(r.speed ≤ 5 ∧ r.brake = true) → t.permit.stationary = false ∧ t.permit.standstill = none) ∧
      (r.speed ≤ 5 → r.brake = true → t.permit.standstill ≠ none) ∧
      (r.dcFault = true → s.permit.reportFault = false → s.mc.mode ≠ .offline →
        t.mc.mode = .halt ∧ .driveReported ∈ t.permit.active) ∧
      (s.mc.mode ≠ .offline → ReleaseHeld s → BerthHeld s → s.restraint.queue ≠ [] ∨ s.restraint.energised ≠ [] →
        (¬(r.speed ≤ 5 ∧ r.brake = true) → ReleaseEnded s t) ∧
        (s.permit.stationary = true → r.speed ≤ 5 → r.brake = true → t.restraint = s.restraint)) ∧
      (s.tables.route.status ≠ .valid → t.tracker = s.tracker) ∧
      (s.tables.route.status = .valid → r.marker = 0 →
        t.tracker.p =
          (((s.tracker.p : Int) + max (-3000) (min r.distance 3000)) % (10 * s.tables.routeLength : Nat)).toNat) ∧
      (s.tables.route.status = .valid → s.tracker.position = .unsync → s.tables.markers.status = .valid →
        ∀ m ∈ s.tables.markers.entries, r.marker = m.id → m.id ≠ 0 →
          (∀ o ∈ s.tables.markers.entries, o.id = m.id → o = m) → t.tracker.p = 10 * m.position)) ∧
  (∀ (r : DcRecord) (ceiling : Nat) (s : State),
    permitExchange r ceiling s = takeReport r (superviseStandstill r (superviseSpeed r.speed ceiling s)))

/-- The Position Tracker's parts of an exchange. A capture (R36): beyond the marker's window it is a position fault and P stays;
within it P is the marker's position and the correction is recorded. A read while SYNC is placed against the expected marker
(R35): up to two skipped markers are missed, the second miss in a row is a fault, and a marker further on is one out of place.
An acquisition (R34) sets P, the segment and the cursor from the marker. The overdue and the rollback check (R37, R38), and a
backward wrap in RUN (R30), which faults before its lookup (log 18). The movement of each is R32's: lookup, cues, rollback
check. An advance loses the distance before it is integrated (log 16). -/
def Obligations.CapturesCorrectPosition : Prop :=
  (∀ (s : State) (i : Nat) (m : Marker) (d : Int),
    d = shortest (10 * s.tables.routeLength) (10 * (m.position : Int) - s.tracker.p) →
    (10 * (m.window : Int) < |d| → s.mc.mode ≠ .offline → ∃ t, capture i m s = (t, false) ∧ t.tracker.p = s.tracker.p ∧
      t.tracker.position = .unsync ∧ t.tracker.expected = none ∧ t.mc.mode = .halt ∧ .position ∈ t.permit.active ∧
      t.cues.cursor = .unplaced) ∧
    (10 * (m.window : Int) < |d| →
      PositionFaulted .discrepancy m.id s (capture i m s).1 ∧ (capture i m s).2 = false) ∧
    (|d| ≤ 10 * (m.window : Int) → (capture i m s).1.tracker.p = 10 * m.position ∧
      (capture i m s).1.tracker.lastCorrection = d ∧ (capture i m s).1.tracker.misses = 0 ∧
      ((capture i m s).2 = true ↔ 0 < d))) ∧
  (∀ (s : State) (entries : List Marker) (e i k : Nat) (m skipped next : Marker),
    s.tables.markers = ⟨.valid, entries, s.tables.markers.crc⟩ → s.tracker.position = .sync → s.tracker.expected = some e →
    entries[e]? = some skipped → entries[(e + 1) % entries.length]? = some next → entries[i]? = some m →
    k = (i + entries.length - e) % entries.length →
    (k = 0 → placeRead i m s = capture i m s) ∧
    (k = 1 → s.tracker.misses = 0 → placeRead i m s =
      capture i m { s with tracker := { s.tracker with misses := 1, expected := some ((e + 1) % entries.length) } }) ∧
    (k = 1 ∨ k = 2 → 1 ≤ s.tracker.misses →
      PositionFaulted .missed skipped.id s (placeRead i m s).1 ∧ (placeRead i m s).2 = false) ∧
    (k = 2 → s.tracker.misses = 0 →
      PositionFaulted .missed next.id s (placeRead i m s).1 ∧ (placeRead i m s).2 = false) ∧
    (3 ≤ k → PositionFaulted .order m.id s (placeRead i m s).1 ∧ (placeRead i m s).2 = false)) ∧
  (∀ (s : State) (entries : List Marker) (id i : Nat) (m : Marker),
    s.tables.markers = ⟨.valid, entries, s.tables.markers.crc⟩ →
    markerRead 0 s = (s, false) ∧
    (id ≠ 0 → (∀ o ∈ entries, o.id ≠ id) → markerRead id s =
      ({ s with tracker := { s.tracker with unknownMarkers := min (s.tracker.unknownMarkers + 1) 65535 } }, false)) ∧
    (id ≠ 0 → entries[i]? = some m → m.id = id → (∀ j o, entries[j]? = some o → o.id = id → j = i) →
      (s.tracker.position = .sync → markerRead id s = placeRead i m s) ∧
      (s.tracker.position = .unsync → s.tables.route.status = .valid →
        ∃ t, markerRead id s = (t, false) ∧ t.tracker =
          { s.tracker with
            p := 10 * m.position, position := .sync, highWater := 10 * m.position, misses := 0
            expected := some ((i + 1) % entries.length)
            lastCorrection := shortest (10 * s.tables.routeLength) (10 * (m.position : Int) - s.tracker.p)
            segment := t.tracker.segment } ∧
        (∀ k, k + 1 = (s.tables.route.entries.filter fun g => decide (g.start ≤ m.position)).length →
          t.tracker.segment = some k) ∧
        (s.mc.mode ≠ .offline → t.cues.cursor = (placeCursor { s with tracker := t.tracker }).cues.cursor)))) ∧
  (∀ (s : State) (entries : List Marker) (e n : Nat) (m next : Marker),
    s.tables.markers = ⟨.valid, entries, s.tables.markers.crc⟩ → s.tracker.position = .sync → s.tracker.expected = some e →
    entries[e]? = some m → n = (e + 1) % entries.length → entries[n]? = some next →
    (shortest (10 * s.tables.routeLength) ((s.tracker.p : Int) - 10 * m.position) ≤ 10 * (m.window : Int) →
      overdueCheck 3 s = s) ∧
    (10 * (m.window : Int) < shortest (10 * s.tables.routeLength) ((s.tracker.p : Int) - 10 * m.position) →
      (1 ≤ s.tracker.misses → PositionFaulted .missed m.id s (overdueCheck 3 s)) ∧
      (s.tracker.misses = 0 →
        shortest (10 * s.tables.routeLength) ((s.tracker.p : Int) - 10 * next.position) ≤ 10 * (next.window : Int) →
        overdueCheck 3 s = { s with tracker := { s.tracker with misses := 1, expected := some n } }) ∧
      (s.tracker.misses = 0 →
        10 * (next.window : Int) < shortest (10 * s.tables.routeLength) ((s.tracker.p : Int) - 10 * next.position) →
        PositionFaulted .missed next.id s (overdueCheck 3 s)))) ∧
  (∀ (s : State) (d : Int), d = shortest (10 * s.tables.routeLength) ((s.tracker.highWater : Int) - s.tracker.p) →
    (d < 0 → rollbackCheck s = { s with tracker := { s.tracker with highWater := s.tracker.p } }) ∧
    (s.mc.mode = .run ∨ s.mc.mode = .unload → 10 * (s.params.rollbackLimit : Int) < d →
      PositionFaulted .rollback 0 s (rollbackCheck s)) ∧
    (0 ≤ d → (s.mc.mode ≠ .run ∧ s.mc.mode ≠ .unload) ∨ d ≤ 10 * (s.params.rollbackLimit : Int) →
      rollbackCheck s = s)) ∧
  (∀ (s : State) (before after : Nat) (forward wrap : Bool), ∃ t,
    t = zoneReport (formAhead { s with tracker := { s.tracker with segment := segmentAt s } }) ∧
    (t.tracker.position = .sync →
      movement before after forward wrap s = rollbackCheck (cueMovement before after forward wrap t)) ∧
    (t.tracker.position = .unsync → movement before after forward wrap s = t)) ∧
  (∀ (s : State) (d sum : Int) (p : Nat), sum = s.tracker.p + d → (p : Int) = sum % (10 * s.tables.routeLength : Nat) →
    (10 * (s.tables.routeLength : Int) ≤ sum → integrate d s = movement s.tracker.p p (decide (0 < d)) true
      { s with tracker := { s.tracker with p := p, highWater := p } }) ∧
    (0 ≤ sum ∨ s.mc.mode ≠ .run ∨ s.tracker.position = .unsync → sum < 10 * s.tables.routeLength →
      integrate d s = movement s.tracker.p p (decide (0 < d)) false
        { s with tracker := { s.tracker with p := p } }) ∧
    (sum < 0 → s.mc.mode = .run → s.tracker.position = .sync →
      (integrate d s).tracker.p = p ∧ (integrate d s).tracker.position = .unsync ∧
      (integrate d s).tracker.highWater = s.tracker.highWater ∧ (integrate d s).mc.mode = .halt ∧
      .position ∈ (integrate d s).permit.active ∧
      ∃ n, (n, ⟨.position, .rollback, 0, p / 10, s.clock.ms, s.mc.mode⟩) ∈ (integrate d s).permit.log)) ∧
  (∀ (s u : State) (distance d : Int) (id : Nat), s.tables.route.status = .valid →
    d = max (-3000) (min distance 3000) → u = integrate d (advanceTravel d s) →
    (s.tracker.position = .sync → u.tracker.position = .unsync → trackExchange distance id s = u) ∧
    (s.tracker.position = .unsync ∨ u.tracker.position = .sync →
      trackExchange distance id s =
        if 0 < d ∨ (markerRead id u).2 = true then overdueCheck 3 (markerRead id u).1 else (markerRead id u).1))

/-- The seven stages of a steering update (R48 to R57), of an exchange that the Steering Computer takes in TRACKING: error,
rate, feedback, demand, clamp, slew and the DG0 code, with the counts. GUIDE_LOST is raised exactly when the guide-loss distance
passes its limit (R49), STEER_SATURATED exactly when the saturation count passes its own (R53), GUIDE_LOST first (model's
reading, log 36); an update that raises neither changes nothing else. Another state makes no update (R45). -/
def Obligations.SteeringUpdateStages : Prop :=
  (∀ (guide distance d e e0 r f u c limit allowed : Int) (s : State) (set : Fin 4), s.steering.state = .tracking →
    d = max (-3000) (min distance 3000) →
    e = (if -2000 ≤ guide ∧ guide ≤ 2000 then guide else s.steering.ePrev) →
    e0 = (if s.steering.firstPending = true ∧ -2000 ≤ guide ∧ guide ≤ 2000 then guide else s.steering.ePrev) →
    r = (if -2000 ≤ guide ∧ guide ≤ 2000 ∧ 0 < d then max (-20000) (min (((e - e0) * 1000).tdiv d) 20000) else 0) →
    (s.tracker.position = .sync → ∀ g, currentSegment s = some g → set = g.gainSet ∧ f = g.feedforward) →
    (s.tracker.position = .unsync → set = 0 ∧ f = 0) →
    (s.tracker.position = .sync → currentSegment s ≠ none) →
    u = f - ((s.params.kp[set] : Int) * e + (s.params.kd[set] : Int) * r).tdiv 256 → limit = s.params.steerLimit →
    c = max (-limit) (min u limit) →
    allowed = (s.params.slewRate * max 1 (min (s.localMs - s.steering.reference) 50) : Nat) →
    ∃ t, steerExchange guide distance s = t ∧
      t.steering.y = s.steering.y + max (-allowed) (min (c - s.steering.y) allowed) ∧ t.steering.ePrev = e ∧
      t.steering.guidePresent = decide (-2000 ≤ guide ∧ guide ≤ 2000) ∧ t.steering.reference = s.localMs ∧
      t.steering.firstPending = false ∧
      t.steering.guideLoss = (if -2000 ≤ guide ∧ guide ≤ 2000 then 0
        else min ((if s.steering.firstPending then 0 else s.steering.guideLoss) + d.natAbs) 65535) ∧
      t.steering.saturation = (if u < -limit ∨ limit < u then
          (if 0 < d then min ((if s.steering.firstPending then 0 else s.steering.saturation) + 1) 256
          else if s.steering.firstPending then 0 else s.steering.saturation)
        else 0) ∧
      t.density = s.density.set 0
        { s.density[0] with code := (32768 + (t.steering.y * 32767).tdiv 10000).toNat }) ∧
  (∀ (guide distance : Int) (s t : State) (lost count : Nat), s.steering.state = .tracking →
    t = steerExchange guide distance s → lost = (if s.steering.firstPending then 0 else s.steering.guideLoss) →
    count = (if s.steering.firstPending then 0 else s.steering.saturation) →
    (s.mc.mode ≠ .offline → lost ≤ s.params.guideLossLimit * 10 → s.params.guideLossLimit * 10 < t.steering.guideLoss →
      FaultTaken .guideLost 0 s t ∧ t.steering.state = .frozen) ∧
    (s.mc.mode ≠ .offline → count ≤ s.params.saturationLimit → s.params.saturationLimit < t.steering.saturation →
      .steerSaturated ∈ t.permit.active ∧ t.mc.mode = .halt ∧ t.steering.state = .frozen ∧
      (lost ≤ s.params.guideLossLimit * 10 → t.steering.guideLoss ≤ s.params.guideLossLimit * 10 →
        FaultTaken .steerSaturated 0 s t)) ∧
    (¬(lost ≤ s.params.guideLossLimit * 10 ∧ s.params.guideLossLimit * 10 < t.steering.guideLoss) →
      ¬(count ≤ s.params.saturationLimit ∧ s.params.saturationLimit < t.steering.saturation) →
      t = { s with steering := t.steering, density := t.density } ∧ t.steering.state = .tracking)) ∧
  (∀ (guide distance : Int) (s : State), s.steering.state ≠ .tracking → steerExchange guide distance s =
    { s with steering := { s.steering with guidePresent := decide (-2000 ≤ guide ∧ guide ≤ 2000) } })

/-- STATIONARY, DRIVE_TIMEOUT and RC_LINK_LOST (R162, R184, R177): when each event is due what it changes, and that a vehicle
that becomes stationary has the READY conditions judged (R7); a row that is not due changes nothing (model's choice, log 1).
DRIVE_TIMEOUT ends stationary, and with it, online, a release in progress (R79); the judging itself ends a release exactly where
its condition does not hold. Then overspeed supervision (R161), stated of the Permit Unit's part of an accepted exchange: the count goes up at CREEP and RUN
while the speed passes the ceiling plus the tolerance, any other exchange clears it, and the sixth in a row is OVERSPEED. -/
def Obligations.SupervisionTimersExpire : Prop :=
  (∀ (s : State) (began : Nat), s.permit.stationary = false → s.permit.standstill = some began → began + 500 ≤ s.localMs →
    ∃ t, exec .stationary s = .next t ∧ SameGround s t ∧ t.tracker = s.tracker ∧ t.permit.stationary = true ∧
      t.permit.standstill = some began ∧
      (s.mc.mode = .load ∨ s.mc.mode = .ready → RcHeard s → ReadyDecided t) ∧
      (s.mc.mode = .unload → s.mc.advance = none → atStopPoint s = true →
        t.mc = { s.mc with berthed := true, berthReached := true })) ∧
  (∀ s : State, s.permit.stationary = true ∨ s.permit.standstill = none ∨
      (∃ began, s.permit.standstill = some began ∧ s.localMs < began + 500) →
    exec .stationary s = .next s) ∧
  (∀ s : State, s.dli.live = true → s.dli.driveTimeout < s.dli.silence →
    ∃ t, exec .driveTimeout s = .next t ∧ t.dli = { s.dli with live := false } ∧ t.tracker = s.tracker ∧
      t.permit.stationary = false ∧ t.permit.standstill = none ∧ t.params = s.params ∧ t.tables = s.tables ∧
      t.clock = s.clock ∧ t.store = s.store ∧
      (s.mc.mode = .offline → t.mc.mode = .offline ∧ t.permit.log = s.permit.log) ∧
      (s.mc.mode ≠ .offline → t.mc.mode = .halt ∧ .driveLinkLost ∈ t.permit.active) ∧
      (s.mc.mode ≠ .offline → s.permit.stationary = true → s.restraint.queue ≠ [] ∨ s.restraint.energised ≠ [] →
        ReleaseEnded s t) ∧
      (s.mc.mode = .offline → ReleaseHeld s → t.restraint = s.restraint)) ∧
  (∀ s : State, (s.restraint.queue ≠ [] ∨ s.restraint.energised ≠ [] → ¬ReleaseAllowed s →
      ReleaseEnded s (judgeRelease s) ∧ judgeRelease s = { s with restraint := (judgeRelease s).restraint }) ∧
    (s.restraint.queue = [] ∧ s.restraint.energised = [] ∨ ReleaseAllowed s → judgeRelease s = s)) ∧
  (∀ s : State, s.dli.live = false ∨ s.dli.silence ≤ s.dli.driveTimeout → exec .driveTimeout s = .next s) ∧
  (∀ s : State, s.mc.mode ≠ .offline → s.wli.rcTimeout < s.wli.rcSilence → s.wli.rcReported = false →
    ∃ t, exec .rcLinkLost s = .next t ∧ SameGround s t ∧ t.tracker = s.tracker ∧
      t.wli = { s.wli with rcReported := true } ∧ t.mc.mode = .halt ∧ .rcLinkLost ∈ t.permit.active) ∧
  (∀ s : State, s.mc.mode = .offline ∨ s.wli.rcSilence ≤ s.wli.rcTimeout ∨ s.wli.rcReported = true →
    exec .rcLinkLost s = .next s) ∧
  (∀ (speed ceiling : Nat) (s : State),
    (s.permit.level = .stop ∨ s.permit.level = .emergency → superviseSpeed speed ceiling s = s) ∧
    (s.permit.level = .creep ∨ s.permit.level = .run →
      (speed ≤ ceiling + s.params.overspeedTolerance →
        superviseSpeed speed ceiling s = { s with permit := { s.permit with overspeed := 0 } }) ∧
      (ceiling + s.params.overspeedTolerance < speed → s.permit.overspeed < 5 →
        superviseSpeed speed ceiling s = { s with permit := { s.permit with overspeed := s.permit.overspeed + 1 } }) ∧
      (ceiling + s.params.overspeedTolerance < speed → s.permit.overspeed = 5 → s.startUp.phase = .complete →
        s.mc.mode ≠ .offline → s.mc.mode ≠ .halt →
        FaultTaken .overspeed 0 s (superviseSpeed speed ceiling s) ∧
          (superviseSpeed speed ceiling s).permit.overspeed = 0 ∧
          (superviseSpeed speed ceiling s).permit.level = .emergency)))

/-! ## Cues and effects (R89 to R103) -/

/-- SCENE_CUE_DUE (R96): the advance of the running scene timer that reaches the cue at the scene cursor, which fires with those
after it that are due, in table order; it is that advance taken by itself (model's choice, log 48), as EFFECT_PULSE_END (R101) is
the last millisecond of a channel's pulse taken by itself (log 48). The actions of a cue that fires (R89, R98 to R103):
START_VOICE now or at a grid instant, STOP_VOICE, SET_GAIN, EFFECT and NOTIFY; a skipped cue or action is counted and changes
nothing else. A row that is not due changes nothing (log 1). -/
def Obligations.CuesFireAndPulsesEnd : Prop :=
  (∀ (s : State) (i offset : Nat) (c : Cue), s.mc.mode = .run ∨ s.mc.mode = .unload → s.tracker.position = .sync →
    s.cues.scene ≠ 0 → s.cues.timer < 600000 → s.cues.sceneCursor = some i → s.tables.cues.status = .valid →
    s.tables.cues.entries[i]? = some c → c.trigger = .scene s.cues.scene offset →
    (offset ≤ s.cues.timer + 1 → ∃ t, exec .sceneCueDue s = .next t ∧ SceneAdvanced s t) ∧
    (s.cues.timer + 1 < offset → exec .sceneCueDue s = .next s)) ∧
  (∀ s : State, (s.mc.mode ≠ .run ∧ s.mc.mode ≠ .unload) ∨ s.tracker.position = .unsync ∨ s.cues.scene = 0 ∨
    600000 ≤ s.cues.timer ∨ s.cues.sceneCursor = none → exec .sceneCueDue s = .next s) ∧
  (∀ (c : Fin 12) (s : State) (n : Nat), s.cues.channels[c] = .pulsing n →
    exec (.effectPulseEnd c) s =
      .next (if n ≤ 1 then { s with cues := { s.cues with channels := s.cues.channels.set c .off } } else s)) ∧
  (∀ (c : Fin 12) (s : State), s.cues.channels[c] = .off ∨ s.cues.channels[c] = .on →
    exec (.effectPulseEnd c) s = .next s) ∧
  (∀ (c : Cue) (s : State), c.runOnly = true → s.permit.level ≠ .run →
    fireCue c s = { s with cues := { s.cues with skippedCues := min (s.cues.skippedCues + 1) 65535 } }) ∧
  (∀ (c : Cue) (s : State), c.runOnly = false ∨ s.permit.level = .run → fireCue c s = c.actions.foldl (fireAction c.id) s) ∧
  (∀ (id : Nat) (s : State) (v : Fin 4) (n gain : Nat) (h : HoldBehaviour) (start : CueStart),
    (findClip s n = none ∨ s.mc.mode = .halt ∨ s.store.activity ≠ .idle →
      fireAction id s (.startVoice v n gain h start) =
        { s with cues := { s.cues with skippedActions := min (s.cues.skippedActions + 1) 65535 } }) ∧
    (∀ clip, findClip s n = some clip → s.mc.mode ≠ .halt → s.store.activity = .idle →
      fireAction id s (.startVoice v n gain h .now) =
        { s with
          sound :=
            { s.sound with
              voices := s.sound.voices.set v.val (some
                ⟨.playing, clip.number, 0, gain, gain, 0, s.params.cueRoute[v], clip.loopStart, some h, none⟩) } } ∧
      ∀ period k : Nat, 0 < period → s.clock.ms < 4294967296 → k = (s.clock.ms / period + 1) * period →
        fireAction id s (.startVoice v n gain h (.grid period)) =
          { s with
            sound :=
              { s.sound with
                voices := s.sound.voices.set v.val (some
                  ⟨.waiting, clip.number, 0, gain, gain, 0, s.params.cueRoute[v], clip.loopStart, some h,
                    some ⟨if k < 4294967296 then k else k - 4294967296, 0, s.clock.state == .free⟩⟩) } })) ∧
  (∀ (id : Nat) (s : State) (v : Fin 4) (fade : Nat), ∃ w : Option Voice, fireAction id s (.stopVoice v fade) =
      { s with sound := { s.sound with voices := s.sound.voices.set v.val w } } ∧
    (s.sound.voices[v.val] = none → w = none) ∧ (∀ x, s.sound.voices[v.val] = some x → Stopped fade x w)) ∧
  (∀ (id : Nat) (s : State) (v : Fin 4) (target ramp : Nat), ∃ w : Option Voice,
    fireAction id s (.setGain v target ramp) =
      { s with sound := { s.sound with voices := s.sound.voices.set v.val w } } ∧
    (s.sound.voices[v.val] = none → w = none) ∧
    (∀ x, s.sound.voices[v.val] = some x → x.state = .stopping → w = some x) ∧
    (∀ x, s.sound.voices[v.val] = some x → x.state ≠ .stopping →
      w = some { x with target := target, ramp := ramp, gain := if ramp = 0 then target else x.gain })) ∧
  (∀ (id : Nat) (s : State) (c : Fin 12) (time : Nat),
    fireAction id s (.effect c .off) = { s with cues := { s.cues with channels := s.cues.channels.set c .off } } ∧
    (s.mc.mode ≠ .halt →
      fireAction id s (.effect c .on) = { s with cues := { s.cues with channels := s.cues.channels.set c .on } } ∧
      fireAction id s (.effect c (.pulse time)) =
        { s with cues := { s.cues with channels := s.cues.channels.set c (.pulsing time) } }) ∧
    (s.mc.mode = .halt → ∀ op, op ≠ .off → fireAction id s (.effect c op) =
      { s with cues := { s.cues with skippedActions := min (s.cues.skippedActions + 1) 65535 } })) ∧
  (∀ (id : Nat) (s : State) (code : Byte), fireAction id s (.notify code) = { s with cues :=
    if s.cues.notices.length < 16 then
      { s.cues with
        notices := s.cues.notices ++ [⟨id, code, s.clock.ms, s.tracker.p / 10, s.mc.dispatchCount⟩] }
    else { s.cues with lostNotices := min (s.cues.lostNotices + 1) 65535 } })

/-- The position cursor (R91 to R94) and the entry into a scene (R95). A forward movement fires, in table order, the cues from
the cursor on whose trigger is at or below the new P, and stops at the first above it, at the first scene cue, or past the last;
a wrap first fires those below the route length, then starts again from the first position cue. A placement puts the cursor at
the first position cue above P and fires nothing. A backward movement leaves the cursor, or across 0 exhausts it. A forward
movement into another scene enters it after its position cues: timer 0, scene cursor at its first cue, and where the timer runs
its cues of offset 0 fire at once. Notices stay at most 16 (R103). -/
def Obligations.PositionCuesFireInOrder : Prop :=
  (∀ (s : State) (i p : Nat) (fired later : List Cue), s.cues.cursor = .at i → s.tables.cues.status = .valid →
    s.tables.cues.entries.drop i = fired ++ later →
    (∀ c ∈ fired, ∃ mm, c.trigger = .position mm ∧ 10 * mm ≤ p) →
    (∀ c ∈ later.head?, ∀ mm, c.trigger = .position mm → p < 10 * mm) →
    fireFromCursor (reachedBy p) s = setCursor (fired.foldl (fun t c => fireCue c t) s)
      (match later.head?.map Cue.trigger with
       | some (Trigger.position _) => Cursor.at (i + fired.length)
       | _ => Cursor.exhausted)) ∧
  (∀ (s : State) (p : Nat), s.cues.cursor = .exhausted ∨ s.cues.cursor = .unplaced → fireFromCursor (reachedBy p) s = s) ∧
  (∀ (s : State) (p : Nat), s.cues.cursor = .exhausted → s.tables.cues.status = .valid →
    (∀ c ∈ s.tables.cues.entries, ∃ mm, c.trigger = .position mm ∧ p < 10 * mm) →
    (wrapCursor p s) = setCursor s (if s.tables.cues.entries = [] then .exhausted else .at 0)) ∧
  (∀ (s u : State) (p : Nat) (ended past again later : List Cue), s.tables.cues.status = .valid →
    (s.cues.cursor = .exhausted ∧ ended = []) ∨
      (∃ i, s.cues.cursor = .at i ∧ s.tables.cues.entries.drop i = ended ++ past) →
    (∀ c ∈ ended, ∃ mm, c.trigger = .position mm ∧ mm < s.tables.routeLength) →
    (∀ c ∈ past.head?, ∀ mm, c.trigger = .position mm → s.tables.routeLength ≤ mm) →
    s.tables.cues.entries = again ++ later →
    (∀ c ∈ again, ∃ mm, c.trigger = .position mm ∧ 10 * mm ≤ p) →
    (∀ c ∈ later.head?, ∀ mm, c.trigger = .position mm → p < 10 * mm) →
    u = setCursor (ended.foldl (fun t c => fireCue c t) s)
      (match s.tables.cues.entries.head?.map Cue.trigger with
       | some (Trigger.position _) => Cursor.at 0
       | _ => Cursor.exhausted) →
    wrapCursor p s = setCursor (again.foldl (fun t c => fireCue c t) u)
      (match later.head?.map Cue.trigger with
       | some (Trigger.position _) => Cursor.at again.length
       | _ => Cursor.exhausted)) ∧
  (∀ (s : State) (behind ahead : List Cue), s.tables.cues.status = .valid → s.tables.cues.entries = behind ++ ahead →
    (∀ c ∈ behind, ∀ mm, c.trigger = .position mm → 10 * mm ≤ s.tracker.p) →
    (∀ c ∈ ahead.head?, ∃ mm, c.trigger = .position mm ∧ s.tracker.p < 10 * mm) →
    placeCursor s = setCursor s (if ahead = [] then .exhausted else .at behind.length)) ∧
  (∀ (s : State) (before after : Nat) (wrap : Bool), s.mc.mode ≠ .offline →
    cueMovement before after false wrap s = (if before < after then setCursor s .exhausted else s)) ∧
  (∀ (s t : State) (before after scene : Nat) (wrap : Bool), s.mc.mode ≠ .offline →
    t = (if wrap then wrapCursor after s else fireFromCursor (reachedBy after) s) →
    scene = (match currentSegment s with | none => 0 | some g => g.scene) →
    cueMovement before after true wrap s = (if scene = s.cues.scene then t else enterScene scene t)) ∧
  (∀ (s : State) (before after : Nat) (forward wrap : Bool), s.mc.mode = .offline →
    cueMovement before after forward wrap s = s) ∧
  (∀ s : State, ∃ c, enterScene 0 s = { s with cues := c } ∧
    c = { s.cues with scene := 0, timer := 0, sceneCursor := none }) ∧
  (∀ (s u : State) (scene : Nat) (before now later : List Cue), 0 < scene → s.tables.cues.status = .valid →
    s.tables.cues.entries = before ++ now ++ later →
    (∀ c ∈ before, ∀ offset, c.trigger ≠ .scene scene offset) → (∀ c ∈ now, c.trigger = .scene scene 0) →
    (∀ c ∈ later.head?, ∀ offset, c.trigger = .scene scene offset → 0 < offset) →
    (now = [] → ∀ c ∈ later, ∀ offset, c.trigger = .scene scene offset →
      ∃ o, later.head?.map Cue.trigger = some (.scene scene o)) →
    u = { s with cues := { s.cues with
      scene := scene, timer := 0
      sceneCursor := match (now ++ later).head?.map Cue.trigger with
        | some (Trigger.scene n _) => if n = scene then some before.length else none
        | _ => none } } →
    ((s.mc.mode ≠ .run ∧ s.mc.mode ≠ .unload) ∨ s.tracker.position = .unsync → enterScene scene s = u) ∧
    (s.mc.mode = .run ∨ s.mc.mode = .unload → s.tracker.position = .sync →
      (now = [] → enterScene scene s = u) ∧
      (now ≠ [] → ∃ t, enterScene scene s = t ∧
        t.cues.scene = scene ∧ t.cues.timer = 0 ∧ t.sound = (now.foldl (fun t c => fireCue c t) u).sound ∧
        t.cues.notices = (now.foldl (fun t c => fireCue c t) u).cues.notices ∧
        t.cues.channels = (now.foldl (fun t c => fireCue c t) u).cues.channels ∧
        t.cues.sceneCursor = (match later.head?.map Cue.trigger with
          | some (Trigger.scene n _) => if n = scene then some (before.length + now.length) else none
          | _ => none)))) ∧
  (∀ (s : State) (before after : Nat) (forward wrap : Bool), s.cues.notices.length ≤ 16 →
    (cueMovement before after forward wrap s).cues.notices.length ≤ 16)

/-! ## What every step keeps -/

/-- At reset the memory, the queues, the fault state, the steering, the releases, the berth, the permit and the clock are in
order. -/
def Obligations.InvariantsHoldAtReset : Prop :=
  MemoryCanonical State.reset ∧ QueuesBounded State.reset ∧ HaltRecorded State.reset ∧ SteeringHeld State.reset ∧
    ReleaseHeld State.reset ∧ BerthHeld State.reset ∧ LevelHeld State.reset ∧ ClockInRange State.reset.clock

/-- Every step keeps the canonical form of the memory, the bounds of the queues and logs, and the ranges of show time. -/
def Obligations.StepsKeepFormsAndBounds : Prop :=
  ∀ s t : State, step s = .next t →
    (MemoryCanonical s → MemoryCanonical t) ∧ (QueuesBounded s → QueuesBounded t) ∧
    (ClockInRange s.clock → ClockInRange t.clock)

/-- Every step keeps HALT together with its first-fault record and its active faults (R14, R165, R170), and a berthed vehicle
stationary in UNLOAD without an advance (R2, R10). -/
def Obligations.StepsKeepHaltAndBerth : Prop :=
  (∀ s t : State, step s = .next t → HaltRecorded s → HaltRecorded t) ∧
  (∀ s t : State, step s = .next t → BerthHeld s → BerthHeld t)

/-- Every step keeps the steering output within the steer limit, and the steering at rest in OFFLINE (R55, R59). -/
def Obligations.StepsKeepSteeringHeld : Prop :=
  ∀ s t : State, step s = .next t → SteeringHeld s → SteeringHeld t

/-- Every step keeps the two device laws of R74: at most two solenoids are energised, with none waiting while fewer are, and
while a seat is RELEASING the motion permit is STOP or EMERGENCY and the release condition of R79 holds; the RELEASING seats are
those that wait for their solenoid or drive it, each once. Every step leaves the permit level formed from its terms, and
EMERGENCY until start-up completes (R154, R155, R156); so, as the device law of R155 has it, the permit is RUN only while every
enabled seat that is not bypassed is VERIFIED, the position is confirmed and no fault is active. -/
def Obligations.StepsKeepReleaseHeld : Prop :=
  ∀ s t : State, step s = .next t → ReleaseHeld s → BerthHeld s →
    ReleaseHeld t ∧ (LevelHeld s → LevelHeld t) ∧
    (LevelHeld s → HaltRecorded s → t.permit.level = .run → RunAllowed t)
end

