-- ==== Sys2Proof/Laws/State.lean ====
section
/-! SUPPORT. One lemma per block per update: what setting one block leaves alone, by definition. -/

namespace Sys2Proof.Machine

variable (s : State)

/-! ## setLocalMs -/

@[simp] theorem State.setLocalMs_localMs (x) : (s.setLocalMs x).localMs = x := rfl
@[simp] theorem State.setLocalMs_pending (x) : (s.setLocalMs x).pending = s.pending := rfl
@[simp] theorem State.setLocalMs_startUp (x) : (s.setLocalMs x).startUp = s.startUp := rfl
@[simp] theorem State.setLocalMs_params (x) : (s.setLocalMs x).params = s.params := rfl
@[simp] theorem State.setLocalMs_tables (x) : (s.setLocalMs x).tables = s.tables := rfl
@[simp] theorem State.setLocalMs_wli (x) : (s.setLocalMs x).wli = s.wli := rfl
@[simp] theorem State.setLocalMs_dli (x) : (s.setLocalMs x).dli = s.dli := rfl
@[simp] theorem State.setLocalMs_mc (x) : (s.setLocalMs x).mc = s.mc := rfl
@[simp] theorem State.setLocalMs_tracker (x) : (s.setLocalMs x).tracker = s.tracker := rfl
@[simp] theorem State.setLocalMs_steering (x) : (s.setLocalMs x).steering = s.steering := rfl
@[simp] theorem State.setLocalMs_restraint (x) : (s.setLocalMs x).restraint = s.restraint := rfl
@[simp] theorem State.setLocalMs_cues (x) : (s.setLocalMs x).cues = s.cues := rfl
@[simp] theorem State.setLocalMs_clock (x) : (s.setLocalMs x).clock = s.clock := rfl
@[simp] theorem State.setLocalMs_sound (x) : (s.setLocalMs x).sound = s.sound := rfl
@[simp] theorem State.setLocalMs_store (x) : (s.setLocalMs x).store = s.store := rfl
@[simp] theorem State.setLocalMs_terminals (x) : (s.setLocalMs x).terminals = s.terminals := rfl
@[simp] theorem State.setLocalMs_density (x) : (s.setLocalMs x).density = s.density := rfl
@[simp] theorem State.setLocalMs_permit (x) : (s.setLocalMs x).permit = s.permit := rfl
@[simp] theorem State.setLocalMs_freeDraws (x) : (s.setLocalMs x).freeDraws = s.freeDraws := rfl
@[simp] theorem State.setLocalMs_setLocalMs (x y) : (s.setLocalMs x).setLocalMs y = s.setLocalMs y := rfl
@[simp] theorem State.setLocalMs_self : s.setLocalMs s.localMs = s := rfl

/-! ## setPending -/

@[simp] theorem State.setPending_localMs (x) : (s.setPending x).localMs = s.localMs := rfl
@[simp] theorem State.setPending_pending (x) : (s.setPending x).pending = x := rfl
@[simp] theorem State.setPending_startUp (x) : (s.setPending x).startUp = s.startUp := rfl
@[simp] theorem State.setPending_params (x) : (s.setPending x).params = s.params := rfl
@[simp] theorem State.setPending_tables (x) : (s.setPending x).tables = s.tables := rfl
@[simp] theorem State.setPending_wli (x) : (s.setPending x).wli = s.wli := rfl
@[simp] theorem State.setPending_dli (x) : (s.setPending x).dli = s.dli := rfl
@[simp] theorem State.setPending_mc (x) : (s.setPending x).mc = s.mc := rfl
@[simp] theorem State.setPending_tracker (x) : (s.setPending x).tracker = s.tracker := rfl
@[simp] theorem State.setPending_steering (x) : (s.setPending x).steering = s.steering := rfl
@[simp] theorem State.setPending_restraint (x) : (s.setPending x).restraint = s.restraint := rfl
@[simp] theorem State.setPending_cues (x) : (s.setPending x).cues = s.cues := rfl
@[simp] theorem State.setPending_clock (x) : (s.setPending x).clock = s.clock := rfl
@[simp] theorem State.setPending_sound (x) : (s.setPending x).sound = s.sound := rfl
@[simp] theorem State.setPending_store (x) : (s.setPending x).store = s.store := rfl
@[simp] theorem State.setPending_terminals (x) : (s.setPending x).terminals = s.terminals := rfl
@[simp] theorem State.setPending_density (x) : (s.setPending x).density = s.density := rfl
@[simp] theorem State.setPending_permit (x) : (s.setPending x).permit = s.permit := rfl
@[simp] theorem State.setPending_freeDraws (x) : (s.setPending x).freeDraws = s.freeDraws := rfl
@[simp] theorem State.setPending_setPending (x y) : (s.setPending x).setPending y = s.setPending y := rfl
@[simp] theorem State.setPending_self : s.setPending s.pending = s := rfl

/-! ## setStartUp -/

@[simp] theorem State.setStartUp_localMs (x) : (s.setStartUp x).localMs = s.localMs := rfl
@[simp] theorem State.setStartUp_pending (x) : (s.setStartUp x).pending = s.pending := rfl
@[simp] theorem State.setStartUp_startUp (x) : (s.setStartUp x).startUp = x := rfl
@[simp] theorem State.setStartUp_params (x) : (s.setStartUp x).params = s.params := rfl
@[simp] theorem State.setStartUp_tables (x) : (s.setStartUp x).tables = s.tables := rfl
@[simp] theorem State.setStartUp_wli (x) : (s.setStartUp x).wli = s.wli := rfl
@[simp] theorem State.setStartUp_dli (x) : (s.setStartUp x).dli = s.dli := rfl
@[simp] theorem State.setStartUp_mc (x) : (s.setStartUp x).mc = s.mc := rfl
@[simp] theorem State.setStartUp_tracker (x) : (s.setStartUp x).tracker = s.tracker := rfl
@[simp] theorem State.setStartUp_steering (x) : (s.setStartUp x).steering = s.steering := rfl
@[simp] theorem State.setStartUp_restraint (x) : (s.setStartUp x).restraint = s.restraint := rfl
@[simp] theorem State.setStartUp_cues (x) : (s.setStartUp x).cues = s.cues := rfl
@[simp] theorem State.setStartUp_clock (x) : (s.setStartUp x).clock = s.clock := rfl
@[simp] theorem State.setStartUp_sound (x) : (s.setStartUp x).sound = s.sound := rfl
@[simp] theorem State.setStartUp_store (x) : (s.setStartUp x).store = s.store := rfl
@[simp] theorem State.setStartUp_terminals (x) : (s.setStartUp x).terminals = s.terminals := rfl
@[simp] theorem State.setStartUp_density (x) : (s.setStartUp x).density = s.density := rfl
@[simp] theorem State.setStartUp_permit (x) : (s.setStartUp x).permit = s.permit := rfl
@[simp] theorem State.setStartUp_freeDraws (x) : (s.setStartUp x).freeDraws = s.freeDraws := rfl
@[simp] theorem State.setStartUp_setStartUp (x y) : (s.setStartUp x).setStartUp y = s.setStartUp y := rfl
@[simp] theorem State.setStartUp_self : s.setStartUp s.startUp = s := rfl

/-! ## setParams -/

@[simp] theorem State.setParams_localMs (x) : (s.setParams x).localMs = s.localMs := rfl
@[simp] theorem State.setParams_pending (x) : (s.setParams x).pending = s.pending := rfl
@[simp] theorem State.setParams_startUp (x) : (s.setParams x).startUp = s.startUp := rfl
@[simp] theorem State.setParams_params (x) : (s.setParams x).params = x := rfl
@[simp] theorem State.setParams_tables (x) : (s.setParams x).tables = s.tables := rfl
@[simp] theorem State.setParams_wli (x) : (s.setParams x).wli = s.wli := rfl
@[simp] theorem State.setParams_dli (x) : (s.setParams x).dli = s.dli := rfl
@[simp] theorem State.setParams_mc (x) : (s.setParams x).mc = s.mc := rfl
@[simp] theorem State.setParams_tracker (x) : (s.setParams x).tracker = s.tracker := rfl
@[simp] theorem State.setParams_steering (x) : (s.setParams x).steering = s.steering := rfl
@[simp] theorem State.setParams_restraint (x) : (s.setParams x).restraint = s.restraint := rfl
@[simp] theorem State.setParams_cues (x) : (s.setParams x).cues = s.cues := rfl
@[simp] theorem State.setParams_clock (x) : (s.setParams x).clock = s.clock := rfl
@[simp] theorem State.setParams_sound (x) : (s.setParams x).sound = s.sound := rfl
@[simp] theorem State.setParams_store (x) : (s.setParams x).store = s.store := rfl
@[simp] theorem State.setParams_terminals (x) : (s.setParams x).terminals = s.terminals := rfl
@[simp] theorem State.setParams_density (x) : (s.setParams x).density = s.density := rfl
@[simp] theorem State.setParams_permit (x) : (s.setParams x).permit = s.permit := rfl
@[simp] theorem State.setParams_freeDraws (x) : (s.setParams x).freeDraws = s.freeDraws := rfl
@[simp] theorem State.setParams_setParams (x y) : (s.setParams x).setParams y = s.setParams y := rfl
@[simp] theorem State.setParams_self : s.setParams s.params = s := rfl

/-! ## setTables -/

@[simp] theorem State.setTables_localMs (x) : (s.setTables x).localMs = s.localMs := rfl
@[simp] theorem State.setTables_pending (x) : (s.setTables x).pending = s.pending := rfl
@[simp] theorem State.setTables_startUp (x) : (s.setTables x).startUp = s.startUp := rfl
@[simp] theorem State.setTables_params (x) : (s.setTables x).params = s.params := rfl
@[simp] theorem State.setTables_tables (x) : (s.setTables x).tables = x := rfl
@[simp] theorem State.setTables_wli (x) : (s.setTables x).wli = s.wli := rfl
@[simp] theorem State.setTables_dli (x) : (s.setTables x).dli = s.dli := rfl
@[simp] theorem State.setTables_mc (x) : (s.setTables x).mc = s.mc := rfl
@[simp] theorem State.setTables_tracker (x) : (s.setTables x).tracker = s.tracker := rfl
@[simp] theorem State.setTables_steering (x) : (s.setTables x).steering = s.steering := rfl
@[simp] theorem State.setTables_restraint (x) : (s.setTables x).restraint = s.restraint := rfl
@[simp] theorem State.setTables_cues (x) : (s.setTables x).cues = s.cues := rfl
@[simp] theorem State.setTables_clock (x) : (s.setTables x).clock = s.clock := rfl
@[simp] theorem State.setTables_sound (x) : (s.setTables x).sound = s.sound := rfl
@[simp] theorem State.setTables_store (x) : (s.setTables x).store = s.store := rfl
@[simp] theorem State.setTables_terminals (x) : (s.setTables x).terminals = s.terminals := rfl
@[simp] theorem State.setTables_density (x) : (s.setTables x).density = s.density := rfl
@[simp] theorem State.setTables_permit (x) : (s.setTables x).permit = s.permit := rfl
@[simp] theorem State.setTables_freeDraws (x) : (s.setTables x).freeDraws = s.freeDraws := rfl
@[simp] theorem State.setTables_setTables (x y) : (s.setTables x).setTables y = s.setTables y := rfl
@[simp] theorem State.setTables_self : s.setTables s.tables = s := rfl

/-! ## setWli -/

@[simp] theorem State.setWli_localMs (x) : (s.setWli x).localMs = s.localMs := rfl
@[simp] theorem State.setWli_pending (x) : (s.setWli x).pending = s.pending := rfl
@[simp] theorem State.setWli_startUp (x) : (s.setWli x).startUp = s.startUp := rfl
@[simp] theorem State.setWli_params (x) : (s.setWli x).params = s.params := rfl
@[simp] theorem State.setWli_tables (x) : (s.setWli x).tables = s.tables := rfl
@[simp] theorem State.setWli_wli (x) : (s.setWli x).wli = x := rfl
@[simp] theorem State.setWli_dli (x) : (s.setWli x).dli = s.dli := rfl
@[simp] theorem State.setWli_mc (x) : (s.setWli x).mc = s.mc := rfl
@[simp] theorem State.setWli_tracker (x) : (s.setWli x).tracker = s.tracker := rfl
@[simp] theorem State.setWli_steering (x) : (s.setWli x).steering = s.steering := rfl
@[simp] theorem State.setWli_restraint (x) : (s.setWli x).restraint = s.restraint := rfl
@[simp] theorem State.setWli_cues (x) : (s.setWli x).cues = s.cues := rfl
@[simp] theorem State.setWli_clock (x) : (s.setWli x).clock = s.clock := rfl
@[simp] theorem State.setWli_sound (x) : (s.setWli x).sound = s.sound := rfl
@[simp] theorem State.setWli_store (x) : (s.setWli x).store = s.store := rfl
@[simp] theorem State.setWli_terminals (x) : (s.setWli x).terminals = s.terminals := rfl
@[simp] theorem State.setWli_density (x) : (s.setWli x).density = s.density := rfl
@[simp] theorem State.setWli_permit (x) : (s.setWli x).permit = s.permit := rfl
@[simp] theorem State.setWli_freeDraws (x) : (s.setWli x).freeDraws = s.freeDraws := rfl
@[simp] theorem State.setWli_setWli (x y) : (s.setWli x).setWli y = s.setWli y := rfl
@[simp] theorem State.setWli_self : s.setWli s.wli = s := rfl

/-! ## setDli -/

@[simp] theorem State.setDli_localMs (x) : (s.setDli x).localMs = s.localMs := rfl
@[simp] theorem State.setDli_pending (x) : (s.setDli x).pending = s.pending := rfl
@[simp] theorem State.setDli_startUp (x) : (s.setDli x).startUp = s.startUp := rfl
@[simp] theorem State.setDli_params (x) : (s.setDli x).params = s.params := rfl
@[simp] theorem State.setDli_tables (x) : (s.setDli x).tables = s.tables := rfl
@[simp] theorem State.setDli_wli (x) : (s.setDli x).wli = s.wli := rfl
@[simp] theorem State.setDli_dli (x) : (s.setDli x).dli = x := rfl
@[simp] theorem State.setDli_mc (x) : (s.setDli x).mc = s.mc := rfl
@[simp] theorem State.setDli_tracker (x) : (s.setDli x).tracker = s.tracker := rfl
@[simp] theorem State.setDli_steering (x) : (s.setDli x).steering = s.steering := rfl
@[simp] theorem State.setDli_restraint (x) : (s.setDli x).restraint = s.restraint := rfl
@[simp] theorem State.setDli_cues (x) : (s.setDli x).cues = s.cues := rfl
@[simp] theorem State.setDli_clock (x) : (s.setDli x).clock = s.clock := rfl
@[simp] theorem State.setDli_sound (x) : (s.setDli x).sound = s.sound := rfl
@[simp] theorem State.setDli_store (x) : (s.setDli x).store = s.store := rfl
@[simp] theorem State.setDli_terminals (x) : (s.setDli x).terminals = s.terminals := rfl
@[simp] theorem State.setDli_density (x) : (s.setDli x).density = s.density := rfl
@[simp] theorem State.setDli_permit (x) : (s.setDli x).permit = s.permit := rfl
@[simp] theorem State.setDli_freeDraws (x) : (s.setDli x).freeDraws = s.freeDraws := rfl
@[simp] theorem State.setDli_setDli (x y) : (s.setDli x).setDli y = s.setDli y := rfl
@[simp] theorem State.setDli_self : s.setDli s.dli = s := rfl

/-! ## setMc -/

@[simp] theorem State.setMc_localMs (x) : (s.setMc x).localMs = s.localMs := rfl
@[simp] theorem State.setMc_pending (x) : (s.setMc x).pending = s.pending := rfl
@[simp] theorem State.setMc_startUp (x) : (s.setMc x).startUp = s.startUp := rfl
@[simp] theorem State.setMc_params (x) : (s.setMc x).params = s.params := rfl
@[simp] theorem State.setMc_tables (x) : (s.setMc x).tables = s.tables := rfl
@[simp] theorem State.setMc_wli (x) : (s.setMc x).wli = s.wli := rfl
@[simp] theorem State.setMc_dli (x) : (s.setMc x).dli = s.dli := rfl
@[simp] theorem State.setMc_mc (x) : (s.setMc x).mc = x := rfl
@[simp] theorem State.setMc_tracker (x) : (s.setMc x).tracker = s.tracker := rfl
@[simp] theorem State.setMc_steering (x) : (s.setMc x).steering = s.steering := rfl
@[simp] theorem State.setMc_restraint (x) : (s.setMc x).restraint = s.restraint := rfl
@[simp] theorem State.setMc_cues (x) : (s.setMc x).cues = s.cues := rfl
@[simp] theorem State.setMc_clock (x) : (s.setMc x).clock = s.clock := rfl
@[simp] theorem State.setMc_sound (x) : (s.setMc x).sound = s.sound := rfl
@[simp] theorem State.setMc_store (x) : (s.setMc x).store = s.store := rfl
@[simp] theorem State.setMc_terminals (x) : (s.setMc x).terminals = s.terminals := rfl
@[simp] theorem State.setMc_density (x) : (s.setMc x).density = s.density := rfl
@[simp] theorem State.setMc_permit (x) : (s.setMc x).permit = s.permit := rfl
@[simp] theorem State.setMc_freeDraws (x) : (s.setMc x).freeDraws = s.freeDraws := rfl
@[simp] theorem State.setMc_setMc (x y) : (s.setMc x).setMc y = s.setMc y := rfl
@[simp] theorem State.setMc_self : s.setMc s.mc = s := rfl

/-! ## setTracker -/

@[simp] theorem State.setTracker_localMs (x) : (s.setTracker x).localMs = s.localMs := rfl
@[simp] theorem State.setTracker_pending (x) : (s.setTracker x).pending = s.pending := rfl
@[simp] theorem State.setTracker_startUp (x) : (s.setTracker x).startUp = s.startUp := rfl
@[simp] theorem State.setTracker_params (x) : (s.setTracker x).params = s.params := rfl
@[simp] theorem State.setTracker_tables (x) : (s.setTracker x).tables = s.tables := rfl
@[simp] theorem State.setTracker_wli (x) : (s.setTracker x).wli = s.wli := rfl
@[simp] theorem State.setTracker_dli (x) : (s.setTracker x).dli = s.dli := rfl
@[simp] theorem State.setTracker_mc (x) : (s.setTracker x).mc = s.mc := rfl
@[simp] theorem State.setTracker_tracker (x) : (s.setTracker x).tracker = x := rfl
@[simp] theorem State.setTracker_steering (x) : (s.setTracker x).steering = s.steering := rfl
@[simp] theorem State.setTracker_restraint (x) : (s.setTracker x).restraint = s.restraint := rfl
@[simp] theorem State.setTracker_cues (x) : (s.setTracker x).cues = s.cues := rfl
@[simp] theorem State.setTracker_clock (x) : (s.setTracker x).clock = s.clock := rfl
@[simp] theorem State.setTracker_sound (x) : (s.setTracker x).sound = s.sound := rfl
@[simp] theorem State.setTracker_store (x) : (s.setTracker x).store = s.store := rfl
@[simp] theorem State.setTracker_terminals (x) : (s.setTracker x).terminals = s.terminals := rfl
@[simp] theorem State.setTracker_density (x) : (s.setTracker x).density = s.density := rfl
@[simp] theorem State.setTracker_permit (x) : (s.setTracker x).permit = s.permit := rfl
@[simp] theorem State.setTracker_freeDraws (x) : (s.setTracker x).freeDraws = s.freeDraws := rfl
@[simp] theorem State.setTracker_setTracker (x y) : (s.setTracker x).setTracker y = s.setTracker y := rfl
@[simp] theorem State.setTracker_self : s.setTracker s.tracker = s := rfl

/-! ## setSteering -/

@[simp] theorem State.setSteering_localMs (x) : (s.setSteering x).localMs = s.localMs := rfl
@[simp] theorem State.setSteering_pending (x) : (s.setSteering x).pending = s.pending := rfl
@[simp] theorem State.setSteering_startUp (x) : (s.setSteering x).startUp = s.startUp := rfl
@[simp] theorem State.setSteering_params (x) : (s.setSteering x).params = s.params := rfl
@[simp] theorem State.setSteering_tables (x) : (s.setSteering x).tables = s.tables := rfl
@[simp] theorem State.setSteering_wli (x) : (s.setSteering x).wli = s.wli := rfl
@[simp] theorem State.setSteering_dli (x) : (s.setSteering x).dli = s.dli := rfl
@[simp] theorem State.setSteering_mc (x) : (s.setSteering x).mc = s.mc := rfl
@[simp] theorem State.setSteering_tracker (x) : (s.setSteering x).tracker = s.tracker := rfl
@[simp] theorem State.setSteering_steering (x) : (s.setSteering x).steering = x := rfl
@[simp] theorem State.setSteering_restraint (x) : (s.setSteering x).restraint = s.restraint := rfl
@[simp] theorem State.setSteering_cues (x) : (s.setSteering x).cues = s.cues := rfl
@[simp] theorem State.setSteering_clock (x) : (s.setSteering x).clock = s.clock := rfl
@[simp] theorem State.setSteering_sound (x) : (s.setSteering x).sound = s.sound := rfl
@[simp] theorem State.setSteering_store (x) : (s.setSteering x).store = s.store := rfl
@[simp] theorem State.setSteering_terminals (x) : (s.setSteering x).terminals = s.terminals := rfl
@[simp] theorem State.setSteering_density (x) : (s.setSteering x).density = s.density := rfl
@[simp] theorem State.setSteering_permit (x) : (s.setSteering x).permit = s.permit := rfl
@[simp] theorem State.setSteering_freeDraws (x) : (s.setSteering x).freeDraws = s.freeDraws := rfl
@[simp] theorem State.setSteering_setSteering (x y) : (s.setSteering x).setSteering y = s.setSteering y := rfl
@[simp] theorem State.setSteering_self : s.setSteering s.steering = s := rfl

/-! ## setRestraint -/

@[simp] theorem State.setRestraint_localMs (x) : (s.setRestraint x).localMs = s.localMs := rfl
@[simp] theorem State.setRestraint_pending (x) : (s.setRestraint x).pending = s.pending := rfl
@[simp] theorem State.setRestraint_startUp (x) : (s.setRestraint x).startUp = s.startUp := rfl
@[simp] theorem State.setRestraint_params (x) : (s.setRestraint x).params = s.params := rfl
@[simp] theorem State.setRestraint_tables (x) : (s.setRestraint x).tables = s.tables := rfl
@[simp] theorem State.setRestraint_wli (x) : (s.setRestraint x).wli = s.wli := rfl
@[simp] theorem State.setRestraint_dli (x) : (s.setRestraint x).dli = s.dli := rfl
@[simp] theorem State.setRestraint_mc (x) : (s.setRestraint x).mc = s.mc := rfl
@[simp] theorem State.setRestraint_tracker (x) : (s.setRestraint x).tracker = s.tracker := rfl
@[simp] theorem State.setRestraint_steering (x) : (s.setRestraint x).steering = s.steering := rfl
@[simp] theorem State.setRestraint_restraint (x) : (s.setRestraint x).restraint = x := rfl
@[simp] theorem State.setRestraint_cues (x) : (s.setRestraint x).cues = s.cues := rfl
@[simp] theorem State.setRestraint_clock (x) : (s.setRestraint x).clock = s.clock := rfl
@[simp] theorem State.setRestraint_sound (x) : (s.setRestraint x).sound = s.sound := rfl
@[simp] theorem State.setRestraint_store (x) : (s.setRestraint x).store = s.store := rfl
@[simp] theorem State.setRestraint_terminals (x) : (s.setRestraint x).terminals = s.terminals := rfl
@[simp] theorem State.setRestraint_density (x) : (s.setRestraint x).density = s.density := rfl
@[simp] theorem State.setRestraint_permit (x) : (s.setRestraint x).permit = s.permit := rfl
@[simp] theorem State.setRestraint_freeDraws (x) : (s.setRestraint x).freeDraws = s.freeDraws := rfl
@[simp] theorem State.setRestraint_setRestraint (x y) : (s.setRestraint x).setRestraint y = s.setRestraint y := rfl
@[simp] theorem State.setRestraint_self : s.setRestraint s.restraint = s := rfl

/-! ## setCues -/

@[simp] theorem State.setCues_localMs (x) : (s.setCues x).localMs = s.localMs := rfl
@[simp] theorem State.setCues_pending (x) : (s.setCues x).pending = s.pending := rfl
@[simp] theorem State.setCues_startUp (x) : (s.setCues x).startUp = s.startUp := rfl
@[simp] theorem State.setCues_params (x) : (s.setCues x).params = s.params := rfl
@[simp] theorem State.setCues_tables (x) : (s.setCues x).tables = s.tables := rfl
@[simp] theorem State.setCues_wli (x) : (s.setCues x).wli = s.wli := rfl
@[simp] theorem State.setCues_dli (x) : (s.setCues x).dli = s.dli := rfl
@[simp] theorem State.setCues_mc (x) : (s.setCues x).mc = s.mc := rfl
@[simp] theorem State.setCues_tracker (x) : (s.setCues x).tracker = s.tracker := rfl
@[simp] theorem State.setCues_steering (x) : (s.setCues x).steering = s.steering := rfl
@[simp] theorem State.setCues_restraint (x) : (s.setCues x).restraint = s.restraint := rfl
@[simp] theorem State.setCues_cues (x) : (s.setCues x).cues = x := rfl
@[simp] theorem State.setCues_clock (x) : (s.setCues x).clock = s.clock := rfl
@[simp] theorem State.setCues_sound (x) : (s.setCues x).sound = s.sound := rfl
@[simp] theorem State.setCues_store (x) : (s.setCues x).store = s.store := rfl
@[simp] theorem State.setCues_terminals (x) : (s.setCues x).terminals = s.terminals := rfl
@[simp] theorem State.setCues_density (x) : (s.setCues x).density = s.density := rfl
@[simp] theorem State.setCues_permit (x) : (s.setCues x).permit = s.permit := rfl
@[simp] theorem State.setCues_freeDraws (x) : (s.setCues x).freeDraws = s.freeDraws := rfl
@[simp] theorem State.setCues_setCues (x y) : (s.setCues x).setCues y = s.setCues y := rfl
@[simp] theorem State.setCues_self : s.setCues s.cues = s := rfl

/-! ## setClock -/

@[simp] theorem State.setClock_localMs (x) : (s.setClock x).localMs = s.localMs := rfl
@[simp] theorem State.setClock_pending (x) : (s.setClock x).pending = s.pending := rfl
@[simp] theorem State.setClock_startUp (x) : (s.setClock x).startUp = s.startUp := rfl
@[simp] theorem State.setClock_params (x) : (s.setClock x).params = s.params := rfl
@[simp] theorem State.setClock_tables (x) : (s.setClock x).tables = s.tables := rfl
@[simp] theorem State.setClock_wli (x) : (s.setClock x).wli = s.wli := rfl
@[simp] theorem State.setClock_dli (x) : (s.setClock x).dli = s.dli := rfl
@[simp] theorem State.setClock_mc (x) : (s.setClock x).mc = s.mc := rfl
@[simp] theorem State.setClock_tracker (x) : (s.setClock x).tracker = s.tracker := rfl
@[simp] theorem State.setClock_steering (x) : (s.setClock x).steering = s.steering := rfl
@[simp] theorem State.setClock_restraint (x) : (s.setClock x).restraint = s.restraint := rfl
@[simp] theorem State.setClock_cues (x) : (s.setClock x).cues = s.cues := rfl
@[simp] theorem State.setClock_clock (x) : (s.setClock x).clock = x := rfl
@[simp] theorem State.setClock_sound (x) : (s.setClock x).sound = s.sound := rfl
@[simp] theorem State.setClock_store (x) : (s.setClock x).store = s.store := rfl
@[simp] theorem State.setClock_terminals (x) : (s.setClock x).terminals = s.terminals := rfl
@[simp] theorem State.setClock_density (x) : (s.setClock x).density = s.density := rfl
@[simp] theorem State.setClock_permit (x) : (s.setClock x).permit = s.permit := rfl
@[simp] theorem State.setClock_freeDraws (x) : (s.setClock x).freeDraws = s.freeDraws := rfl
@[simp] theorem State.setClock_setClock (x y) : (s.setClock x).setClock y = s.setClock y := rfl
@[simp] theorem State.setClock_self : s.setClock s.clock = s := rfl

/-! ## setSound -/

@[simp] theorem State.setSound_localMs (x) : (s.setSound x).localMs = s.localMs := rfl
@[simp] theorem State.setSound_pending (x) : (s.setSound x).pending = s.pending := rfl
@[simp] theorem State.setSound_startUp (x) : (s.setSound x).startUp = s.startUp := rfl
@[simp] theorem State.setSound_params (x) : (s.setSound x).params = s.params := rfl
@[simp] theorem State.setSound_tables (x) : (s.setSound x).tables = s.tables := rfl
@[simp] theorem State.setSound_wli (x) : (s.setSound x).wli = s.wli := rfl
@[simp] theorem State.setSound_dli (x) : (s.setSound x).dli = s.dli := rfl
@[simp] theorem State.setSound_mc (x) : (s.setSound x).mc = s.mc := rfl
@[simp] theorem State.setSound_tracker (x) : (s.setSound x).tracker = s.tracker := rfl
@[simp] theorem State.setSound_steering (x) : (s.setSound x).steering = s.steering := rfl
@[simp] theorem State.setSound_restraint (x) : (s.setSound x).restraint = s.restraint := rfl
@[simp] theorem State.setSound_cues (x) : (s.setSound x).cues = s.cues := rfl
@[simp] theorem State.setSound_clock (x) : (s.setSound x).clock = s.clock := rfl
@[simp] theorem State.setSound_sound (x) : (s.setSound x).sound = x := rfl
@[simp] theorem State.setSound_store (x) : (s.setSound x).store = s.store := rfl
@[simp] theorem State.setSound_terminals (x) : (s.setSound x).terminals = s.terminals := rfl
@[simp] theorem State.setSound_density (x) : (s.setSound x).density = s.density := rfl
@[simp] theorem State.setSound_permit (x) : (s.setSound x).permit = s.permit := rfl
@[simp] theorem State.setSound_freeDraws (x) : (s.setSound x).freeDraws = s.freeDraws := rfl
@[simp] theorem State.setSound_setSound (x y) : (s.setSound x).setSound y = s.setSound y := rfl
@[simp] theorem State.setSound_self : s.setSound s.sound = s := rfl

/-! ## setStore -/

@[simp] theorem State.setStore_localMs (x) : (s.setStore x).localMs = s.localMs := rfl
@[simp] theorem State.setStore_pending (x) : (s.setStore x).pending = s.pending := rfl
@[simp] theorem State.setStore_startUp (x) : (s.setStore x).startUp = s.startUp := rfl
@[simp] theorem State.setStore_params (x) : (s.setStore x).params = s.params := rfl
@[simp] theorem State.setStore_tables (x) : (s.setStore x).tables = s.tables := rfl
@[simp] theorem State.setStore_wli (x) : (s.setStore x).wli = s.wli := rfl
@[simp] theorem State.setStore_dli (x) : (s.setStore x).dli = s.dli := rfl
@[simp] theorem State.setStore_mc (x) : (s.setStore x).mc = s.mc := rfl
@[simp] theorem State.setStore_tracker (x) : (s.setStore x).tracker = s.tracker := rfl
@[simp] theorem State.setStore_steering (x) : (s.setStore x).steering = s.steering := rfl
@[simp] theorem State.setStore_restraint (x) : (s.setStore x).restraint = s.restraint := rfl
@[simp] theorem State.setStore_cues (x) : (s.setStore x).cues = s.cues := rfl
@[simp] theorem State.setStore_clock (x) : (s.setStore x).clock = s.clock := rfl
@[simp] theorem State.setStore_sound (x) : (s.setStore x).sound = s.sound := rfl
@[simp] theorem State.setStore_store (x) : (s.setStore x).store = x := rfl
@[simp] theorem State.setStore_terminals (x) : (s.setStore x).terminals = s.terminals := rfl
@[simp] theorem State.setStore_density (x) : (s.setStore x).density = s.density := rfl
@[simp] theorem State.setStore_permit (x) : (s.setStore x).permit = s.permit := rfl
@[simp] theorem State.setStore_freeDraws (x) : (s.setStore x).freeDraws = s.freeDraws := rfl
@[simp] theorem State.setStore_setStore (x y) : (s.setStore x).setStore y = s.setStore y := rfl
@[simp] theorem State.setStore_self : s.setStore s.store = s := rfl

/-! ## setTerminals -/

@[simp] theorem State.setTerminals_localMs (x) : (s.setTerminals x).localMs = s.localMs := rfl
@[simp] theorem State.setTerminals_pending (x) : (s.setTerminals x).pending = s.pending := rfl
@[simp] theorem State.setTerminals_startUp (x) : (s.setTerminals x).startUp = s.startUp := rfl
@[simp] theorem State.setTerminals_params (x) : (s.setTerminals x).params = s.params := rfl
@[simp] theorem State.setTerminals_tables (x) : (s.setTerminals x).tables = s.tables := rfl
@[simp] theorem State.setTerminals_wli (x) : (s.setTerminals x).wli = s.wli := rfl
@[simp] theorem State.setTerminals_dli (x) : (s.setTerminals x).dli = s.dli := rfl
@[simp] theorem State.setTerminals_mc (x) : (s.setTerminals x).mc = s.mc := rfl
@[simp] theorem State.setTerminals_tracker (x) : (s.setTerminals x).tracker = s.tracker := rfl
@[simp] theorem State.setTerminals_steering (x) : (s.setTerminals x).steering = s.steering := rfl
@[simp] theorem State.setTerminals_restraint (x) : (s.setTerminals x).restraint = s.restraint := rfl
@[simp] theorem State.setTerminals_cues (x) : (s.setTerminals x).cues = s.cues := rfl
@[simp] theorem State.setTerminals_clock (x) : (s.setTerminals x).clock = s.clock := rfl
@[simp] theorem State.setTerminals_sound (x) : (s.setTerminals x).sound = s.sound := rfl
@[simp] theorem State.setTerminals_store (x) : (s.setTerminals x).store = s.store := rfl
@[simp] theorem State.setTerminals_terminals (x) : (s.setTerminals x).terminals = x := rfl
@[simp] theorem State.setTerminals_density (x) : (s.setTerminals x).density = s.density := rfl
@[simp] theorem State.setTerminals_permit (x) : (s.setTerminals x).permit = s.permit := rfl
@[simp] theorem State.setTerminals_freeDraws (x) : (s.setTerminals x).freeDraws = s.freeDraws := rfl
@[simp] theorem State.setTerminals_setTerminals (x y) : (s.setTerminals x).setTerminals y = s.setTerminals y := rfl
@[simp] theorem State.setTerminals_self : s.setTerminals s.terminals = s := rfl

/-! ## setDensity -/

@[simp] theorem State.setDensity_localMs (x) : (s.setDensity x).localMs = s.localMs := rfl
@[simp] theorem State.setDensity_pending (x) : (s.setDensity x).pending = s.pending := rfl
@[simp] theorem State.setDensity_startUp (x) : (s.setDensity x).startUp = s.startUp := rfl
@[simp] theorem State.setDensity_params (x) : (s.setDensity x).params = s.params := rfl
@[simp] theorem State.setDensity_tables (x) : (s.setDensity x).tables = s.tables := rfl
@[simp] theorem State.setDensity_wli (x) : (s.setDensity x).wli = s.wli := rfl
@[simp] theorem State.setDensity_dli (x) : (s.setDensity x).dli = s.dli := rfl
@[simp] theorem State.setDensity_mc (x) : (s.setDensity x).mc = s.mc := rfl
@[simp] theorem State.setDensity_tracker (x) : (s.setDensity x).tracker = s.tracker := rfl
@[simp] theorem State.setDensity_steering (x) : (s.setDensity x).steering = s.steering := rfl
@[simp] theorem State.setDensity_restraint (x) : (s.setDensity x).restraint = s.restraint := rfl
@[simp] theorem State.setDensity_cues (x) : (s.setDensity x).cues = s.cues := rfl
@[simp] theorem State.setDensity_clock (x) : (s.setDensity x).clock = s.clock := rfl
@[simp] theorem State.setDensity_sound (x) : (s.setDensity x).sound = s.sound := rfl
@[simp] theorem State.setDensity_store (x) : (s.setDensity x).store = s.store := rfl
@[simp] theorem State.setDensity_terminals (x) : (s.setDensity x).terminals = s.terminals := rfl
@[simp] theorem State.setDensity_density (x) : (s.setDensity x).density = x := rfl
@[simp] theorem State.setDensity_permit (x) : (s.setDensity x).permit = s.permit := rfl
@[simp] theorem State.setDensity_freeDraws (x) : (s.setDensity x).freeDraws = s.freeDraws := rfl
@[simp] theorem State.setDensity_setDensity (x y) : (s.setDensity x).setDensity y = s.setDensity y := rfl
@[simp] theorem State.setDensity_self : s.setDensity s.density = s := rfl

/-! ## setPermit -/

@[simp] theorem State.setPermit_localMs (x) : (s.setPermit x).localMs = s.localMs := rfl
@[simp] theorem State.setPermit_pending (x) : (s.setPermit x).pending = s.pending := rfl
@[simp] theorem State.setPermit_startUp (x) : (s.setPermit x).startUp = s.startUp := rfl
@[simp] theorem State.setPermit_params (x) : (s.setPermit x).params = s.params := rfl
@[simp] theorem State.setPermit_tables (x) : (s.setPermit x).tables = s.tables := rfl
@[simp] theorem State.setPermit_wli (x) : (s.setPermit x).wli = s.wli := rfl
@[simp] theorem State.setPermit_dli (x) : (s.setPermit x).dli = s.dli := rfl
@[simp] theorem State.setPermit_mc (x) : (s.setPermit x).mc = s.mc := rfl
@[simp] theorem State.setPermit_tracker (x) : (s.setPermit x).tracker = s.tracker := rfl
@[simp] theorem State.setPermit_steering (x) : (s.setPermit x).steering = s.steering := rfl
@[simp] theorem State.setPermit_restraint (x) : (s.setPermit x).restraint = s.restraint := rfl
@[simp] theorem State.setPermit_cues (x) : (s.setPermit x).cues = s.cues := rfl
@[simp] theorem State.setPermit_clock (x) : (s.setPermit x).clock = s.clock := rfl
@[simp] theorem State.setPermit_sound (x) : (s.setPermit x).sound = s.sound := rfl
@[simp] theorem State.setPermit_store (x) : (s.setPermit x).store = s.store := rfl
@[simp] theorem State.setPermit_terminals (x) : (s.setPermit x).terminals = s.terminals := rfl
@[simp] theorem State.setPermit_density (x) : (s.setPermit x).density = s.density := rfl
@[simp] theorem State.setPermit_permit (x) : (s.setPermit x).permit = x := rfl
@[simp] theorem State.setPermit_freeDraws (x) : (s.setPermit x).freeDraws = s.freeDraws := rfl
@[simp] theorem State.setPermit_setPermit (x y) : (s.setPermit x).setPermit y = s.setPermit y := rfl
@[simp] theorem State.setPermit_self : s.setPermit s.permit = s := rfl

/-! ## setFreeDraws -/

@[simp] theorem State.setFreeDraws_localMs (x) : (s.setFreeDraws x).localMs = s.localMs := rfl
@[simp] theorem State.setFreeDraws_pending (x) : (s.setFreeDraws x).pending = s.pending := rfl
@[simp] theorem State.setFreeDraws_startUp (x) : (s.setFreeDraws x).startUp = s.startUp := rfl
@[simp] theorem State.setFreeDraws_params (x) : (s.setFreeDraws x).params = s.params := rfl
@[simp] theorem State.setFreeDraws_tables (x) : (s.setFreeDraws x).tables = s.tables := rfl
@[simp] theorem State.setFreeDraws_wli (x) : (s.setFreeDraws x).wli = s.wli := rfl
@[simp] theorem State.setFreeDraws_dli (x) : (s.setFreeDraws x).dli = s.dli := rfl
@[simp] theorem State.setFreeDraws_mc (x) : (s.setFreeDraws x).mc = s.mc := rfl
@[simp] theorem State.setFreeDraws_tracker (x) : (s.setFreeDraws x).tracker = s.tracker := rfl
@[simp] theorem State.setFreeDraws_steering (x) : (s.setFreeDraws x).steering = s.steering := rfl
@[simp] theorem State.setFreeDraws_restraint (x) : (s.setFreeDraws x).restraint = s.restraint := rfl
@[simp] theorem State.setFreeDraws_cues (x) : (s.setFreeDraws x).cues = s.cues := rfl
@[simp] theorem State.setFreeDraws_clock (x) : (s.setFreeDraws x).clock = s.clock := rfl
@[simp] theorem State.setFreeDraws_sound (x) : (s.setFreeDraws x).sound = s.sound := rfl
@[simp] theorem State.setFreeDraws_store (x) : (s.setFreeDraws x).store = s.store := rfl
@[simp] theorem State.setFreeDraws_terminals (x) : (s.setFreeDraws x).terminals = s.terminals := rfl
@[simp] theorem State.setFreeDraws_density (x) : (s.setFreeDraws x).density = s.density := rfl
@[simp] theorem State.setFreeDraws_permit (x) : (s.setFreeDraws x).permit = s.permit := rfl
@[simp] theorem State.setFreeDraws_freeDraws (x) : (s.setFreeDraws x).freeDraws = x := rfl
@[simp] theorem State.setFreeDraws_setFreeDraws (x y) : (s.setFreeDraws x).setFreeDraws y = s.setFreeDraws y := rfl
@[simp] theorem State.setFreeDraws_self : s.setFreeDraws s.freeDraws = s := rfl

/-! ## Updates by a function of the block -/

@[simp] theorem modPermit_eq (f) : modPermit s f = s.setPermit (f s.permit) := rfl
@[simp] theorem modMc_eq (f) : modMc s f = s.setMc (f s.mc) := rfl
@[simp] theorem modTracker_eq (f) : modTracker s f = s.setTracker (f s.tracker) := rfl
@[simp] theorem modSteering_eq (f) : modSteering s f = s.setSteering (f s.steering) := rfl
@[simp] theorem modRestraint_eq (f) : modRestraint s f = s.setRestraint (f s.restraint) := rfl
@[simp] theorem modWli_eq (f) : modWli s f = s.setWli (f s.wli) := rfl
@[simp] theorem modDli_eq (f) : modDli s f = s.setDli (f s.dli) := rfl
@[simp] theorem modStore_eq (f) : modStore s f = s.setStore (f s.store) := rfl
@[simp] theorem modTerminals_eq (f) : modTerminals s f = s.setTerminals (f s.terminals) := rfl
@[simp] theorem modCues_eq (f) : modCues s f = s.setCues (f s.cues) := rfl

end Sys2Proof.Machine
end

