-- ==== Sys2Proof/Laws/Requests.lean ====
section
/-! SUPPORT. What a request row does with the head frame: one lemma for each way it can go (R18, R19, R175). -/

namespace Sys2Proof.Machine

theorem Kind.ofCode_eq {b : Byte} {k : Kind} (h : b.toNat = k.code) : Kind.ofCode b = some k := by
  unfold Kind.ofCode
  rw [h]
  cases k <;> rfl

theorem Kind.ofCode_none {b : Byte} (h : ∀ k : Kind, k.code ≠ b.toNat) : Kind.ofCode b = none := by
  unfold Kind.ofCode
  rw [List.find?_eq_none]
  intro k _
  simpa using h k

/-- Every kind's row is a request row of that kind. -/
theorem exec_command (k : Kind) (s : State) : ∃ h, exec k.command s = .next (takeRequest (some k) h s) := by
  cases k <;> exact ⟨_, rfl⟩

variable {k : Kind} {f : Frame} {rest : List Frame} {s : State} {handle : Handler}

theorem startingUp_false (h : s.startUp.phase = .complete) : startingUp s = false := by simp [startingUp, h]

/-- The state once the frame is off the queue and the slot is empty. -/
theorem taken_eq : (modMc (modWli s fun w => { w with queue := rest }) fun m => m.setSlot f.source none) = taken s f rest := rfl

theorem respond_eq (a : Answer) : respond f a = answered f a.status a.data a.next := rfl

/-- A unicast frame that can be taken, outside start-up. -/
theorem takeRequest_asked (h : Asked k f rest s) :
    takeRequest (some k) handle s =
      respond f (judgeUnicast (some k) handle f (s.setWli { s.wli with queue := rest })) := by
  unfold takeRequest
  rw [h.queue]
  simp only [Kind.ofCode_eq h.kind, takable, h.unicast, h.room, takeFrame]
  simp [startingUp, h.running]

/-- A request that passes every step of R18 before the last is its owner's to answer. -/
theorem takeRequest_admitted (h : Admitted k f rest s) :
    takeRequest (some k) handle s = respond f (handle f.args (taken s f rest)) := by
  rw [takeRequest_asked h.toAsked]
  have hm : k.takenIn (taken s f rest).mc.mode = true := by
    have : (taken s f rest).mc.mode = s.mc.mode := by cases hs : f.source <;> simp [taken, ModeController.setSlot, hs]
    rw [this]; exact h.mode
  have hp : (k.isProtected && !prefaceMatches (prefaceSlot s.mc f.source) k f.args) = false := by
    cases hk : k.isProtected
    · rfl
    · simp [h.preface hk]
  simp only [judgeUnicast, checkAuthority, h.authority, checkPreface, State.setWli_mc, hp, askOwner]
  simp only [if_true]
  simp only [show modMc (s.setWli { s.wli with queue := rest }) (fun m => m.setSlot f.source none) = taken s f rest from rfl,
    hm, if_true, Bool.false_eq_true, if_false]

/-! ## The state once the frame is taken -/

@[simp] theorem taken_localMs : (taken s f rest).localMs = s.localMs := rfl
@[simp] theorem taken_pending : (taken s f rest).pending = s.pending := rfl
@[simp] theorem taken_startUp : (taken s f rest).startUp = s.startUp := rfl
@[simp] theorem taken_params : (taken s f rest).params = s.params := rfl
@[simp] theorem taken_tables : (taken s f rest).tables = s.tables := rfl
@[simp] theorem taken_dli : (taken s f rest).dli = s.dli := rfl
@[simp] theorem taken_tracker : (taken s f rest).tracker = s.tracker := rfl
@[simp] theorem taken_steering : (taken s f rest).steering = s.steering := rfl
@[simp] theorem taken_restraint : (taken s f rest).restraint = s.restraint := rfl
@[simp] theorem taken_cues : (taken s f rest).cues = s.cues := rfl
@[simp] theorem taken_clock : (taken s f rest).clock = s.clock := rfl
@[simp] theorem taken_sound : (taken s f rest).sound = s.sound := rfl
@[simp] theorem taken_store : (taken s f rest).store = s.store := rfl
@[simp] theorem taken_terminals : (taken s f rest).terminals = s.terminals := rfl
@[simp] theorem taken_density : (taken s f rest).density = s.density := rfl
@[simp] theorem taken_permit : (taken s f rest).permit = s.permit := rfl
@[simp] theorem taken_freeDraws : (taken s f rest).freeDraws = s.freeDraws := rfl
@[simp] theorem taken_wli : (taken s f rest).wli = { s.wli with queue := rest } := rfl
theorem taken_mc : (taken s f rest).mc = s.mc.setSlot f.source none := rfl
@[simp] theorem setSlot_mode (m : ModeController) (src : Source) (x) : (m.setSlot src x).mode = m.mode := by cases src <;> rfl
@[simp] theorem setSlot_heldFrom (m : ModeController) (src : Source) (x) : (m.setSlot src x).heldFrom = m.heldFrom := by cases src <;> rfl
@[simp] theorem setSlot_berthed (m : ModeController) (src : Source) (x) : (m.setSlot src x).berthed = m.berthed := by cases src <;> rfl
@[simp] theorem setSlot_berthReached (m : ModeController) (src : Source) (x) : (m.setSlot src x).berthReached = m.berthReached := by cases src <;> rfl
@[simp] theorem setSlot_advance (m : ModeController) (src : Source) (x) : (m.setSlot src x).advance = m.advance := by cases src <;> rfl
@[simp] theorem setSlot_protectionFaults (m : ModeController) (src : Source) (x) : (m.setSlot src x).protectionFaults = m.protectionFaults := by cases src <;> rfl
@[simp] theorem setSlot_dispatchCount (m : ModeController) (src : Source) (x) : (m.setSlot src x).dispatchCount = m.dispatchCount := by cases src <;> rfl
@[simp] theorem taken_mode : (taken s f rest).mc.mode = s.mc.mode := by simp [taken_mc]
@[simp] theorem taken_heldFrom : (taken s f rest).mc.heldFrom = s.mc.heldFrom := by simp [taken_mc]
@[simp] theorem taken_berthed : (taken s f rest).mc.berthed = s.mc.berthed := by simp [taken_mc]
@[simp] theorem taken_berthReached : (taken s f rest).mc.berthReached = s.mc.berthReached := by simp [taken_mc]
@[simp] theorem taken_advance : (taken s f rest).mc.advance = s.mc.advance := by simp [taken_mc]
@[simp] theorem taken_protectionFaults : (taken s f rest).mc.protectionFaults = s.mc.protectionFaults := by simp [taken_mc]
@[simp] theorem taken_dispatchCount : (taken s f rest).mc.dispatchCount = s.mc.dispatchCount := by simp [taken_mc]

/-- An admitted request is answered as its owner says. -/
theorem requestRow_admitted {A : Answer} (h : Admitted k f rest s) (hA : handle f.args (taken s f rest) = A) :
    requestRow k handle s = .next (answered f A.status A.data A.next) := by
  rw [requestRow, takeRequest_admitted h, hA]; rfl

/-- A full outgoing list keeps a unicast frame waiting (R175). -/
theorem takeRequest_full {row : Option Kind} (hq : s.wli.queue = f :: rest) (hu : f.addressing = .unicast)
    (ho : 2 ≤ s.wli.outgoing.length) : takeRequest row handle s = s := by
  unfold takeRequest
  rw [hq]
  have : takable s f = false := by simp [takable, hu]; omega
  simp [this]

/-- Whatever a request row does, it does by taking the head frame or not at all. -/
theorem takeRequest_cases (row : Option Kind) (handle : Handler) (s : State) :
    takeRequest row handle s = s ∨
      ∃ f rest, s.wli.queue = f :: rest ∧ takable s f = true ∧
        takeRequest row handle s = takeFrame row handle f (s.setWli { s.wli with queue := rest }) := by
  unfold takeRequest
  split
  · exact .inl rfl
  · next f rest hq =>
    split
    · next h => exact .inr ⟨f, rest, hq, h.2, rfl⟩
    · exact .inl rfl

end Sys2Proof.Machine
end

