-- ==== Sys2Proof/Laws/Blocks.lean ====
section
/-! SUPPORT. Which blocks the operations of one block touch: first as one equation for each operation, then, for simp, each
block that it leaves alone. -/

namespace Sys2Proof.Machine

variable {s t u : State}

/-! ## Cues and sound -/

/-- No block changed but the Cue Engine and the Sound Engine. -/
def OnlyShow (s t : State) : Prop := t = (s.setCues t.cues).setSound t.sound

theorem OnlyShow.refl (s : State) : OnlyShow s s := rfl

theorem OnlyShow.trans (h : OnlyShow s t) (k : OnlyShow t u) : OnlyShow s u :=
  Eq.trans k (by rw [show t = _ from h]; rfl)

theorem OnlyShow.setCues (s : State) (x : CueEngine) : OnlyShow s (s.setCues x) := rfl
theorem OnlyShow.setSound (s : State) (x : Sound) : OnlyShow s (s.setSound x) := rfl

theorem OnlyShow.foldl {α : Type} {f : State → α → State} (h : ∀ s a, OnlyShow s (f s a)) (l : List α) (s : State) :
    OnlyShow s (l.foldl f s) := by
  induction l generalizing s with
  | nil => exact .refl s
  | cons a l ih => exact (h s a).trans (ih (f s a))

theorem fireAction_only (cue : Nat) (s : State) (a : Action) : OnlyShow s (fireAction cue s a) := by
  unfold fireAction
  repeat' split
  all_goals rfl

theorem fireCue_only (c : Cue) (s : State) : OnlyShow s (fireCue c s) := by
  unfold fireCue
  split
  · rfl
  · exact .foldl (fireAction_only c.id) _ s

theorem firePositionCues_only (dueAt : Nat → Bool) (l : List Cue) (i : Nat) (s : State) :
    OnlyShow s (firePositionCues dueAt l i s) := by
  induction l generalizing i s with
  | nil => rfl
  | cons c l ih =>
    unfold firePositionCues
    repeat' split
    · rfl
    · exact (fireCue_only c s).trans (ih _ _)
    · rfl

theorem fireFromCursor_only (dueAt : Nat → Bool) (s : State) : OnlyShow s (fireFromCursor dueAt s) := by
  unfold fireFromCursor
  split
  · exact firePositionCues_only ..
  all_goals rfl

theorem placeCursor_only (s : State) : OnlyShow s (placeCursor s) := by
  unfold placeCursor
  dsimp only
  split <;> rfl

theorem wrapCursor_only (p : Nat) (s : State) : OnlyShow s (wrapCursor p s) := by
  unfold wrapCursor
  exact (fireFromCursor_only _ s).trans ((OnlyShow.setCues _ _).trans (fireFromCursor_only _ _))

theorem fireSceneCues_only (scene timer : Nat) (l : List Cue) (i : Nat) (s : State) :
    OnlyShow s (fireSceneCues scene timer l i s) := by
  induction l generalizing i s with
  | nil => rfl
  | cons c l ih =>
    unfold fireSceneCues
    repeat' split
    · rfl
    · exact (fireCue_only c s).trans (ih _ _)
    · rfl
    · rfl

theorem fireDueSceneCues_only (s : State) : OnlyShow s (fireDueSceneCues s) := by
  unfold fireDueSceneCues
  split
  · rfl
  · exact fireSceneCues_only ..

theorem advanceScene_only (s : State) : OnlyShow s (advanceScene s) := by
  unfold advanceScene
  split
  · exact (OnlyShow.setCues s _).trans (fireDueSceneCues_only _)
  · exact .refl s

theorem enterScene_only (scene : Nat) (s : State) : OnlyShow s (enterScene scene s) := by
  have h (x : CueEngine) (b : Prop) [Decidable b] :
      OnlyShow s (if b then fireDueSceneCues (s.setCues x) else s.setCues x) := by
    split
    · exact (OnlyShow.setCues s x).trans (fireDueSceneCues_only _)
    · rfl
  exact h _ _

theorem cueMovement_only (before after : Nat) (forward wrap : Bool) (s : State) :
    OnlyShow s (cueMovement before after forward wrap s) := by
  have fired : OnlyShow s (if wrap then wrapCursor after s else fireFromCursor (reachedBy after) s) := by
    split
    · exact wrapCursor_only ..
    · exact fireFromCursor_only ..
  have scene (n : Nat) (t : State) (h : OnlyShow s t) : OnlyShow s (if n = t.cues.scene then t else enterScene n t) := by
    split
    · exact h
    · exact h.trans (enterScene_only n t)
  unfold cueMovement
  split
  · exact .refl s
  · split
    · exact scene _ _ fired
    · split <;> rfl

theorem dispatchScene_only (old : Mode) (s : State) : OnlyShow s (dispatchScene old s) := by
  unfold dispatchScene
  split
  · exact enterScene_only _ s
  · exact .refl s

theorem soundModeChange_only (old new : Mode) (s : State) : OnlyShow s (soundModeChange old new s) := by
  unfold soundModeChange soundEnterHold
  repeat' split
  all_goals rfl

theorem resyncVoice_only (s : State) (i : Fin 6) : OnlyShow s (resyncVoice s i) := by
  unfold resyncVoice
  dsimp only
  repeat' split
  all_goals rfl

theorem resyncAll_only (s : State) : OnlyShow s (resyncAll s) := .foldl resyncVoice_only _ s

/-! ## Permit, seats, steering -/

theorem endRelease_eq (s : State) : endRelease s = s.setRestraint (endRelease s).restraint := rfl

theorem judgeRelease_eq (s : State) : judgeRelease s = s.setRestraint (judgeRelease s).restraint := by
  unfold judgeRelease
  split <;> rfl

theorem fillEnergised_eq (s : State) : fillEnergised s = s.setRestraint (fillEnergised s).restraint := rfl

theorem formCeilings_eq (s : State) : formCeilings s = s.setPermit (formCeilings s).permit := rfl

theorem formAhead_eq (s : State) : formAhead s = s.setPermit (formAhead s).permit := by
  unfold formAhead
  split <;> rfl

theorem refreshPermit_eq (s : State) :
    refreshPermit s =
      ((s.setPermit (refreshPermit s).permit).setSteering (refreshPermit s).steering).setRestraint
        (refreshPermit s).restraint := by
  unfold refreshPermit
  dsimp only
  split
  · rfl
  · rw [judgeRelease_eq]; rfl

theorem steeringReact_eq (s : State) : steeringReact s = s.setSteering (steeringReact s).steering := rfl

theorem releaseAtModeChange_eq (old : Mode) (s : State) :
    releaseAtModeChange old s = s.setRestraint (releaseAtModeChange old s).restraint := by
  unfold releaseAtModeChange
  split
  · rfl
  · exact judgeRelease_eq s

theorem recordFault_eq (k : FaultKind) (sub : SubCause) (detail : Nat) (s : State) :
    recordFault k sub detail s = s.setPermit (recordFault k sub detail s).permit := rfl

/-! ## For simp -/

theorem OnlyShow.localMs (h : OnlyShow s t) : t.localMs = s.localMs := by rw [show t = _ from h]; rfl
theorem OnlyShow.pending (h : OnlyShow s t) : t.pending = s.pending := by rw [show t = _ from h]; rfl
theorem OnlyShow.startUp (h : OnlyShow s t) : t.startUp = s.startUp := by rw [show t = _ from h]; rfl
theorem OnlyShow.params (h : OnlyShow s t) : t.params = s.params := by rw [show t = _ from h]; rfl
theorem OnlyShow.tables (h : OnlyShow s t) : t.tables = s.tables := by rw [show t = _ from h]; rfl
theorem OnlyShow.wli (h : OnlyShow s t) : t.wli = s.wli := by rw [show t = _ from h]; rfl
theorem OnlyShow.dli (h : OnlyShow s t) : t.dli = s.dli := by rw [show t = _ from h]; rfl
theorem OnlyShow.mc (h : OnlyShow s t) : t.mc = s.mc := by rw [show t = _ from h]; rfl
theorem OnlyShow.tracker (h : OnlyShow s t) : t.tracker = s.tracker := by rw [show t = _ from h]; rfl
theorem OnlyShow.steering (h : OnlyShow s t) : t.steering = s.steering := by rw [show t = _ from h]; rfl
theorem OnlyShow.restraint (h : OnlyShow s t) : t.restraint = s.restraint := by rw [show t = _ from h]; rfl
theorem OnlyShow.clock (h : OnlyShow s t) : t.clock = s.clock := by rw [show t = _ from h]; rfl
theorem OnlyShow.store (h : OnlyShow s t) : t.store = s.store := by rw [show t = _ from h]; rfl
theorem OnlyShow.terminals (h : OnlyShow s t) : t.terminals = s.terminals := by rw [show t = _ from h]; rfl
theorem OnlyShow.density (h : OnlyShow s t) : t.density = s.density := by rw [show t = _ from h]; rfl
theorem OnlyShow.permit (h : OnlyShow s t) : t.permit = s.permit := by rw [show t = _ from h]; rfl
theorem OnlyShow.freeDraws (h : OnlyShow s t) : t.freeDraws = s.freeDraws := by rw [show t = _ from h]; rfl

variable (s : State)

@[simp] theorem fireAction_localMs (cue : Nat) (a : Action) : (fireAction cue s a).localMs = s.localMs := (fireAction_only cue s a).localMs
@[simp] theorem fireAction_pending (cue : Nat) (a : Action) : (fireAction cue s a).pending = s.pending := (fireAction_only cue s a).pending
@[simp] theorem fireAction_startUp (cue : Nat) (a : Action) : (fireAction cue s a).startUp = s.startUp := (fireAction_only cue s a).startUp
@[simp] theorem fireAction_params (cue : Nat) (a : Action) : (fireAction cue s a).params = s.params := (fireAction_only cue s a).params
@[simp] theorem fireAction_tables (cue : Nat) (a : Action) : (fireAction cue s a).tables = s.tables := (fireAction_only cue s a).tables
@[simp] theorem fireAction_wli (cue : Nat) (a : Action) : (fireAction cue s a).wli = s.wli := (fireAction_only cue s a).wli
@[simp] theorem fireAction_dli (cue : Nat) (a : Action) : (fireAction cue s a).dli = s.dli := (fireAction_only cue s a).dli
@[simp] theorem fireAction_mc (cue : Nat) (a : Action) : (fireAction cue s a).mc = s.mc := (fireAction_only cue s a).mc
@[simp] theorem fireAction_tracker (cue : Nat) (a : Action) : (fireAction cue s a).tracker = s.tracker := (fireAction_only cue s a).tracker
@[simp] theorem fireAction_steering (cue : Nat) (a : Action) : (fireAction cue s a).steering = s.steering := (fireAction_only cue s a).steering
@[simp] theorem fireAction_restraint (cue : Nat) (a : Action) : (fireAction cue s a).restraint = s.restraint := (fireAction_only cue s a).restraint
@[simp] theorem fireAction_clock (cue : Nat) (a : Action) : (fireAction cue s a).clock = s.clock := (fireAction_only cue s a).clock
@[simp] theorem fireAction_store (cue : Nat) (a : Action) : (fireAction cue s a).store = s.store := (fireAction_only cue s a).store
@[simp] theorem fireAction_terminals (cue : Nat) (a : Action) : (fireAction cue s a).terminals = s.terminals := (fireAction_only cue s a).terminals
@[simp] theorem fireAction_density (cue : Nat) (a : Action) : (fireAction cue s a).density = s.density := (fireAction_only cue s a).density
@[simp] theorem fireAction_permit (cue : Nat) (a : Action) : (fireAction cue s a).permit = s.permit := (fireAction_only cue s a).permit
@[simp] theorem fireAction_freeDraws (cue : Nat) (a : Action) : (fireAction cue s a).freeDraws = s.freeDraws := (fireAction_only cue s a).freeDraws

@[simp] theorem fireCue_localMs (c : Cue) : (fireCue c s).localMs = s.localMs := (fireCue_only c s).localMs
@[simp] theorem fireCue_pending (c : Cue) : (fireCue c s).pending = s.pending := (fireCue_only c s).pending
@[simp] theorem fireCue_startUp (c : Cue) : (fireCue c s).startUp = s.startUp := (fireCue_only c s).startUp
@[simp] theorem fireCue_params (c : Cue) : (fireCue c s).params = s.params := (fireCue_only c s).params
@[simp] theorem fireCue_tables (c : Cue) : (fireCue c s).tables = s.tables := (fireCue_only c s).tables
@[simp] theorem fireCue_wli (c : Cue) : (fireCue c s).wli = s.wli := (fireCue_only c s).wli
@[simp] theorem fireCue_dli (c : Cue) : (fireCue c s).dli = s.dli := (fireCue_only c s).dli
@[simp] theorem fireCue_mc (c : Cue) : (fireCue c s).mc = s.mc := (fireCue_only c s).mc
@[simp] theorem fireCue_tracker (c : Cue) : (fireCue c s).tracker = s.tracker := (fireCue_only c s).tracker
@[simp] theorem fireCue_steering (c : Cue) : (fireCue c s).steering = s.steering := (fireCue_only c s).steering
@[simp] theorem fireCue_restraint (c : Cue) : (fireCue c s).restraint = s.restraint := (fireCue_only c s).restraint
@[simp] theorem fireCue_clock (c : Cue) : (fireCue c s).clock = s.clock := (fireCue_only c s).clock
@[simp] theorem fireCue_store (c : Cue) : (fireCue c s).store = s.store := (fireCue_only c s).store
@[simp] theorem fireCue_terminals (c : Cue) : (fireCue c s).terminals = s.terminals := (fireCue_only c s).terminals
@[simp] theorem fireCue_density (c : Cue) : (fireCue c s).density = s.density := (fireCue_only c s).density
@[simp] theorem fireCue_permit (c : Cue) : (fireCue c s).permit = s.permit := (fireCue_only c s).permit
@[simp] theorem fireCue_freeDraws (c : Cue) : (fireCue c s).freeDraws = s.freeDraws := (fireCue_only c s).freeDraws

@[simp] theorem fireDueSceneCues_localMs : (fireDueSceneCues s).localMs = s.localMs := (fireDueSceneCues_only s).localMs
@[simp] theorem fireDueSceneCues_pending : (fireDueSceneCues s).pending = s.pending := (fireDueSceneCues_only s).pending
@[simp] theorem fireDueSceneCues_startUp : (fireDueSceneCues s).startUp = s.startUp := (fireDueSceneCues_only s).startUp
@[simp] theorem fireDueSceneCues_params : (fireDueSceneCues s).params = s.params := (fireDueSceneCues_only s).params
@[simp] theorem fireDueSceneCues_tables : (fireDueSceneCues s).tables = s.tables := (fireDueSceneCues_only s).tables
@[simp] theorem fireDueSceneCues_wli : (fireDueSceneCues s).wli = s.wli := (fireDueSceneCues_only s).wli
@[simp] theorem fireDueSceneCues_dli : (fireDueSceneCues s).dli = s.dli := (fireDueSceneCues_only s).dli
@[simp] theorem fireDueSceneCues_mc : (fireDueSceneCues s).mc = s.mc := (fireDueSceneCues_only s).mc
@[simp] theorem fireDueSceneCues_tracker : (fireDueSceneCues s).tracker = s.tracker := (fireDueSceneCues_only s).tracker
@[simp] theorem fireDueSceneCues_steering : (fireDueSceneCues s).steering = s.steering := (fireDueSceneCues_only s).steering
@[simp] theorem fireDueSceneCues_restraint : (fireDueSceneCues s).restraint = s.restraint := (fireDueSceneCues_only s).restraint
@[simp] theorem fireDueSceneCues_clock : (fireDueSceneCues s).clock = s.clock := (fireDueSceneCues_only s).clock
@[simp] theorem fireDueSceneCues_store : (fireDueSceneCues s).store = s.store := (fireDueSceneCues_only s).store
@[simp] theorem fireDueSceneCues_terminals : (fireDueSceneCues s).terminals = s.terminals := (fireDueSceneCues_only s).terminals
@[simp] theorem fireDueSceneCues_density : (fireDueSceneCues s).density = s.density := (fireDueSceneCues_only s).density
@[simp] theorem fireDueSceneCues_permit : (fireDueSceneCues s).permit = s.permit := (fireDueSceneCues_only s).permit
@[simp] theorem fireDueSceneCues_freeDraws : (fireDueSceneCues s).freeDraws = s.freeDraws := (fireDueSceneCues_only s).freeDraws

@[simp] theorem enterScene_localMs (n : Nat) : (enterScene n s).localMs = s.localMs := (enterScene_only n s).localMs
@[simp] theorem enterScene_pending (n : Nat) : (enterScene n s).pending = s.pending := (enterScene_only n s).pending
@[simp] theorem enterScene_startUp (n : Nat) : (enterScene n s).startUp = s.startUp := (enterScene_only n s).startUp
@[simp] theorem enterScene_params (n : Nat) : (enterScene n s).params = s.params := (enterScene_only n s).params
@[simp] theorem enterScene_tables (n : Nat) : (enterScene n s).tables = s.tables := (enterScene_only n s).tables
@[simp] theorem enterScene_wli (n : Nat) : (enterScene n s).wli = s.wli := (enterScene_only n s).wli
@[simp] theorem enterScene_dli (n : Nat) : (enterScene n s).dli = s.dli := (enterScene_only n s).dli
@[simp] theorem enterScene_mc (n : Nat) : (enterScene n s).mc = s.mc := (enterScene_only n s).mc
@[simp] theorem enterScene_tracker (n : Nat) : (enterScene n s).tracker = s.tracker := (enterScene_only n s).tracker
@[simp] theorem enterScene_steering (n : Nat) : (enterScene n s).steering = s.steering := (enterScene_only n s).steering
@[simp] theorem enterScene_restraint (n : Nat) : (enterScene n s).restraint = s.restraint := (enterScene_only n s).restraint
@[simp] theorem enterScene_clock (n : Nat) : (enterScene n s).clock = s.clock := (enterScene_only n s).clock
@[simp] theorem enterScene_store (n : Nat) : (enterScene n s).store = s.store := (enterScene_only n s).store
@[simp] theorem enterScene_terminals (n : Nat) : (enterScene n s).terminals = s.terminals := (enterScene_only n s).terminals
@[simp] theorem enterScene_density (n : Nat) : (enterScene n s).density = s.density := (enterScene_only n s).density
@[simp] theorem enterScene_permit (n : Nat) : (enterScene n s).permit = s.permit := (enterScene_only n s).permit
@[simp] theorem enterScene_freeDraws (n : Nat) : (enterScene n s).freeDraws = s.freeDraws := (enterScene_only n s).freeDraws

@[simp] theorem placeCursor_localMs : (placeCursor s).localMs = s.localMs := (placeCursor_only s).localMs
@[simp] theorem placeCursor_pending : (placeCursor s).pending = s.pending := (placeCursor_only s).pending
@[simp] theorem placeCursor_startUp : (placeCursor s).startUp = s.startUp := (placeCursor_only s).startUp
@[simp] theorem placeCursor_params : (placeCursor s).params = s.params := (placeCursor_only s).params
@[simp] theorem placeCursor_tables : (placeCursor s).tables = s.tables := (placeCursor_only s).tables
@[simp] theorem placeCursor_wli : (placeCursor s).wli = s.wli := (placeCursor_only s).wli
@[simp] theorem placeCursor_dli : (placeCursor s).dli = s.dli := (placeCursor_only s).dli
@[simp] theorem placeCursor_mc : (placeCursor s).mc = s.mc := (placeCursor_only s).mc
@[simp] theorem placeCursor_tracker : (placeCursor s).tracker = s.tracker := (placeCursor_only s).tracker
@[simp] theorem placeCursor_steering : (placeCursor s).steering = s.steering := (placeCursor_only s).steering
@[simp] theorem placeCursor_restraint : (placeCursor s).restraint = s.restraint := (placeCursor_only s).restraint
@[simp] theorem placeCursor_clock : (placeCursor s).clock = s.clock := (placeCursor_only s).clock
@[simp] theorem placeCursor_store : (placeCursor s).store = s.store := (placeCursor_only s).store
@[simp] theorem placeCursor_terminals : (placeCursor s).terminals = s.terminals := (placeCursor_only s).terminals
@[simp] theorem placeCursor_density : (placeCursor s).density = s.density := (placeCursor_only s).density
@[simp] theorem placeCursor_permit : (placeCursor s).permit = s.permit := (placeCursor_only s).permit
@[simp] theorem placeCursor_freeDraws : (placeCursor s).freeDraws = s.freeDraws := (placeCursor_only s).freeDraws

@[simp] theorem cueMovement_localMs (a b : Nat) (f w : Bool) : (cueMovement a b f w s).localMs = s.localMs := (cueMovement_only a b f w s).localMs
@[simp] theorem cueMovement_pending (a b : Nat) (f w : Bool) : (cueMovement a b f w s).pending = s.pending := (cueMovement_only a b f w s).pending
@[simp] theorem cueMovement_startUp (a b : Nat) (f w : Bool) : (cueMovement a b f w s).startUp = s.startUp := (cueMovement_only a b f w s).startUp
@[simp] theorem cueMovement_params (a b : Nat) (f w : Bool) : (cueMovement a b f w s).params = s.params := (cueMovement_only a b f w s).params
@[simp] theorem cueMovement_tables (a b : Nat) (f w : Bool) : (cueMovement a b f w s).tables = s.tables := (cueMovement_only a b f w s).tables
@[simp] theorem cueMovement_wli (a b : Nat) (f w : Bool) : (cueMovement a b f w s).wli = s.wli := (cueMovement_only a b f w s).wli
@[simp] theorem cueMovement_dli (a b : Nat) (f w : Bool) : (cueMovement a b f w s).dli = s.dli := (cueMovement_only a b f w s).dli
@[simp] theorem cueMovement_mc (a b : Nat) (f w : Bool) : (cueMovement a b f w s).mc = s.mc := (cueMovement_only a b f w s).mc
@[simp] theorem cueMovement_tracker (a b : Nat) (f w : Bool) : (cueMovement a b f w s).tracker = s.tracker := (cueMovement_only a b f w s).tracker
@[simp] theorem cueMovement_steering (a b : Nat) (f w : Bool) : (cueMovement a b f w s).steering = s.steering := (cueMovement_only a b f w s).steering
@[simp] theorem cueMovement_restraint (a b : Nat) (f w : Bool) : (cueMovement a b f w s).restraint = s.restraint := (cueMovement_only a b f w s).restraint
@[simp] theorem cueMovement_clock (a b : Nat) (f w : Bool) : (cueMovement a b f w s).clock = s.clock := (cueMovement_only a b f w s).clock
@[simp] theorem cueMovement_store (a b : Nat) (f w : Bool) : (cueMovement a b f w s).store = s.store := (cueMovement_only a b f w s).store
@[simp] theorem cueMovement_terminals (a b : Nat) (f w : Bool) : (cueMovement a b f w s).terminals = s.terminals := (cueMovement_only a b f w s).terminals
@[simp] theorem cueMovement_density (a b : Nat) (f w : Bool) : (cueMovement a b f w s).density = s.density := (cueMovement_only a b f w s).density
@[simp] theorem cueMovement_permit (a b : Nat) (f w : Bool) : (cueMovement a b f w s).permit = s.permit := (cueMovement_only a b f w s).permit
@[simp] theorem cueMovement_freeDraws (a b : Nat) (f w : Bool) : (cueMovement a b f w s).freeDraws = s.freeDraws := (cueMovement_only a b f w s).freeDraws

@[simp] theorem dispatchScene_localMs (old : Mode) : (dispatchScene old s).localMs = s.localMs := (dispatchScene_only old s).localMs
@[simp] theorem dispatchScene_pending (old : Mode) : (dispatchScene old s).pending = s.pending := (dispatchScene_only old s).pending
@[simp] theorem dispatchScene_startUp (old : Mode) : (dispatchScene old s).startUp = s.startUp := (dispatchScene_only old s).startUp
@[simp] theorem dispatchScene_params (old : Mode) : (dispatchScene old s).params = s.params := (dispatchScene_only old s).params
@[simp] theorem dispatchScene_tables (old : Mode) : (dispatchScene old s).tables = s.tables := (dispatchScene_only old s).tables
@[simp] theorem dispatchScene_wli (old : Mode) : (dispatchScene old s).wli = s.wli := (dispatchScene_only old s).wli
@[simp] theorem dispatchScene_dli (old : Mode) : (dispatchScene old s).dli = s.dli := (dispatchScene_only old s).dli
@[simp] theorem dispatchScene_mc (old : Mode) : (dispatchScene old s).mc = s.mc := (dispatchScene_only old s).mc
@[simp] theorem dispatchScene_tracker (old : Mode) : (dispatchScene old s).tracker = s.tracker := (dispatchScene_only old s).tracker
@[simp] theorem dispatchScene_steering (old : Mode) : (dispatchScene old s).steering = s.steering := (dispatchScene_only old s).steering
@[simp] theorem dispatchScene_restraint (old : Mode) : (dispatchScene old s).restraint = s.restraint := (dispatchScene_only old s).restraint
@[simp] theorem dispatchScene_clock (old : Mode) : (dispatchScene old s).clock = s.clock := (dispatchScene_only old s).clock
@[simp] theorem dispatchScene_store (old : Mode) : (dispatchScene old s).store = s.store := (dispatchScene_only old s).store
@[simp] theorem dispatchScene_terminals (old : Mode) : (dispatchScene old s).terminals = s.terminals := (dispatchScene_only old s).terminals
@[simp] theorem dispatchScene_density (old : Mode) : (dispatchScene old s).density = s.density := (dispatchScene_only old s).density
@[simp] theorem dispatchScene_permit (old : Mode) : (dispatchScene old s).permit = s.permit := (dispatchScene_only old s).permit
@[simp] theorem dispatchScene_freeDraws (old : Mode) : (dispatchScene old s).freeDraws = s.freeDraws := (dispatchScene_only old s).freeDraws

@[simp] theorem soundModeChange_localMs (old new : Mode) : (soundModeChange old new s).localMs = s.localMs := (soundModeChange_only old new s).localMs
@[simp] theorem soundModeChange_pending (old new : Mode) : (soundModeChange old new s).pending = s.pending := (soundModeChange_only old new s).pending
@[simp] theorem soundModeChange_startUp (old new : Mode) : (soundModeChange old new s).startUp = s.startUp := (soundModeChange_only old new s).startUp
@[simp] theorem soundModeChange_params (old new : Mode) : (soundModeChange old new s).params = s.params := (soundModeChange_only old new s).params
@[simp] theorem soundModeChange_tables (old new : Mode) : (soundModeChange old new s).tables = s.tables := (soundModeChange_only old new s).tables
@[simp] theorem soundModeChange_wli (old new : Mode) : (soundModeChange old new s).wli = s.wli := (soundModeChange_only old new s).wli
@[simp] theorem soundModeChange_dli (old new : Mode) : (soundModeChange old new s).dli = s.dli := (soundModeChange_only old new s).dli
@[simp] theorem soundModeChange_mc (old new : Mode) : (soundModeChange old new s).mc = s.mc := (soundModeChange_only old new s).mc
@[simp] theorem soundModeChange_tracker (old new : Mode) : (soundModeChange old new s).tracker = s.tracker := (soundModeChange_only old new s).tracker
@[simp] theorem soundModeChange_steering (old new : Mode) : (soundModeChange old new s).steering = s.steering := (soundModeChange_only old new s).steering
@[simp] theorem soundModeChange_restraint (old new : Mode) : (soundModeChange old new s).restraint = s.restraint := (soundModeChange_only old new s).restraint
@[simp] theorem soundModeChange_clock (old new : Mode) : (soundModeChange old new s).clock = s.clock := (soundModeChange_only old new s).clock
@[simp] theorem soundModeChange_store (old new : Mode) : (soundModeChange old new s).store = s.store := (soundModeChange_only old new s).store
@[simp] theorem soundModeChange_terminals (old new : Mode) : (soundModeChange old new s).terminals = s.terminals := (soundModeChange_only old new s).terminals
@[simp] theorem soundModeChange_density (old new : Mode) : (soundModeChange old new s).density = s.density := (soundModeChange_only old new s).density
@[simp] theorem soundModeChange_permit (old new : Mode) : (soundModeChange old new s).permit = s.permit := (soundModeChange_only old new s).permit
@[simp] theorem soundModeChange_freeDraws (old new : Mode) : (soundModeChange old new s).freeDraws = s.freeDraws := (soundModeChange_only old new s).freeDraws

@[simp] theorem resyncAll_localMs : (resyncAll s).localMs = s.localMs := (resyncAll_only s).localMs
@[simp] theorem resyncAll_pending : (resyncAll s).pending = s.pending := (resyncAll_only s).pending
@[simp] theorem resyncAll_startUp : (resyncAll s).startUp = s.startUp := (resyncAll_only s).startUp
@[simp] theorem resyncAll_params : (resyncAll s).params = s.params := (resyncAll_only s).params
@[simp] theorem resyncAll_tables : (resyncAll s).tables = s.tables := (resyncAll_only s).tables
@[simp] theorem resyncAll_wli : (resyncAll s).wli = s.wli := (resyncAll_only s).wli
@[simp] theorem resyncAll_dli : (resyncAll s).dli = s.dli := (resyncAll_only s).dli
@[simp] theorem resyncAll_mc : (resyncAll s).mc = s.mc := (resyncAll_only s).mc
@[simp] theorem resyncAll_tracker : (resyncAll s).tracker = s.tracker := (resyncAll_only s).tracker
@[simp] theorem resyncAll_steering : (resyncAll s).steering = s.steering := (resyncAll_only s).steering
@[simp] theorem resyncAll_restraint : (resyncAll s).restraint = s.restraint := (resyncAll_only s).restraint
@[simp] theorem resyncAll_clock : (resyncAll s).clock = s.clock := (resyncAll_only s).clock
@[simp] theorem resyncAll_store : (resyncAll s).store = s.store := (resyncAll_only s).store
@[simp] theorem resyncAll_terminals : (resyncAll s).terminals = s.terminals := (resyncAll_only s).terminals
@[simp] theorem resyncAll_density : (resyncAll s).density = s.density := (resyncAll_only s).density
@[simp] theorem resyncAll_permit : (resyncAll s).permit = s.permit := (resyncAll_only s).permit
@[simp] theorem resyncAll_freeDraws : (resyncAll s).freeDraws = s.freeDraws := (resyncAll_only s).freeDraws

@[simp] theorem endRelease_localMs : (endRelease s).localMs = s.localMs := by rw [endRelease_eq]; rfl
@[simp] theorem endRelease_pending : (endRelease s).pending = s.pending := by rw [endRelease_eq]; rfl
@[simp] theorem endRelease_startUp : (endRelease s).startUp = s.startUp := by rw [endRelease_eq]; rfl
@[simp] theorem endRelease_params : (endRelease s).params = s.params := by rw [endRelease_eq]; rfl
@[simp] theorem endRelease_tables : (endRelease s).tables = s.tables := by rw [endRelease_eq]; rfl
@[simp] theorem endRelease_wli : (endRelease s).wli = s.wli := by rw [endRelease_eq]; rfl
@[simp] theorem endRelease_dli : (endRelease s).dli = s.dli := by rw [endRelease_eq]; rfl
@[simp] theorem endRelease_mc : (endRelease s).mc = s.mc := by rw [endRelease_eq]; rfl
@[simp] theorem endRelease_tracker : (endRelease s).tracker = s.tracker := by rw [endRelease_eq]; rfl
@[simp] theorem endRelease_steering : (endRelease s).steering = s.steering := by rw [endRelease_eq]; rfl
@[simp] theorem endRelease_cues : (endRelease s).cues = s.cues := by rw [endRelease_eq]; rfl
@[simp] theorem endRelease_clock : (endRelease s).clock = s.clock := by rw [endRelease_eq]; rfl
@[simp] theorem endRelease_sound : (endRelease s).sound = s.sound := by rw [endRelease_eq]; rfl
@[simp] theorem endRelease_store : (endRelease s).store = s.store := by rw [endRelease_eq]; rfl
@[simp] theorem endRelease_terminals : (endRelease s).terminals = s.terminals := by rw [endRelease_eq]; rfl
@[simp] theorem endRelease_density : (endRelease s).density = s.density := by rw [endRelease_eq]; rfl
@[simp] theorem endRelease_permit : (endRelease s).permit = s.permit := by rw [endRelease_eq]; rfl
@[simp] theorem endRelease_freeDraws : (endRelease s).freeDraws = s.freeDraws := by rw [endRelease_eq]; rfl

@[simp] theorem judgeRelease_localMs : (judgeRelease s).localMs = s.localMs := by rw [judgeRelease_eq]; rfl
@[simp] theorem judgeRelease_pending : (judgeRelease s).pending = s.pending := by rw [judgeRelease_eq]; rfl
@[simp] theorem judgeRelease_startUp : (judgeRelease s).startUp = s.startUp := by rw [judgeRelease_eq]; rfl
@[simp] theorem judgeRelease_params : (judgeRelease s).params = s.params := by rw [judgeRelease_eq]; rfl
@[simp] theorem judgeRelease_tables : (judgeRelease s).tables = s.tables := by rw [judgeRelease_eq]; rfl
@[simp] theorem judgeRelease_wli : (judgeRelease s).wli = s.wli := by rw [judgeRelease_eq]; rfl
@[simp] theorem judgeRelease_dli : (judgeRelease s).dli = s.dli := by rw [judgeRelease_eq]; rfl
@[simp] theorem judgeRelease_mc : (judgeRelease s).mc = s.mc := by rw [judgeRelease_eq]; rfl
@[simp] theorem judgeRelease_tracker : (judgeRelease s).tracker = s.tracker := by rw [judgeRelease_eq]; rfl
@[simp] theorem judgeRelease_steering : (judgeRelease s).steering = s.steering := by rw [judgeRelease_eq]; rfl
@[simp] theorem judgeRelease_cues : (judgeRelease s).cues = s.cues := by rw [judgeRelease_eq]; rfl
@[simp] theorem judgeRelease_clock : (judgeRelease s).clock = s.clock := by rw [judgeRelease_eq]; rfl
@[simp] theorem judgeRelease_sound : (judgeRelease s).sound = s.sound := by rw [judgeRelease_eq]; rfl
@[simp] theorem judgeRelease_store : (judgeRelease s).store = s.store := by rw [judgeRelease_eq]; rfl
@[simp] theorem judgeRelease_terminals : (judgeRelease s).terminals = s.terminals := by rw [judgeRelease_eq]; rfl
@[simp] theorem judgeRelease_density : (judgeRelease s).density = s.density := by rw [judgeRelease_eq]; rfl
@[simp] theorem judgeRelease_permit : (judgeRelease s).permit = s.permit := by rw [judgeRelease_eq]; rfl
@[simp] theorem judgeRelease_freeDraws : (judgeRelease s).freeDraws = s.freeDraws := by rw [judgeRelease_eq]; rfl

@[simp] theorem fillEnergised_localMs : (fillEnergised s).localMs = s.localMs := by rw [fillEnergised_eq]; rfl
@[simp] theorem fillEnergised_pending : (fillEnergised s).pending = s.pending := by rw [fillEnergised_eq]; rfl
@[simp] theorem fillEnergised_startUp : (fillEnergised s).startUp = s.startUp := by rw [fillEnergised_eq]; rfl
@[simp] theorem fillEnergised_params : (fillEnergised s).params = s.params := by rw [fillEnergised_eq]; rfl
@[simp] theorem fillEnergised_tables : (fillEnergised s).tables = s.tables := by rw [fillEnergised_eq]; rfl
@[simp] theorem fillEnergised_wli : (fillEnergised s).wli = s.wli := by rw [fillEnergised_eq]; rfl
@[simp] theorem fillEnergised_dli : (fillEnergised s).dli = s.dli := by rw [fillEnergised_eq]; rfl
@[simp] theorem fillEnergised_mc : (fillEnergised s).mc = s.mc := by rw [fillEnergised_eq]; rfl
@[simp] theorem fillEnergised_tracker : (fillEnergised s).tracker = s.tracker := by rw [fillEnergised_eq]; rfl
@[simp] theorem fillEnergised_steering : (fillEnergised s).steering = s.steering := by rw [fillEnergised_eq]; rfl
@[simp] theorem fillEnergised_cues : (fillEnergised s).cues = s.cues := by rw [fillEnergised_eq]; rfl
@[simp] theorem fillEnergised_clock : (fillEnergised s).clock = s.clock := by rw [fillEnergised_eq]; rfl
@[simp] theorem fillEnergised_sound : (fillEnergised s).sound = s.sound := by rw [fillEnergised_eq]; rfl
@[simp] theorem fillEnergised_store : (fillEnergised s).store = s.store := by rw [fillEnergised_eq]; rfl
@[simp] theorem fillEnergised_terminals : (fillEnergised s).terminals = s.terminals := by rw [fillEnergised_eq]; rfl
@[simp] theorem fillEnergised_density : (fillEnergised s).density = s.density := by rw [fillEnergised_eq]; rfl
@[simp] theorem fillEnergised_permit : (fillEnergised s).permit = s.permit := by rw [fillEnergised_eq]; rfl
@[simp] theorem fillEnergised_freeDraws : (fillEnergised s).freeDraws = s.freeDraws := by rw [fillEnergised_eq]; rfl

@[simp] theorem formCeilings_localMs : (formCeilings s).localMs = s.localMs := by rw [formCeilings_eq]; rfl
@[simp] theorem formCeilings_pending : (formCeilings s).pending = s.pending := by rw [formCeilings_eq]; rfl
@[simp] theorem formCeilings_startUp : (formCeilings s).startUp = s.startUp := by rw [formCeilings_eq]; rfl
@[simp] theorem formCeilings_params : (formCeilings s).params = s.params := by rw [formCeilings_eq]; rfl
@[simp] theorem formCeilings_tables : (formCeilings s).tables = s.tables := by rw [formCeilings_eq]; rfl
@[simp] theorem formCeilings_wli : (formCeilings s).wli = s.wli := by rw [formCeilings_eq]; rfl
@[simp] theorem formCeilings_dli : (formCeilings s).dli = s.dli := by rw [formCeilings_eq]; rfl
@[simp] theorem formCeilings_mc : (formCeilings s).mc = s.mc := by rw [formCeilings_eq]; rfl
@[simp] theorem formCeilings_tracker : (formCeilings s).tracker = s.tracker := by rw [formCeilings_eq]; rfl
@[simp] theorem formCeilings_steering : (formCeilings s).steering = s.steering := by rw [formCeilings_eq]; rfl
@[simp] theorem formCeilings_restraint : (formCeilings s).restraint = s.restraint := by rw [formCeilings_eq]; rfl
@[simp] theorem formCeilings_cues : (formCeilings s).cues = s.cues := by rw [formCeilings_eq]; rfl
@[simp] theorem formCeilings_clock : (formCeilings s).clock = s.clock := by rw [formCeilings_eq]; rfl
@[simp] theorem formCeilings_sound : (formCeilings s).sound = s.sound := by rw [formCeilings_eq]; rfl
@[simp] theorem formCeilings_store : (formCeilings s).store = s.store := by rw [formCeilings_eq]; rfl
@[simp] theorem formCeilings_terminals : (formCeilings s).terminals = s.terminals := by rw [formCeilings_eq]; rfl
@[simp] theorem formCeilings_density : (formCeilings s).density = s.density := by rw [formCeilings_eq]; rfl
@[simp] theorem formCeilings_freeDraws : (formCeilings s).freeDraws = s.freeDraws := by rw [formCeilings_eq]; rfl

@[simp] theorem formAhead_localMs : (formAhead s).localMs = s.localMs := by rw [formAhead_eq]; rfl
@[simp] theorem formAhead_pending : (formAhead s).pending = s.pending := by rw [formAhead_eq]; rfl
@[simp] theorem formAhead_startUp : (formAhead s).startUp = s.startUp := by rw [formAhead_eq]; rfl
@[simp] theorem formAhead_params : (formAhead s).params = s.params := by rw [formAhead_eq]; rfl
@[simp] theorem formAhead_tables : (formAhead s).tables = s.tables := by rw [formAhead_eq]; rfl
@[simp] theorem formAhead_wli : (formAhead s).wli = s.wli := by rw [formAhead_eq]; rfl
@[simp] theorem formAhead_dli : (formAhead s).dli = s.dli := by rw [formAhead_eq]; rfl
@[simp] theorem formAhead_mc : (formAhead s).mc = s.mc := by rw [formAhead_eq]; rfl
@[simp] theorem formAhead_tracker : (formAhead s).tracker = s.tracker := by rw [formAhead_eq]; rfl
@[simp] theorem formAhead_steering : (formAhead s).steering = s.steering := by rw [formAhead_eq]; rfl
@[simp] theorem formAhead_restraint : (formAhead s).restraint = s.restraint := by rw [formAhead_eq]; rfl
@[simp] theorem formAhead_cues : (formAhead s).cues = s.cues := by rw [formAhead_eq]; rfl
@[simp] theorem formAhead_clock : (formAhead s).clock = s.clock := by rw [formAhead_eq]; rfl
@[simp] theorem formAhead_sound : (formAhead s).sound = s.sound := by rw [formAhead_eq]; rfl
@[simp] theorem formAhead_store : (formAhead s).store = s.store := by rw [formAhead_eq]; rfl
@[simp] theorem formAhead_terminals : (formAhead s).terminals = s.terminals := by rw [formAhead_eq]; rfl
@[simp] theorem formAhead_density : (formAhead s).density = s.density := by rw [formAhead_eq]; rfl
@[simp] theorem formAhead_freeDraws : (formAhead s).freeDraws = s.freeDraws := by rw [formAhead_eq]; rfl

@[simp] theorem refreshPermit_localMs : (refreshPermit s).localMs = s.localMs := by rw [refreshPermit_eq]; rfl
@[simp] theorem refreshPermit_pending : (refreshPermit s).pending = s.pending := by rw [refreshPermit_eq]; rfl
@[simp] theorem refreshPermit_startUp : (refreshPermit s).startUp = s.startUp := by rw [refreshPermit_eq]; rfl
@[simp] theorem refreshPermit_params : (refreshPermit s).params = s.params := by rw [refreshPermit_eq]; rfl
@[simp] theorem refreshPermit_tables : (refreshPermit s).tables = s.tables := by rw [refreshPermit_eq]; rfl
@[simp] theorem refreshPermit_wli : (refreshPermit s).wli = s.wli := by rw [refreshPermit_eq]; rfl
@[simp] theorem refreshPermit_dli : (refreshPermit s).dli = s.dli := by rw [refreshPermit_eq]; rfl
@[simp] theorem refreshPermit_mc : (refreshPermit s).mc = s.mc := by rw [refreshPermit_eq]; rfl
@[simp] theorem refreshPermit_tracker : (refreshPermit s).tracker = s.tracker := by rw [refreshPermit_eq]; rfl
@[simp] theorem refreshPermit_cues : (refreshPermit s).cues = s.cues := by rw [refreshPermit_eq]; rfl
@[simp] theorem refreshPermit_clock : (refreshPermit s).clock = s.clock := by rw [refreshPermit_eq]; rfl
@[simp] theorem refreshPermit_sound : (refreshPermit s).sound = s.sound := by rw [refreshPermit_eq]; rfl
@[simp] theorem refreshPermit_store : (refreshPermit s).store = s.store := by rw [refreshPermit_eq]; rfl
@[simp] theorem refreshPermit_terminals : (refreshPermit s).terminals = s.terminals := by rw [refreshPermit_eq]; rfl
@[simp] theorem refreshPermit_density : (refreshPermit s).density = s.density := by rw [refreshPermit_eq]; rfl
@[simp] theorem refreshPermit_freeDraws : (refreshPermit s).freeDraws = s.freeDraws := by rw [refreshPermit_eq]; rfl

@[simp] theorem releaseAtModeChange_localMs (old : Mode) : (releaseAtModeChange old s).localMs = s.localMs := by rw [releaseAtModeChange_eq]; rfl
@[simp] theorem releaseAtModeChange_pending (old : Mode) : (releaseAtModeChange old s).pending = s.pending := by rw [releaseAtModeChange_eq]; rfl
@[simp] theorem releaseAtModeChange_startUp (old : Mode) : (releaseAtModeChange old s).startUp = s.startUp := by rw [releaseAtModeChange_eq]; rfl
@[simp] theorem releaseAtModeChange_params (old : Mode) : (releaseAtModeChange old s).params = s.params := by rw [releaseAtModeChange_eq]; rfl
@[simp] theorem releaseAtModeChange_tables (old : Mode) : (releaseAtModeChange old s).tables = s.tables := by rw [releaseAtModeChange_eq]; rfl
@[simp] theorem releaseAtModeChange_wli (old : Mode) : (releaseAtModeChange old s).wli = s.wli := by rw [releaseAtModeChange_eq]; rfl
@[simp] theorem releaseAtModeChange_dli (old : Mode) : (releaseAtModeChange old s).dli = s.dli := by rw [releaseAtModeChange_eq]; rfl
@[simp] theorem releaseAtModeChange_mc (old : Mode) : (releaseAtModeChange old s).mc = s.mc := by rw [releaseAtModeChange_eq]; rfl
@[simp] theorem releaseAtModeChange_tracker (old : Mode) : (releaseAtModeChange old s).tracker = s.tracker := by rw [releaseAtModeChange_eq]; rfl
@[simp] theorem releaseAtModeChange_steering (old : Mode) : (releaseAtModeChange old s).steering = s.steering := by rw [releaseAtModeChange_eq]; rfl
@[simp] theorem releaseAtModeChange_cues (old : Mode) : (releaseAtModeChange old s).cues = s.cues := by rw [releaseAtModeChange_eq]; rfl
@[simp] theorem releaseAtModeChange_clock (old : Mode) : (releaseAtModeChange old s).clock = s.clock := by rw [releaseAtModeChange_eq]; rfl
@[simp] theorem releaseAtModeChange_sound (old : Mode) : (releaseAtModeChange old s).sound = s.sound := by rw [releaseAtModeChange_eq]; rfl
@[simp] theorem releaseAtModeChange_store (old : Mode) : (releaseAtModeChange old s).store = s.store := by rw [releaseAtModeChange_eq]; rfl
@[simp] theorem releaseAtModeChange_terminals (old : Mode) : (releaseAtModeChange old s).terminals = s.terminals := by rw [releaseAtModeChange_eq]; rfl
@[simp] theorem releaseAtModeChange_density (old : Mode) : (releaseAtModeChange old s).density = s.density := by rw [releaseAtModeChange_eq]; rfl
@[simp] theorem releaseAtModeChange_permit (old : Mode) : (releaseAtModeChange old s).permit = s.permit := by rw [releaseAtModeChange_eq]; rfl
@[simp] theorem releaseAtModeChange_freeDraws (old : Mode) : (releaseAtModeChange old s).freeDraws = s.freeDraws := by rw [releaseAtModeChange_eq]; rfl

@[simp] theorem recordFault_localMs (k : FaultKind) (sub : SubCause) (d : Nat) : (recordFault k sub d s).localMs = s.localMs := by rw [recordFault_eq]; rfl
@[simp] theorem recordFault_pending (k : FaultKind) (sub : SubCause) (d : Nat) : (recordFault k sub d s).pending = s.pending := by rw [recordFault_eq]; rfl
@[simp] theorem recordFault_startUp (k : FaultKind) (sub : SubCause) (d : Nat) : (recordFault k sub d s).startUp = s.startUp := by rw [recordFault_eq]; rfl
@[simp] theorem recordFault_params (k : FaultKind) (sub : SubCause) (d : Nat) : (recordFault k sub d s).params = s.params := by rw [recordFault_eq]; rfl
@[simp] theorem recordFault_tables (k : FaultKind) (sub : SubCause) (d : Nat) : (recordFault k sub d s).tables = s.tables := by rw [recordFault_eq]; rfl
@[simp] theorem recordFault_wli (k : FaultKind) (sub : SubCause) (d : Nat) : (recordFault k sub d s).wli = s.wli := by rw [recordFault_eq]; rfl
@[simp] theorem recordFault_dli (k : FaultKind) (sub : SubCause) (d : Nat) : (recordFault k sub d s).dli = s.dli := by rw [recordFault_eq]; rfl
@[simp] theorem recordFault_mc (k : FaultKind) (sub : SubCause) (d : Nat) : (recordFault k sub d s).mc = s.mc := by rw [recordFault_eq]; rfl
@[simp] theorem recordFault_tracker (k : FaultKind) (sub : SubCause) (d : Nat) : (recordFault k sub d s).tracker = s.tracker := by rw [recordFault_eq]; rfl
@[simp] theorem recordFault_steering (k : FaultKind) (sub : SubCause) (d : Nat) : (recordFault k sub d s).steering = s.steering := by rw [recordFault_eq]; rfl
@[simp] theorem recordFault_restraint (k : FaultKind) (sub : SubCause) (d : Nat) : (recordFault k sub d s).restraint = s.restraint := by rw [recordFault_eq]; rfl
@[simp] theorem recordFault_cues (k : FaultKind) (sub : SubCause) (d : Nat) : (recordFault k sub d s).cues = s.cues := by rw [recordFault_eq]; rfl
@[simp] theorem recordFault_clock (k : FaultKind) (sub : SubCause) (d : Nat) : (recordFault k sub d s).clock = s.clock := by rw [recordFault_eq]; rfl
@[simp] theorem recordFault_sound (k : FaultKind) (sub : SubCause) (d : Nat) : (recordFault k sub d s).sound = s.sound := by rw [recordFault_eq]; rfl
@[simp] theorem recordFault_store (k : FaultKind) (sub : SubCause) (d : Nat) : (recordFault k sub d s).store = s.store := by rw [recordFault_eq]; rfl
@[simp] theorem recordFault_terminals (k : FaultKind) (sub : SubCause) (d : Nat) : (recordFault k sub d s).terminals = s.terminals := by rw [recordFault_eq]; rfl
@[simp] theorem recordFault_density (k : FaultKind) (sub : SubCause) (d : Nat) : (recordFault k sub d s).density = s.density := by rw [recordFault_eq]; rfl
@[simp] theorem recordFault_freeDraws (k : FaultKind) (sub : SubCause) (d : Nat) : (recordFault k sub d s).freeDraws = s.freeDraws := by rw [recordFault_eq]; rfl

end Sys2Proof.Machine
end

