-- ==== Sys2Proof/Laws/Bytes.lean ====
section
/-! SUPPORT. Fields of bytes as numbers, and enumerated fields read back from their codes. -/

namespace Sys2Proof.Machine

theorem beNat_one (a : Byte) : beNat [a] = a.toNat := by simp [beNat]

theorem beNat_two (a b : Byte) : beNat [a, b] = 256 * a.toNat + b.toNat := by simp [beNat]; omega

theorem beNat_three (a b c : Byte) : beNat [a, b, c] = 65536 * a.toNat + 256 * b.toNat + c.toNat := by
  simp [beNat]; omega

theorem beNat_four (a b c d : Byte) :
    beNat [a, b, c, d] = 16777216 * a.toNat + 65536 * b.toNat + 256 * c.toNat + d.toNat := by
  simp [beNat]; omega

theorem be2_length (n : Nat) : (be2 n).length = 2 := rfl
theorem be3_length (n : Nat) : (be3 n).length = 3 := rfl
theorem be4_length (n : Nat) : (be4 n).length = 4 := rfl

theorem beNat_be2 {n : Nat} (h : n < 65536) : beNat (be2 n) = n := by
  rw [be2, beNat_two]; simp only [BitVec.toNat_ofNat]; omega

theorem beNat_be3 {n : Nat} (h : n < 16777216) : beNat (be3 n) = n := by
  rw [be3, beNat_three]; simp only [BitVec.toNat_ofNat]; omega

theorem beNat_be4 {n : Nat} (h : n < 4294967296) : beNat (be4 n) = n := by
  rw [be4, beNat_four]; simp only [BitVec.toNat_ofNat]; omega

/-! ## Enumerated fields, in the form that `simp` brings `(BitVec.ofNat 8 n).toNat` to -/

theorem runIndex_voice (v : Fin 4) : runIndex 0 4 (v.val % 256) = some v := by revert v; decide
theorem runIndex_channel (c : Fin 12) : runIndex 0 12 (c.val % 256) = some c := by revert c; decide
theorem Route.ofCode_code (r : Route) : Route.ofCode (r.code % 256) = some r := by cases r <;> rfl
theorem HoldBehaviour.ofCode_code (h : HoldBehaviour) : HoldBehaviour.ofCode (h.code % 256) = some h := by cases h <;> rfl
theorem Zone.ofCode_code (z : Zone) : Zone.ofCode (z.code % 256) = some z := by cases z <;> rfl
theorem TableId.ofCode_code (t : TableId) : TableId.ofCode t.code = some t := by cases t <;> rfl
theorem Source.ofCode_one : Source.ofCode 1 = some .rc := rfl
theorem Source.ofCode_two : Source.ofCode 2 = some .sc := rfl

/-! ## The header of a cue entry -/

/-- The action count that a cue's bytes carry is that of its actions (R86). -/
theorem Cue.actionCount_bytes (c : Cue) (h : c.actions.length < 256) : Cue.actionCount c.bytes = c.actions.length := by
  cases ht : c.trigger with
  | position mm =>
    simp [Cue.actionCount, Cue.bytes, ht, Trigger.bytes, Trigger.parse, be1, be2, be3]
    omega
  | scene n offset =>
    simp [Cue.actionCount, Cue.bytes, ht, Trigger.bytes, Trigger.parse, be1, be2, be3]
    omega

end Sys2Proof.Machine
end

