-- ==== Sys2Proof/Laws/Modes.lean ====
section
/-! SUPPORT. Mode changes and faults: what each leaves alone, and the mode, the fault records and the requests after it. -/

namespace Sys2Proof.Machine

variable {s t u : State}

/-! ## The ground -/

theorem SameGround.refl (s : State) : SameGround s s := ⟨rfl, rfl, rfl, rfl, rfl, rfl, rfl, rfl, rfl, rfl⟩

theorem SameGround.trans (h : SameGround s t) (k : SameGround t u) : SameGround s u :=
  ⟨k.localMs.trans h.localMs, k.pending.trans h.pending, k.startUp.trans h.startUp, k.params.trans h.params,
    k.tables.trans h.tables, k.dli.trans h.dli, k.clock.trans h.clock, k.store.trans h.store,
    k.terminals.trans h.terminals, k.freeDraws.trans h.freeDraws⟩

theorem OnlyShow.ground (h : OnlyShow s t) : SameGround s t :=
  ⟨h.localMs, h.pending, h.startUp, h.params, h.tables, h.dli, h.clock, h.store, h.terminals, h.freeDraws⟩

/-! ## The Permit Unit -/

/-- Only the level, the ceilings and the overspeed count moved. -/
structure PermitFormed (u v : PermitUnit) : Prop where
  rcLimit : v.rcLimit = u.rcLimit
  stationary : v.stationary = u.stationary
  standstill : v.standstill = u.standstill
  reportSpeed : v.reportSpeed = u.reportSpeed
  reportBrake : v.reportBrake = u.reportBrake
  reportFault : v.reportFault = u.reportFault
  reportCode : v.reportCode = u.reportCode
  active : v.active = u.active
  first : v.first = u.first
  log : v.log = u.log
  nextNumber : v.nextNumber = u.nextNumber

theorem PermitFormed.refl (u : PermitUnit) : PermitFormed u u := ⟨rfl, rfl, rfl, rfl, rfl, rfl, rfl, rfl, rfl, rfl, rfl⟩

theorem PermitFormed.trans {a b c : PermitUnit} (h : PermitFormed a b) (k : PermitFormed b c) : PermitFormed a c :=
  ⟨k.rcLimit.trans h.rcLimit, k.stationary.trans h.stationary, k.standstill.trans h.standstill,
    k.reportSpeed.trans h.reportSpeed, k.reportBrake.trans h.reportBrake, k.reportFault.trans h.reportFault,
    k.reportCode.trans h.reportCode, k.active.trans h.active, k.first.trans h.first, k.log.trans h.log,
    k.nextNumber.trans h.nextNumber⟩

theorem formCeilings_formed (s : State) : PermitFormed s.permit (formCeilings s).permit :=
  ⟨rfl, rfl, rfl, rfl, rfl, rfl, rfl, rfl, rfl, rfl, rfl⟩

theorem formAhead_formed (s : State) : PermitFormed s.permit (formAhead s).permit := by
  unfold formAhead
  split <;> exact ⟨rfl, rfl, rfl, rfl, rfl, rfl, rfl, rfl, rfl, rfl, rfl⟩

theorem refreshPermit_formed (s : State) : PermitFormed s.permit (refreshPermit s).permit := by
  unfold refreshPermit
  dsimp only
  split
  · exact .refl _
  · rw [judgeRelease_permit]
    exact ⟨rfl, rfl, rfl, rfl, rfl, rfl, rfl, rfl, rfl, rfl, rfl⟩

/-! ## The Steering Computer, as the permit moves it -/

/-- A change of the permit clears at most the amplifier wait time (R60). -/
theorem refreshPermit_steering (s : State) :
    (refreshPermit s).steering = { s.steering with ampWait := (refreshPermit s).steering.ampWait } := by
  unfold refreshPermit
  dsimp only
  split
  · rfl
  · rw [judgeRelease_steering]; rfl

/-! ## tellBlocks -/

theorem tellBlocks_wli (old new : Mode) (s : State) :
    (tellBlocks old new s).wli = { s.wli with rcReported := (tellBlocks old new s).wli.rcReported } := by
  unfold tellBlocks
  dsimp only
  split_ifs <;> simp [steeringReact, handCode, densityStart, densityStop]

@[simp] theorem tellBlocks_localMs (old new : Mode) (s : State) : (tellBlocks old new s).localMs = s.localMs := by
  unfold tellBlocks
  dsimp only
  split_ifs <;> simp [steeringReact, handCode, densityStart, densityStop]

@[simp] theorem tellBlocks_pending (old new : Mode) (s : State) : (tellBlocks old new s).pending = s.pending := by
  unfold tellBlocks
  dsimp only
  split_ifs <;> simp [steeringReact, handCode, densityStart, densityStop]

@[simp] theorem tellBlocks_startUp (old new : Mode) (s : State) : (tellBlocks old new s).startUp = s.startUp := by
  unfold tellBlocks
  dsimp only
  split_ifs <;> simp [steeringReact, handCode, densityStart, densityStop]

@[simp] theorem tellBlocks_params (old new : Mode) (s : State) : (tellBlocks old new s).params = s.params := by
  unfold tellBlocks
  dsimp only
  split_ifs <;> simp [steeringReact, handCode, densityStart, densityStop]

@[simp] theorem tellBlocks_tables (old new : Mode) (s : State) : (tellBlocks old new s).tables = s.tables := by
  unfold tellBlocks
  dsimp only
  split_ifs <;> simp [steeringReact, handCode, densityStart, densityStop]

@[simp] theorem tellBlocks_dli (old new : Mode) (s : State) : (tellBlocks old new s).dli = s.dli := by
  unfold tellBlocks
  dsimp only
  split_ifs <;> simp [steeringReact, handCode, densityStart, densityStop]

@[simp] theorem tellBlocks_mc (old new : Mode) (s : State) : (tellBlocks old new s).mc = s.mc := by
  unfold tellBlocks
  dsimp only
  split_ifs <;> simp [steeringReact, handCode, densityStart, densityStop]

@[simp] theorem tellBlocks_restraint (old new : Mode) (s : State) : (tellBlocks old new s).restraint = s.restraint := by
  unfold tellBlocks
  dsimp only
  split_ifs <;> simp [steeringReact, handCode, densityStart, densityStop]

@[simp] theorem tellBlocks_clock (old new : Mode) (s : State) : (tellBlocks old new s).clock = s.clock := by
  unfold tellBlocks
  dsimp only
  split_ifs <;> simp [steeringReact, handCode, densityStart, densityStop]

@[simp] theorem tellBlocks_store (old new : Mode) (s : State) : (tellBlocks old new s).store = s.store := by
  unfold tellBlocks
  dsimp only
  split_ifs <;> simp [steeringReact, handCode, densityStart, densityStop]

@[simp] theorem tellBlocks_terminals (old new : Mode) (s : State) : (tellBlocks old new s).terminals = s.terminals := by
  unfold tellBlocks
  dsimp only
  split_ifs <;> simp [steeringReact, handCode, densityStart, densityStop]

@[simp] theorem tellBlocks_permit (old new : Mode) (s : State) : (tellBlocks old new s).permit = s.permit := by
  unfold tellBlocks
  dsimp only
  split_ifs <;> simp [steeringReact, handCode, densityStart, densityStop]

@[simp] theorem tellBlocks_freeDraws (old new : Mode) (s : State) : (tellBlocks old new s).freeDraws = s.freeDraws := by
  unfold tellBlocks
  dsimp only
  split_ifs <;> simp [steeringReact, handCode, densityStart, densityStop]

/-! ## enterMode -/

@[simp] theorem enterMode_localMs (new : Mode) (held : HeldFrom) (s : State) : (enterMode new held s).localMs = s.localMs := by
  simp [enterMode]

@[simp] theorem enterMode_pending (new : Mode) (held : HeldFrom) (s : State) : (enterMode new held s).pending = s.pending := by
  simp [enterMode]

@[simp] theorem enterMode_startUp (new : Mode) (held : HeldFrom) (s : State) : (enterMode new held s).startUp = s.startUp := by
  simp [enterMode]

@[simp] theorem enterMode_params (new : Mode) (held : HeldFrom) (s : State) : (enterMode new held s).params = s.params := by
  simp [enterMode]

@[simp] theorem enterMode_tables (new : Mode) (held : HeldFrom) (s : State) : (enterMode new held s).tables = s.tables := by
  simp [enterMode]

@[simp] theorem enterMode_dli (new : Mode) (held : HeldFrom) (s : State) : (enterMode new held s).dli = s.dli := by
  simp [enterMode]

@[simp] theorem enterMode_clock (new : Mode) (held : HeldFrom) (s : State) : (enterMode new held s).clock = s.clock := by
  simp [enterMode]

@[simp] theorem enterMode_store (new : Mode) (held : HeldFrom) (s : State) : (enterMode new held s).store = s.store := by
  simp [enterMode]

@[simp] theorem enterMode_terminals (new : Mode) (held : HeldFrom) (s : State) : (enterMode new held s).terminals = s.terminals := by
  simp [enterMode]

@[simp] theorem enterMode_freeDraws (new : Mode) (held : HeldFrom) (s : State) : (enterMode new held s).freeDraws = s.freeDraws := by
  simp [enterMode]

@[simp] theorem enterMode_mc (new : Mode) (held : HeldFrom) (s : State) :
    (enterMode new held s).mc = s.mc.enter new held := by
  simp [enterMode]

theorem enterMode_wli (new : Mode) (held : HeldFrom) (s : State) :
    (enterMode new held s).wli = { s.wli with rcReported := (enterMode new held s).wli.rcReported } := by
  simp only [enterMode, dispatchScene_wli, releaseAtModeChange_wli, formCeilings_wli, refreshPermit_wli]
  rw [tellBlocks_wli]
  rfl

theorem enterMode_ground (new : Mode) (held : HeldFrom) (s : State) : SameGround s (enterMode new held s) :=
  ⟨enterMode_localMs .., enterMode_pending .., enterMode_startUp .., enterMode_params .., enterMode_tables ..,
    enterMode_dli .., enterMode_clock .., enterMode_store .., enterMode_terminals .., enterMode_freeDraws ..⟩

theorem enterMode_formed (new : Mode) (held : HeldFrom) (s : State) : PermitFormed s.permit (enterMode new held s).permit := by
  simp only [enterMode, dispatchScene_permit, releaseAtModeChange_permit]
  have h := (refreshPermit_formed (tellBlocks s.mc.mode new (modMc s (ModeController.enter new held)))).trans
    (formCeilings_formed _)
  rwa [tellBlocks_permit] at h

/-! ## Position and generators -/

theorem enterMode_tracker (new : Mode) (held : HeldFrom) (s : State) :
    (enterMode new held s).tracker =
      if s.mc.mode = .offline ∧ new ≠ .offline then s.tracker.goOnline
      else if s.mc.mode = .ready ∧ new = .run then { s.tracker with highWater := s.tracker.p } else s.tracker := by
  simp only [enterMode, dispatchScene_tracker, releaseAtModeChange_tracker, formCeilings_tracker, refreshPermit_tracker]
  unfold tellBlocks
  dsimp only
  by_cases ho : s.mc.mode = .offline <;> by_cases hn : new = .offline <;>
    simp [ho, hn, Mode.online, steeringReact, handCode, densityStart, densityStop]
  · split <;> simp_all

theorem enterMode_density (new : Mode) (held : HeldFrom) (s : State) :
    (enterMode new held s).density =
      if s.mc.mode = .offline ∧ new ≠ .offline then (densityStart s).density
      else if new = .offline then (densityStop (handCode s 0 32768)).density else s.density := by
  simp only [enterMode, dispatchScene_density, releaseAtModeChange_density, formCeilings_density, refreshPermit_density]
  unfold tellBlocks
  dsimp only
  by_cases ho : s.mc.mode = .offline <;> by_cases hn : new = .offline <;>
    simp [ho, hn, Mode.online, steeringReact, handCode, densityStart, densityStop] <;> split <;> simp

theorem raiseFault_tracker (k : FaultKind) (sub : SubCause) (d : Nat) (s : State) :
    (raiseFault k sub d s).tracker = s.tracker := by
  unfold raiseFault
  dsimp only
  split <;> simp_all [enterMode_tracker, steeringReact]

theorem raiseFault_density (k : FaultKind) (sub : SubCause) (d : Nat) (s : State) :
    (raiseFault k sub d s).density = s.density := by
  unfold raiseFault
  dsimp only
  split <;> simp_all [enterMode_density, steeringReact]

theorem rcCheck_tracker (s : State) : (rcCheck s).tracker = s.tracker := by
  unfold rcCheck; split <;> simp [raiseFault_tracker]

theorem rcCheck_density (s : State) : (rcCheck s).density = s.density := by
  unfold rcCheck; split <;> simp [raiseFault_density]

theorem takeFault_tracker (k : FaultKind) (sub : SubCause) (d : Nat) (s : State) :
    (takeFault k sub d s).tracker = s.tracker := by
  unfold takeFault; dsimp only; split <;> simp [raiseFault_tracker, rcCheck_tracker]

theorem takeFault_density (k : FaultKind) (sub : SubCause) (d : Nat) (s : State) :
    (takeFault k sub d s).density = s.density := by
  unfold takeFault; dsimp only; split <;> simp [raiseFault_density, rcCheck_density]

theorem evalReady_tracker (s : State) : (evalReady s).tracker = s.tracker := by
  unfold evalReady changeMode
  split
  · next h => split <;> simp [rcCheck_tracker, enterMode_tracker, h]
  · next h => split <;> simp [rcCheck_tracker, enterMode_tracker, h]
  all_goals rfl

theorem evalReady_density (s : State) : (evalReady s).density = s.density := by
  unfold evalReady changeMode
  split
  · next h => split <;> simp [rcCheck_density, enterMode_density, h]
  · next h => split <;> simp [rcCheck_density, enterMode_density, h]
  all_goals rfl

theorem permitMoved_tracker (s : State) : (permitMoved s).tracker = s.tracker := by simp [permitMoved]
theorem permitMoved_density (s : State) : (permitMoved s).density = s.density := by simp [permitMoved]
theorem permitMoved_mc (s : State) : (permitMoved s).mc = s.mc := by simp [permitMoved]

theorem permitMoved_formed (s : State) : PermitFormed s.permit (permitMoved s).permit := by
  simp only [permitMoved, judgeRelease_permit]
  exact (refreshPermit_formed s).trans (formCeilings_formed _)

theorem evalBerth_tracker (s : State) : (evalBerth s).tracker = s.tracker := by
  unfold evalBerth; split <;> simp [permitMoved_tracker]

theorem evalBerth_density (s : State) : (evalBerth s).density = s.density := by
  unfold evalBerth; split <;> simp [permitMoved_density]

theorem evalBerth_formed (s : State) : PermitFormed s.permit (evalBerth s).permit := by
  unfold evalBerth
  split
  · exact permitMoved_formed (modMc s fun m => { m with berthed := true, berthReached := true })
  · exact .refl _

/-! ## RC silence -/

theorem rcCheck_calm {s : State} (h : ¬(s.wli.rcTimeout < s.wli.rcSilence ∧ s.wli.rcReported = false)) : rcCheck s = s := by
  unfold rcCheck rcSilent
  rw [if_neg]
  intro hh
  simp at hh
  exact h ⟨hh.1.2, hh.2⟩

/-- A mode change to an online mode does not touch whether RC's silence was reported. -/
theorem enterMode_reported (new : Mode) (held : HeldFrom) (s : State) (h : new ≠ .offline) :
    (enterMode new held s).wli = s.wli := by
  simp only [enterMode, dispatchScene_wli, releaseAtModeChange_wli, formCeilings_wli, refreshPermit_wli]
  unfold tellBlocks
  dsimp only
  by_cases ho : s.mc.mode = .offline <;> simp [h, ho, Mode.online, steeringReact, handCode, densityStart, densityStop] <;>
    split <;> simp

/-- A mode change to an online mode while RC is heard. -/
theorem changeMode_calm {new : Mode} {held : HeldFrom} {s : State} (hn : new ≠ .offline)
    (h : ¬(s.wli.rcTimeout < s.wli.rcSilence ∧ s.wli.rcReported = false)) : changeMode new held s = enterMode new held s :=
  rcCheck_calm (by rw [enterMode_reported new held s hn]; exact h)

theorem changeMode_offline (held : HeldFrom) (s : State) : changeMode .offline held s = enterMode .offline held s := by
  unfold changeMode rcCheck rcSilent
  rw [if_neg]
  simp [ModeController.enter, Mode.online]

end Sys2Proof.Machine
end

