-- ==== Sys2Proof/Laws/Keeps.lean ====
section
/-! SUPPORT. What the operations of the vehicle keep: one lemma for each, from the cue actions up to an accepted exchange. -/

namespace Sys2Proof.Machine

variable {s t u : State}

/-! ## Notices -/

/-- The notice queue does not outgrow its room. -/
structure NoticesKept (s t : State) : Prop where
  bound : s.cues.notices.length ≤ 16 → t.cues.notices.length ≤ 16

theorem NoticesKept.refl (s : State) : NoticesKept s s := ⟨id⟩
theorem NoticesKept.trans (h : NoticesKept s t) (k : NoticesKept t u) : NoticesKept s u := ⟨k.bound ∘ h.bound⟩

theorem NoticesKept.of_eq (h : t.cues.notices = s.cues.notices) : NoticesKept s t := ⟨by rw [h]; exact id⟩

theorem notify_length (c : CueEngine) (n : Notice) (h : c.notices.length ≤ 16) : (c.notify n).notices.length ≤ 16 := by
  unfold CueEngine.notify
  split
  · simp; omega
  · exact h

theorem fireAction_notices (cue : Nat) (s : State) (a : Action) : NoticesKept s (fireAction cue s a) := by
  unfold fireAction
  repeat' split
  all_goals first | exact .of_eq rfl | exact ⟨notify_length _ _⟩

theorem foldl_notices {α : Type} {f : State → α → State} (h : ∀ s a, NoticesKept s (f s a)) (l : List α) (s : State) :
    NoticesKept s (l.foldl f s) := by
  induction l generalizing s with
  | nil => exact .refl s
  | cons a l ih => exact (h s a).trans (ih (f s a))

theorem fireCue_notices (c : Cue) (s : State) : NoticesKept s (fireCue c s) := by
  unfold fireCue
  split
  · exact .of_eq rfl
  · exact foldl_notices (fireAction_notices c.id) _ s

theorem firePositionCues_notices (dueAt : Nat → Bool) (l : List Cue) (i : Nat) (s : State) :
    NoticesKept s (firePositionCues dueAt l i s) := by
  induction l generalizing i s with
  | nil => exact .of_eq rfl
  | cons c l ih =>
    unfold firePositionCues
    repeat' split
    · exact .of_eq rfl
    · exact (fireCue_notices c s).trans (ih _ _)
    · exact .of_eq rfl

theorem fireFromCursor_notices (dueAt : Nat → Bool) (s : State) : NoticesKept s (fireFromCursor dueAt s) := by
  unfold fireFromCursor
  split
  · exact firePositionCues_notices ..
  all_goals exact .refl s

theorem placeCursor_notices (s : State) : NoticesKept s (placeCursor s) := by
  unfold placeCursor
  dsimp only
  split <;> exact .of_eq rfl

theorem wrapCursor_notices (p : Nat) (s : State) : NoticesKept s (wrapCursor p s) := by
  unfold wrapCursor
  dsimp only
  have moved (t : State) (c : Cursor) : NoticesKept t (setCursor t c) := .of_eq rfl
  exact (fireFromCursor_notices (fun mm => decide (mm < s.tables.routeLength)) s).trans
    ((moved _ _).trans (fireFromCursor_notices _ _))

theorem fireSceneCues_notices (scene timer : Nat) (l : List Cue) (i : Nat) (s : State) :
    NoticesKept s (fireSceneCues scene timer l i s) := by
  induction l generalizing i s with
  | nil => exact .of_eq rfl
  | cons c l ih =>
    unfold fireSceneCues
    repeat' split
    · exact .of_eq rfl
    · exact (fireCue_notices c s).trans (ih _ _)
    · exact .of_eq rfl
    · exact .of_eq rfl

theorem fireDueSceneCues_notices (s : State) : NoticesKept s (fireDueSceneCues s) := by
  unfold fireDueSceneCues
  split
  · exact .refl s
  · exact fireSceneCues_notices ..

theorem advanceScene_notices (s : State) : NoticesKept s (advanceScene s) := by
  unfold advanceScene
  split
  · exact NoticesKept.trans (t := s.setCues { s.cues with timer := s.cues.timer + 1 }) (.of_eq rfl)
      (fireDueSceneCues_notices _)
  · exact .refl s

theorem enterScene_notices (scene : Nat) (s : State) : NoticesKept s (enterScene scene s) := by
  have h (x : CueEngine) (hx : x.notices = s.cues.notices) (b : Prop) [Decidable b] :
      NoticesKept s (if b then fireDueSceneCues (s.setCues x) else s.setCues x) := by
    split
    · exact NoticesKept.trans (t := s.setCues x) (.of_eq hx) (fireDueSceneCues_notices _)
    · exact .of_eq hx
  exact h { s.cues with scene := scene, timer := 0,
                        sceneCursor := if scene = 0 then none else firstSceneCue s scene } rfl
    (sceneTimerRuns (modCues s fun e => { e with scene := scene, timer := 0,
                                                 sceneCursor := if scene = 0 then none else firstSceneCue s scene }) = true)

theorem cueMovement_notices (before after : Nat) (forward wrap : Bool) (s : State) :
    NoticesKept s (cueMovement before after forward wrap s) := by
  have fired : NoticesKept s (if wrap then wrapCursor after s else fireFromCursor (reachedBy after) s) := by
    split
    · exact wrapCursor_notices ..
    · exact fireFromCursor_notices ..
  have scene (n : Nat) (t : State) (h : NoticesKept s t) :
      NoticesKept s (if n = t.cues.scene then t else enterScene n t) := by
    split
    · exact h
    · exact h.trans (enterScene_notices n t)
  unfold cueMovement
  split
  · exact .refl s
  · split
    · exact scene _ _ fired
    · split
      · exact .of_eq rfl
      · exact .refl s

theorem dispatchScene_notices (old : Mode) (s : State) : NoticesKept s (dispatchScene old s) := by
  unfold dispatchScene
  split
  · exact enterScene_notices _ s
  · exact .refl s

theorem soundModeChange_notices (old new : Mode) (s : State) : NoticesKept s (soundModeChange old new s) := by
  unfold soundModeChange soundEnterHold
  repeat' split
  all_goals exact .of_eq rfl

/-! ## The energised set -/

theorem insertSeat_length (i : Fin 8) (set : List (Fin 8)) : (insertSeat i set).length ≤ set.length + 1 := by
  have hn : (insertSeat i set).Nodup := List.Nodup.filter _ (by decide)
  have hs : insertSeat i set ⊆ i :: set := fun j hj => by
    have := (List.mem_filter.1 hj).2
    simpa using this
  exact (List.subperm_of_subset hn hs).length_le

theorem energiseOne_length (p : Nat) (r : Restraint) (h : r.energised.length ≤ 2) :
    (r.energiseOne p).energised.length ≤ 2 := by
  unfold Restraint.energiseOne
  split
  · exact h
  · next i rest _ =>
    split
    · exact le_trans (insertSeat_length i r.energised) (by omega)
    · exact h

theorem fill_length (p : Nat) (r : Restraint) (h : r.energised.length ≤ 2) : (r.fill p).energised.length ≤ 2 :=
  energiseOne_length p _ (energiseOne_length p r h)

theorem leaveRelease_length (i : Fin 8) (r : Restraint) (h : r.energised.length ≤ 2) :
    (r.leaveRelease i).energised.length ≤ 2 := le_trans (List.length_filter_le ..) h

/-! ## The relation -/

/-- The preface slots and the two counts of the Mode Controller are as they were. -/
structure SlotsKept (m n : ModeController) : Prop where
  rcSlot : n.rcSlot = m.rcSlot
  scSlot : n.scSlot = m.scSlot
  protectionFaults : n.protectionFaults = m.protectionFaults
  dispatchCount : n.dispatchCount = m.dispatchCount

theorem SlotsKept.refl (m : ModeController) : SlotsKept m m := ⟨rfl, rfl, rfl, rfl⟩

theorem SlotsKept.trans {a b c : ModeController} (h : SlotsKept a b) (k : SlotsKept b c) : SlotsKept a c :=
  ⟨k.rcSlot.trans h.rcSlot, k.scSlot.trans h.scSlot, k.protectionFaults.trans h.protectionFaults,
    k.dispatchCount.trans h.dispatchCount⟩

/-- The ground stays, the requests stay, and what every step keeps is kept. -/
structure Keeps (s t : State) : Prop extends SameGround s t where
  wli : t.wli = { s.wli with rcReported := t.wli.rcReported }
  notices : NoticesKept s t
  energised : s.restraint.energised.length ≤ 2 → t.restraint.energised.length ≤ 2
  log : s.permit.log.length ≤ 16 → t.permit.log.length ≤ 16
  halt : HaltRecorded s → HaltRecorded t
  steering : SteeringHeld s → SteeringHeld t
  slots : SlotsKept s.mc t.mc

theorem Keeps.refl (s : State) : Keeps s s := ⟨.refl s, rfl, .refl s, id, id, id, id, .refl _⟩

theorem Keeps.trans (h : Keeps s t) (k : Keeps t u) : Keeps s u :=
  ⟨h.toSameGround.trans k.toSameGround, k.wli.trans (by rw [h.wli]), h.notices.trans k.notices, k.energised ∘ h.energised,
    k.log ∘ h.log, k.halt ∘ h.halt, k.steering ∘ h.steering, h.slots.trans k.slots⟩

theorem Keeps.requests (h : Keeps s t) : t.wli.queue = s.wli.queue := by rw [h.wli]
theorem Keeps.responses (h : Keeps s t) : t.wli.outgoing = s.wli.outgoing := by rw [h.wli]

theorem haltRecorded_of (hm : t.mc.mode = s.mc.mode) (hf : t.permit.first = s.permit.first)
    (ha : t.permit.active = s.permit.active) (h : HaltRecorded s) : HaltRecorded t :=
  ⟨by rw [hm, hf]; exact h.first, by rw [hm, ha]; exact h.active⟩

theorem steeringHeld_of (hm : t.mc.mode = s.mc.mode) (hy : t.steering.y = s.steering.y)
    (hi : t.steering.state = .idle ↔ s.steering.state = .idle) (hp : t.params = s.params) (hu : t.startUp = s.startUp)
    (h : SteeringHeld s) : SteeringHeld t where
  limit := by rw [hy, hp]; exact h.limit
  offline := by rw [hm, hy, hi]; exact h.offline
  idle := by rw [hm, hi]; exact h.idle
  startUp := by rw [hm, hu]; exact h.startUp

/-- A change of the blocks that no kept condition reads. -/
theorem Keeps.of_show (h : OnlyShow s t) (hn : NoticesKept s t) : Keeps s t where
  toSameGround := h.ground
  wli := by rw [h.wli]
  notices := hn
  energised := by rw [h.restraint]; exact id
  log := by rw [h.permit]; exact id
  halt := haltRecorded_of (by rw [h.mc]) (by rw [h.permit]) (by rw [h.permit])
  steering := steeringHeld_of (by rw [h.mc]) (by rw [h.steering]) (by rw [h.steering]) h.params h.startUp
  slots := by rw [h.mc]; exact .refl _

theorem Keeps.setTracker (s : State) (x : Tracker) : Keeps s (s.setTracker x) :=
  ⟨⟨rfl, rfl, rfl, rfl, rfl, rfl, rfl, rfl, rfl, rfl⟩, rfl, .of_eq rfl, id, id, haltRecorded_of rfl rfl rfl,
    steeringHeld_of rfl rfl .rfl rfl rfl, .refl _⟩

theorem Keeps.setSound (s : State) (x : Sound) : Keeps s (s.setSound x) := .of_show (.setSound s x) (.of_eq rfl)

theorem Keeps.setCues (s : State) (x : CueEngine) (h : x.notices = s.cues.notices) : Keeps s (s.setCues x) :=
  .of_show (.setCues s x) (.of_eq h)

theorem Keeps.setDensity (s : State) (x : Vector Density 3) : Keeps s (s.setDensity x) :=
  ⟨⟨rfl, rfl, rfl, rfl, rfl, rfl, rfl, rfl, rfl, rfl⟩, rfl, .of_eq rfl, id, id, haltRecorded_of rfl rfl rfl,
    steeringHeld_of rfl rfl .rfl rfl rfl, .refl _⟩

theorem Keeps.setMc (s : State) (x : ModeController) (h : x.mode = s.mc.mode) (hs : SlotsKept s.mc x) : Keeps s (s.setMc x) :=
  ⟨⟨rfl, rfl, rfl, rfl, rfl, rfl, rfl, rfl, rfl, rfl⟩, rfl, .of_eq rfl, id, id, haltRecorded_of h rfl rfl,
    steeringHeld_of h rfl .rfl rfl rfl, hs⟩

theorem Keeps.setSteering (s : State) (x : Steering) (hy : x.y = s.steering.y)
    (hi : x.state = .idle ↔ s.steering.state = .idle) : Keeps s (s.setSteering x) :=
  ⟨⟨rfl, rfl, rfl, rfl, rfl, rfl, rfl, rfl, rfl, rfl⟩, rfl, .of_eq rfl, id, id, haltRecorded_of rfl rfl rfl,
    steeringHeld_of rfl hy hi rfl rfl, .refl _⟩

theorem Keeps.setRestraint (s : State) (x : Restraint)
    (h : s.restraint.energised.length ≤ 2 → x.energised.length ≤ 2) : Keeps s (s.setRestraint x) :=
  ⟨⟨rfl, rfl, rfl, rfl, rfl, rfl, rfl, rfl, rfl, rfl⟩, rfl, .of_eq rfl, h, id, haltRecorded_of rfl rfl rfl,
    steeringHeld_of rfl rfl .rfl rfl rfl, .refl _⟩

theorem Keeps.setPermit (s : State) (x : PermitUnit) (hf : x.first = s.permit.first) (ha : x.active = s.permit.active)
    (hl : x.log = s.permit.log) : Keeps s (s.setPermit x) :=
  ⟨⟨rfl, rfl, rfl, rfl, rfl, rfl, rfl, rfl, rfl, rfl⟩, rfl, .of_eq rfl, id, fun h => by simpa [hl] using h,
    haltRecorded_of rfl hf ha, steeringHeld_of rfl rfl .rfl rfl rfl, .refl _⟩

theorem Keeps.setReported (s : State) (b : Bool) : Keeps s (s.setWli { s.wli with rcReported := b }) :=
  ⟨⟨rfl, rfl, rfl, rfl, rfl, rfl, rfl, rfl, rfl, rfl⟩, rfl, .of_eq rfl, id, id, haltRecorded_of rfl rfl rfl,
    steeringHeld_of rfl rfl .rfl rfl rfl, .refl _⟩

theorem Keeps.ite {c : Prop} [Decidable c] (h : Keeps s t) (k : Keeps s u) : Keeps s (if c then t else u) := by
  split
  · exact h
  · exact k

/-- A chain over a list. -/
theorem Keeps.foldl {α : Type} {f : State → α → State} (h : ∀ s a, Keeps s (f s a)) (l : List α) (s : State) :
    Keeps s (l.foldl f s) := by
  induction l generalizing s with
  | nil => exact .refl s
  | cons a l ih => exact (h s a).trans (ih (f s a))

/-! ## Seats, permit -/

theorem endRelease_keeps (s : State) : Keeps s (endRelease s) := .setRestraint s _ fun _ => Nat.zero_le 2

theorem judgeRelease_keeps (s : State) : Keeps s (judgeRelease s) := by
  unfold judgeRelease
  split
  · exact endRelease_keeps s
  · exact .refl s

theorem fillEnergised_keeps (s : State) : Keeps s (fillEnergised s) := .setRestraint s _ (by exact fill_length _ _)

theorem formCeilings_keeps (s : State) : Keeps s (formCeilings s) := .setPermit s _ (by rfl) (by rfl) (by rfl)

theorem formAhead_keeps (s : State) : Keeps s (formAhead s) := by
  unfold formAhead
  split
  · exact (Keeps.setPermit s _ (by rfl) (by rfl) (by rfl)).trans (formCeilings_keeps _)
  · exact formCeilings_keeps s

theorem refreshPermit_keeps (s : State) : Keeps s (refreshPermit s) := by
  unfold refreshPermit
  dsimp only
  split
  · exact .refl s
  · refine ((Keeps.setPermit s _ ?_ ?_ ?_).trans (.setSteering _ _ ?_ ?_)).trans
      ((formCeilings_keeps _).trans (judgeRelease_keeps _))
    all_goals first | exact Iff.rfl | rfl

/-! ## Mode changes -/

theorem tellBlocks_notices (old new : Mode) (s : State) : NoticesKept s (tellBlocks old new s) := by
  have h : ∀ e : CueEngine, (cuesModeChange new e).notices.length ≤ 16 ∨ (cuesModeChange new e).notices = e.notices := by
    intro e
    cases new <;> simp [cuesModeChange]
  constructor
  intro hs
  unfold tellBlocks
  dsimp only
  split_ifs <;> simp [steeringReact, handCode, densityStart, densityStop]
  all_goals
    apply (soundModeChange_notices _ _ _).bound
    simp
    rcases h s.cues with h | h
    · exact h
    · rw [h]; exact hs

theorem react_y (mode : Mode) (active : List FaultKind) (now : Nat) (c : Steering) : (c.react mode active now).y = c.y := by
  unfold Steering.react
  split <;> (repeat' split) <;> rfl

/-- The steering state after a mode change, and its output. -/
theorem enterMode_steering (new : Mode) (held : HeldFrom) (s : State) :
    (enterMode new held s).steering.state =
        (if s.mc.mode = .offline ∧ new ≠ .offline then .tracking
         else if new = .offline then .idle else (s.steering.react new s.permit.active s.localMs).state) ∧
      (enterMode new held s).steering.y = if new = .offline then 0 else s.steering.y := by
  simp only [enterMode, dispatchScene_steering, releaseAtModeChange_steering, formCeilings_steering]
  rw [refreshPermit_steering]
  dsimp only
  unfold tellBlocks
  dsimp only
  by_cases ho : s.mc.mode = .offline <;> by_cases hn : new = .offline
  all_goals
    simp [ho, hn, Mode.online, Steering.track, Steering.rest, steeringReact, handCode, densityStart, densityStop]
  · split <;> simp [ModeController.enter, react_y]

theorem react_idle (mode : Mode) (active : List FaultKind) (now : Nat) (c : Steering) :
    (c.react mode active now).state = .idle ↔ c.state = .idle := by
  unfold Steering.react
  split <;> (repeat' split) <;> simp_all [Steering.track]

theorem enterMode_energised (new : Mode) (held : HeldFrom) (s : State) (h : s.restraint.energised.length ≤ 2) :
    (enterMode new held s).restraint.energised.length ≤ 2 := by
  simp only [enterMode, dispatchScene_restraint]
  have h1 := (refreshPermit_keeps (tellBlocks s.mc.mode new (modMc s (ModeController.enter new held)))).energised
    (by simpa using h)
  have h2 := (formCeilings_keeps _).energised h1
  unfold releaseAtModeChange
  split
  · exact Nat.zero_le 2
  · exact (judgeRelease_keeps _).energised h2

theorem enterMode_notices (new : Mode) (held : HeldFrom) (s : State) : NoticesKept s (enterMode new held s) := by
  refine NoticesKept.trans ?_ (dispatchScene_notices _ _)
  refine NoticesKept.trans (t := tellBlocks s.mc.mode new (modMc s (ModeController.enter new held))) ?_ (.of_eq (by simp))
  exact ⟨(tellBlocks_notices s.mc.mode new (modMc s (ModeController.enter new held))).bound⟩

theorem enterMode_steeringHeld (new : Mode) (held : HeldFrom) (s : State)
    (ho : new = .offline ∨ s.mc.mode ≠ .offline ∨ s.startUp.phase = .complete) (h : SteeringHeld s) :
    SteeringHeld (enterMode new held s) := by
  obtain ⟨hs, hy⟩ := enterMode_steering new held s
  have hm : (enterMode new held s).mc.mode = new := by simp [ModeController.enter]
  refine ⟨?_, ?_, ?_, ?_⟩
  · rw [hy, enterMode_params]
    split
    · exact Nat.zero_le _
    · exact h.limit
  · rw [hm, hs, hy]
    intro hn
    simp [hn]
  · rw [hm, hs]
    intro hi
    by_contra hn
    by_cases hold : s.mc.mode = .offline
    · simp [hold, hn] at hi
    · simp [hold, hn] at hi
      exact hold (h.idle ((react_idle ..).1 hi))
  · rw [hm, enterMode_startUp]
    intro hp
    rcases ho with ho | ho | ho
    · exact ho
    · exact absurd (h.startUp hp) ho
    · exact absurd ho hp

theorem enterMode_keeps (new : Mode) (held : HeldFrom) (s : State) (hh : new = .halt ↔ s.mc.mode = .halt)
    (ho : new = .offline ∨ s.mc.mode ≠ .offline ∨ s.startUp.phase = .complete) : Keeps s (enterMode new held s) where
  toSameGround := enterMode_ground new held s
  wli := enterMode_wli new held s
  notices := enterMode_notices new held s
  energised := enterMode_energised new held s
  log := by rw [(enterMode_formed new held s).log]; exact id
  halt := fun h => by
    have hm : (enterMode new held s).mc.mode = new := by simp [ModeController.enter]
    have hf := enterMode_formed new held s
    exact ⟨by rw [hm, hf.first, hh]; exact h.first, by rw [hm, hf.active, hh]; exact h.active⟩
  steering := enterMode_steeringHeld new held s ho
  slots := by rw [enterMode_mc]; exact ⟨rfl, rfl, rfl, rfl⟩

/-! ## Faults -/

theorem appendLog_length (u : PermitUnit) (r : FaultRecord) (h : u.log.length ≤ 16) : (u.appendLog r).log.length ≤ 16 := by
  unfold PermitUnit.appendLog
  dsimp only
  split <;> simp <;> omega

theorem insertKind_ne_nil (k : FaultKind) (set : List FaultKind) : insertKind k set ≠ [] := by
  intro h
  have : k ∈ insertKind k set := List.mem_filter.2 ⟨by cases k <;> simp [FaultKind.all], by simp⟩
  simp [h] at this

/-- What the Permit Unit holds of an online fault. -/
theorem recordFault_online (k : FaultKind) (sub : SubCause) (d : Nat) (s : State) (h : s.mc.mode ≠ .offline) :
    (recordFault k sub d s).permit.first = some (s.permit.first.getD (faultRecordOf s k sub d)) ∧
      (recordFault k sub d s).permit.active = insertKind k s.permit.active := by
  have : s.mc.mode.online = true := by simp [Mode.online, h]
  simp [recordFault, this]

theorem recordFault_log (k : FaultKind) (sub : SubCause) (d : Nat) (s : State) :
    (recordFault k sub d s).permit.log = (s.permit.appendLog (faultRecordOf s k sub d)).log := by
  simp only [recordFault, modPermit_eq, State.setPermit_permit]
  split <;> rfl

theorem steeringReact_keeps (s : State) : Keeps s (steeringReact s) := by
  refine .setSteering s _ ?_ (react_idle ..)
  unfold Steering.react
  split <;> (repeat' split) <;> simp [Steering.track]

theorem recordFault_offline_keeps (k : FaultKind) (sub : SubCause) (d : Nat) (s : State)
    (h : s.mc.mode = .offline ∨ s.mc.mode = .halt) : Keeps s (recordFault k sub d s) where
  toSameGround := ⟨rfl, rfl, rfl, rfl, rfl, rfl, rfl, rfl, rfl, rfl⟩
  wli := rfl
  notices := .of_eq rfl
  energised := id
  log := fun hl => by rw [recordFault_log]; exact appendLog_length _ _ hl
  halt := fun hr => by
    rcases h with h | h
    · refine haltRecorded_of (s := s) rfl ?_ ?_ hr <;> simp [recordFault, h, Mode.online, PermitUnit.appendLog]
    · obtain ⟨hf, ha⟩ := recordFault_online k sub d s (by simp [h])
      exact ⟨by simp [hf, h], by simp [ha, h, insertKind_ne_nil]⟩
  steering := steeringHeld_of rfl rfl .rfl rfl rfl
  slots := .refl _

theorem raiseFault_keeps (k : FaultKind) (sub : SubCause) (d : Nat) (s : State) : Keeps s (raiseFault k sub d s) := by
  have online (h : s.mc.mode ≠ .offline) (held : HeldFrom) : Keeps s (enterMode .halt held (recordFault k sub d s)) := by
    have hm : (enterMode .halt held (recordFault k sub d s)).mc.mode = .halt := by simp [ModeController.enter]
    have hf := enterMode_formed .halt held (recordFault k sub d s)
    obtain ⟨hfirst, hact⟩ := recordFault_online k sub d s h
    have hg : SameGround s (recordFault k sub d s) := ⟨rfl, rfl, rfl, rfl, rfl, rfl, rfl, rfl, rfl, rfl⟩
    exact
      { toSameGround := hg.trans (enterMode_ground ..)
        wli := enterMode_wli .halt held (recordFault k sub d s)
        notices := ⟨(enterMode_notices .halt held (recordFault k sub d s)).bound⟩
        energised := enterMode_energised .halt held (recordFault k sub d s)
        log := fun hl => by rw [hf.log, recordFault_log]; exact appendLog_length _ _ hl
        halt := fun _ => ⟨by rw [hm, hf.first, hfirst]; simp, by rw [hm, hf.active, hact]; simp [insertKind_ne_nil]⟩
        steering := fun hs =>
          enterMode_steeringHeld .halt held (recordFault k sub d s) (.inr (.inl h))
            (steeringHeld_of (s := s) rfl rfl .rfl rfl rfl hs)
        slots := by rw [enterMode_mc]; exact ⟨rfl, rfl, rfl, rfl⟩ }
  unfold raiseFault
  dsimp only
  split
  · next h => exact recordFault_offline_keeps k sub d s (.inl h)
  · next h => exact (recordFault_offline_keeps k sub d s (.inr h)).trans (steeringReact_keeps _)
  all_goals
    next h => exact online (by simp [h]) _

theorem rcCheck_keeps (s : State) : Keeps s (rcCheck s) := by
  unfold rcCheck
  split
  · exact (Keeps.setReported s true).trans (raiseFault_keeps ..)
  · exact .refl s

theorem takeFault_keeps (k : FaultKind) (sub : SubCause) (d : Nat) (s : State) : Keeps s (takeFault k sub d s) := by
  unfold takeFault
  dsimp only
  split
  · exact raiseFault_keeps ..
  · exact (raiseFault_keeps k sub d s).trans (rcCheck_keeps _)

theorem changeMode_keeps (new : Mode) (held : HeldFrom) (s : State) (hh : new = .halt ↔ s.mc.mode = .halt)
    (ho : new = .offline ∨ s.mc.mode ≠ .offline ∨ s.startUp.phase = .complete) : Keeps s (changeMode new held s) :=
  (enterMode_keeps new held s hh ho).trans (rcCheck_keeps _)

/-! ## READY, berthing, advances, standstill -/

theorem evalReady_keeps (s : State) : Keeps s (evalReady s) := by
  unfold evalReady
  split
  · next h =>
    split
    · exact changeMode_keeps _ _ s (by simp [h]) (by simp [h])
    · exact .refl s
  · next h =>
    split
    · exact .refl s
    · exact changeMode_keeps _ _ s (by simp [h]) (by simp [h])
  all_goals exact .refl s

theorem permitMoved_keeps (s : State) : Keeps s (permitMoved s) :=
  (refreshPermit_keeps s).trans ((formCeilings_keeps _).trans (judgeRelease_keeps _))

theorem evalBerth_keeps (s : State) : Keeps s (evalBerth s) := by
  unfold evalBerth
  split
  · exact (Keeps.setMc s _ (by rfl) (by exact ⟨rfl, rfl, rfl, rfl⟩)).trans (permitMoved_keeps _)
  · exact .refl s

theorem endAdvance_keeps (s : State) : Keeps s (endAdvance s) :=
  (Keeps.setMc s _ (by rfl) (by exact ⟨rfl, rfl, rfl, rfl⟩)).trans ((permitMoved_keeps _).trans ((evalBerth_keeps _).trans (evalReady_keeps _)))

theorem becomeStationary_keeps (s : State) : Keeps s (becomeStationary s) :=
  (Keeps.setPermit s _ (by rfl) (by rfl) (by rfl)).trans
    ((judgeRelease_keeps _).trans ((evalBerth_keeps _).trans (evalReady_keeps _)))

theorem stopStationary_keeps (s : State) : Keeps s (stopStationary s) :=
  (Keeps.setPermit s _ (by rfl) (by rfl) (by rfl)).trans
    ((Keeps.setMc _ _ (by rfl) (by exact ⟨rfl, rfl, rfl, rfl⟩)).trans ((permitMoved_keeps _).trans (evalReady_keeps _)))

theorem startAdvance_keeps (mm : Nat) (s : State) : Keeps s (startAdvance mm s) :=
  (Keeps.setMc s _ (by rfl) (by exact ⟨rfl, rfl, rfl, rfl⟩)).trans ((permitMoved_keeps _).trans (evalReady_keeps _))

/-! ## Seats -/

theorem seatMoved_keeps (i : Fin 8) (old : SeatState) (s : State) : Keeps s (seatMoved i old s) := by
  unfold seatMoved
  dsimp only
  split
  · exact .refl s
  · split
    · exact (refreshPermit_keeps s).trans ((takeFault_keeps ..).trans (evalReady_keeps _))
    · exact (refreshPermit_keeps s).trans (evalReady_keeps _)

theorem modSeat_energised (r : Restraint) (i : Fin 8) (f : Seat → Seat) : (r.modSeat i f).energised = r.energised := rfl
theorem latch_energised (r : Restraint) (i : Fin 8) (f : Latches → Latches) : (r.latch i f).energised = r.energised := rfl

theorem evaluateSeat_keeps (i : Fin 8) (s : State) : Keeps s (evaluateSeat i s) := .setRestraint s _ (by exact id)

theorem appendRelease_keeps (s : State) (i : Fin 8) : Keeps s (appendRelease s i) :=
  (Keeps.setRestraint s _ (by exact id)).trans (seatMoved_keeps ..)

theorem release_keeps (mask : Byte) (s : State) : Keeps s (release mask s) :=
  (Keeps.foldl appendRelease_keeps _ s).trans ((fillEnergised_keeps _).trans (evalReady_keeps _))

theorem bypassSeat_keeps (s : State) (i : Fin 8) : Keeps s (bypassSeat s i) :=
  (Keeps.setRestraint s _ (by exact id)).trans (seatMoved_keeps ..)

theorem bypass_keeps (mask : Byte) (s : State) : Keeps s (bypass mask s) := .foldl bypassSeat_keeps _ s

theorem restoreSeat_keeps (s : State) (i : Fin 8) : Keeps s (restoreSeat s i) := by
  unfold restoreSeat
  have h1 := (evaluateSeat_keeps i s).trans (refreshPermit_keeps _)
  have h2 : Keeps s (if restoreOpens (evaluateSeat i s) (seatState (evaluateSeat i s) i) then
      takeFault .restraintOpen .none (i.val + 1) (refreshPermit (evaluateSeat i s)) else refreshPermit (evaluateSeat i s)) := by
    split
    · exact h1.trans (takeFault_keeps ..)
    · exact h1
  exact .ite h2 (h2.trans (evalReady_keeps _))

theorem maskSeat_keeps (mask : Byte) (s : State) (i : Fin 8) : Keeps s (maskSeat mask s i) := by
  unfold maskSeat
  dsimp only
  repeat' split
  · exact (evaluateSeat_keeps i s).trans (seatMoved_keeps ..)
  · exact .refl s
  · exact .refl s
  · exact (Keeps.setRestraint s _ (by exact id)).trans (seatMoved_keeps ..)

theorem applySeatMask_keeps (mask : Byte) (s : State) : Keeps s (applySeatMask mask s) :=
  (Keeps.foldl (maskSeat_keeps mask) _ s).trans (.setRestraint _ _ (by exact id))

theorem enableSeats_keeps (s : State) : Keeps s (enableSeats s) := .foldl (maskSeat_keeps _) _ s

theorem latchChange_keeps (i : Fin 8) (k : Fin 3) (level : Bool) (s : State) : Keeps s (latchChange i k level s) := by
  unfold latchChange
  split
  · exact .setRestraint s _ (by exact id)
  · exact .refl s

theorem barRose_keeps (i : Fin 8) (s : State) : Keeps s (barRose i s) :=
  (Keeps.setRestraint s _ (by exact leaveRelease_length i _)).trans (fillEnergised_keeps _)

theorem seatInputChanged_keeps (i : Fin 8) (k : Fin 3) (level : Bool) (before : Picture) (s : State) :
    Keeps s (seatInputChanged i k level before s) := by
  unfold seatInputChanged
  have h := latchChange_keeps i k level s
  dsimp only
  repeat' split
  · exact h
  · exact h
  · exact h.trans ((barRose_keeps i _).trans ((seatMoved_keeps ..).trans (evalReady_keeps _)))
  · exact h
  all_goals exact h.trans ((Keeps.setRestraint _ _ (by exact id)).trans (seatMoved_keeps ..))

theorem solenoidReport_keeps (i : Fin 8) (s : State) : Keeps s (solenoidReport i s) := by
  unfold solenoidReport
  have h : Keeps s (if seatState s i = .disabled then s
      else modRestraint s fun r => r.latch i fun l => { l with solenoidFault := true }) := by
    split
    · exact .refl s
    · exact .setRestraint s _ (by exact id)
  exact .ite (h.trans (takeFault_keeps ..)) h

/-! ## Position -/

theorem cuesUnsync_keeps (s : State) : Keeps s (cuesUnsync s) := .setCues s _ (by rfl)

theorem becomeUnsync_keeps (s : State) : Keeps s (becomeUnsync s) :=
  (Keeps.setTracker s _).trans ((cuesUnsync_keeps _).trans
    ((refreshPermit_keeps _).trans ((formCeilings_keeps _).trans (evalReady_keeps _))))

theorem positionFault_keeps (sub : SubCause) (detail : Nat) (s : State) : Keeps s (positionFault sub detail s) :=
  (Keeps.setTracker s _).trans ((cuesUnsync_keeps _).trans ((takeFault_keeps ..).trans
    ((refreshPermit_keeps _).trans ((formCeilings_keeps _).trans (evalReady_keeps _)))))

theorem cueMovement_keeps (before after : Nat) (forward wrap : Bool) (s : State) :
    Keeps s (cueMovement before after forward wrap s) :=
  .of_show (cueMovement_only ..) (cueMovement_notices ..)

theorem placeCursor_keeps (s : State) : Keeps s (placeCursor s) := .of_show (placeCursor_only s) (placeCursor_notices s)

theorem zoneChange_keeps (s : State) : Keeps s (zoneChange s) := by
  unfold zoneChange
  dsimp only
  split
  · next h => exact changeMode_keeps _ _ s (by simp [h.1]) (by simp [h.1])
  · split
    · next h => exact (changeMode_keeps _ _ s (by simp [h.1]) (by simp [h.1])).trans (evalReady_keeps _)
    · exact .refl s

theorem zoneReport_keeps (s : State) : Keeps s (zoneReport s) :=
  (zoneChange_keeps s).trans ((Keeps.ite (endAdvance_keeps _) (.refl _)).trans (evalBerth_keeps _))

theorem lookup_keeps (s : State) : Keeps s (lookup s) :=
  (Keeps.setTracker s _).trans ((formAhead_keeps _).trans (zoneReport_keeps _))

theorem rollbackCheck_keeps (s : State) : Keeps s (rollbackCheck s) := by
  unfold rollbackCheck
  exact .ite (.setTracker s _) (.ite (positionFault_keeps ..) (.refl s))

theorem movement_keeps (before after : Nat) (forward wrap : Bool) (s : State) :
    Keeps s (movement before after forward wrap s) :=
  (lookup_keeps s).trans (.ite ((cueMovement_keeps ..).trans (rollbackCheck_keeps _)) (.refl _))

theorem moveTo_keeps (p : Nat) (wrap : Bool) (s : State) : Keeps s (moveTo p wrap s) := .setTracker s _

theorem advanceTravel_keeps (d : Int) (s : State) : Keeps s (advanceTravel d s) := by
  unfold advanceTravel
  split
  · exact .refl s
  · have h (x : ModeController) (hx : x.mode = s.mc.mode) (hs : SlotsKept s.mc x) (c : Prop) [Decidable c] :
        Keeps s (if c then endAdvance (s.setMc x) else s.setMc x) :=
      .ite ((Keeps.setMc s x hx hs).trans (endAdvance_keeps _)) (.setMc s x hx hs)
    next a _ =>
      exact h { s.mc with advance := some { a with remaining := a.remaining - d } } rfl ⟨rfl, rfl, rfl, rfl⟩
        (a.remaining - d ≤ 0)

theorem integrate_keeps (d : Int) (s : State) : Keeps s (integrate d s) :=
  (moveTo_keeps _ _ s).trans ((Keeps.ite (positionFault_keeps ..) (.refl _)).trans (movement_keeps ..))

theorem acquire_keeps (i : Nat) (m : Marker) (s : State) : Keeps s (acquire i m s) :=
  (Keeps.setTracker s _).trans ((lookup_keeps _).trans ((Keeps.ite (placeCursor_keeps _) (.refl _)).trans
    ((refreshPermit_keeps _).trans ((formCeilings_keeps _).trans (evalReady_keeps _)))))

theorem missExpected_keeps (s : State) : Keeps s (missExpected s) := by
  unfold missExpected
  split
  · exact .refl s
  · exact .ite ((Keeps.setTracker s _).trans (positionFault_keeps ..)) (.setTracker s _)

theorem correct_keeps (i : Nat) (m : Marker) (d : Int) (s : State) : Keeps s (correct i m d s).1 :=
  (Keeps.setTracker s _).trans ((moveTo_keeps ..).trans (movement_keeps ..))

theorem capture_keeps (i : Nat) (m : Marker) (s : State) : Keeps s (capture i m s).1 := by
  unfold capture
  dsimp only
  split
  · exact positionFault_keeps ..
  · exact correct_keeps ..

theorem placeRead_keeps (i : Nat) (m : Marker) (s : State) : Keeps s (placeRead i m s).1 := by
  have once := missExpected_keeps s
  have twice : Keeps s (if isSync (missExpected s) then missExpected (missExpected s) else missExpected s) :=
    .ite (once.trans (missExpected_keeps _)) once
  have captured (t : State) (h : Keeps s t) : Keeps s (if isSync t then capture i m t else (t, false)).1 := by
    split
    · exact h.trans (capture_keeps ..)
    · exact h
  unfold placeRead
  dsimp only
  by_cases h0 : (i + markerCount s - s.tracker.expected.getD i) % markerCount s = 0
  · rw [if_pos h0]; exact capture_keeps ..
  · rw [if_neg h0]
    by_cases h1 : (i + markerCount s - s.tracker.expected.getD i) % markerCount s = 1
    · rw [if_pos h1]; exact captured _ once
    · rw [if_neg h1]
      by_cases h2 : (i + markerCount s - s.tracker.expected.getD i) % markerCount s = 2
      · rw [if_pos h2]; exact captured _ twice
      · rw [if_neg h2]; exact positionFault_keeps ..

theorem markerRead_keeps (id : Nat) (s : State) : Keeps s (markerRead id s).1 := by
  unfold markerRead
  repeat' split
  · exact .refl s
  · exact .setTracker s _
  · exact .refl s
  · exact placeRead_keeps ..
  · exact acquire_keeps ..

theorem overdueCheck_keeps (n : Nat) (s : State) : Keeps s (overdueCheck n s) := by
  induction n generalizing s with
  | zero => exact .refl s
  | succ n ih => exact .ite ((missExpected_keeps s).trans (ih _)) (.refl s)

theorem trackExchange_keeps (distance : Int) (marker : Nat) (s : State) : Keeps s (trackExchange distance marker s) := by
  have travelled := (advanceTravel_keeps (clampedDistance distance) s).trans
    (integrate_keeps (clampedDistance distance) _)
  have read (b : Bool) (t : State) (h : Keeps s t) : Keeps s (if b then (t, false) else markerRead marker t).1 := by
    split
    · exact h
    · exact h.trans (markerRead_keeps ..)
  unfold trackExchange
  exact .ite (.refl s) (.ite ((read _ _ travelled).trans (overdueCheck_keeps ..)) (read _ _ travelled))

/-! ## Steering -/

theorem clampInt_mem {lo hi i : Int} (h : lo ≤ hi) : lo ≤ clampInt lo hi i ∧ clampInt lo hi i ≤ hi := by
  unfold clampInt
  split_ifs <;> omega

/-- The slew step does not leave the limit (R55). -/
theorem slewed_limit {y u limit : Int} {a : Nat} (hy : |y| ≤ limit) (hu : |u| ≤ limit) : |slewed y u a| ≤ limit := by
  unfold slewed clampInt
  rw [abs_le] at *
  split_ifs <;> omega

theorem update_y (p : Params) (set : Fin 4) (f g d : Int) (now : Nat) (c : Steering)
    (h : c.y.natAbs ≤ p.steerLimit) : (c.update p set f g d now).y.natAbs ≤ p.steerLimit := by
  have hy : |c.y| ≤ (p.steerLimit : Int) := by rw [Int.abs_eq_natAbs]; exact_mod_cast h
  have := slewed_limit (a := p.slewRate * steeringElapsed c now) hy
    (u := clampInt (-p.steerLimit) p.steerLimit
      (rawDemand p.kp[set] p.kd[set] f (steeringError c g) (steeringRate c g d)))
    (by rw [abs_le]; exact clampInt_mem (by omega))
  rw [Int.abs_eq_natAbs] at this
  exact_mod_cast this

theorem first_y (g : Int) (c : Steering) : (c.first g).y = c.y := by
  unfold Steering.first
  split <;> rfl

theorem first_state (g : Int) (c : Steering) : (c.first g).state = c.state := by
  unfold Steering.first
  split <;> rfl

/-- A steering update in TRACKING. -/
theorem setSteering_update_keeps (g d : Int) (f : Int) (set : Fin 4) (now : Nat) (s : State)
    (h : s.steering.state = .tracking) :
    Keeps s (s.setSteering ((s.steering.first g).update s.params set f g d now)) where
  toSameGround := ⟨rfl, rfl, rfl, rfl, rfl, rfl, rfl, rfl, rfl, rfl⟩
  wli := rfl
  notices := .of_eq rfl
  energised := id
  log := id
  halt := haltRecorded_of rfl rfl rfl
  steering := fun hs =>
    { limit := update_y _ _ _ _ _ _ _ (by rw [first_y]; exact hs.limit)
      offline := fun ho => by
        have := (hs.offline ho).1
        rw [h] at this
        exact absurd this (by decide)
      idle := fun hi => by
        have : s.steering.state = .idle := by rw [← first_state g]; exact hi
        rw [h] at this
        exact absurd this (by decide)
      startUp := hs.startUp }
  slots := .refl _

theorem handCode_keeps (s : State) (g : Fin 3) (code : Nat) : Keeps s (handCode s g code) := .setDensity s _

theorem steeringUpdate_keeps (g d : Int) (s : State) (h : s.steering.state = .tracking) : Keeps s (steeringUpdate g d s) := by
  have moved := (setSteering_update_keeps g d (steeringFeedforward s) (steeringGainSet s) s.localMs s h).trans
    (handCode_keeps _ 0 (steeringCode ((s.steering.first g).update s.params (steeringGainSet s) (steeringFeedforward s) g d
      s.localMs).y))
  have lost (b : Bool) (t : State) (ht : Keeps s t) : Keeps s (if b then takeFault .guideLost .none 0 t else t) :=
    .ite (ht.trans (takeFault_keeps ..)) ht
  have saturated (b : Bool) (t : State) (ht : Keeps s t) : Keeps s (if b then takeFault .steerSaturated .none 0 t else t) :=
    .ite (ht.trans (takeFault_keeps ..)) ht
  exact saturated _ _ (lost _ _ moved)

theorem steerExchange_keeps (guide distance : Int) (s : State) : Keeps s (steerExchange guide distance s) := by
  have hg : Keeps s (s.setSteering { s.steering with guidePresent := guideSignal guide }) := .setSteering s _ rfl .rfl
  unfold steerExchange
  dsimp only
  split
  · next h => exact hg.trans (steeringUpdate_keeps _ _ _ h)
  · exact hg

/-! ## The Permit Unit's part of an exchange -/

theorem superviseSpeed_keeps (speed ceiling : Nat) (s : State) : Keeps s (superviseSpeed speed ceiling s) := by
  have counted := Keeps.setPermit s { s.permit with overspeed := min (s.permit.overspeed + 1) 6 } rfl rfl rfl
  unfold superviseSpeed
  exact .ite (.refl s) (.ite (.ite (counted.trans (takeFault_keeps ..)) counted)
    (.setPermit s { s.permit with overspeed := 0 } rfl rfl rfl))

theorem superviseStandstill_keeps (r : DcRecord) (s : State) : Keeps s (superviseStandstill r s) := by
  unfold superviseStandstill
  exact .ite (.setPermit s { s.permit with standstill := some (s.permit.standstill.getD s.localMs) } rfl rfl rfl)
    (.ite (stopStationary_keeps s) (.setPermit s { s.permit with standstill := none } rfl rfl rfl))

theorem takeReport_keeps (r : DcRecord) (s : State) : Keeps s (takeReport r s) := by
  have held := Keeps.setPermit s
    { s.permit with reportSpeed := r.speed, reportBrake := r.brake, reportFault := r.dcFault, reportCode := r.faultCode }
    rfl rfl rfl
  exact .ite (held.trans (takeFault_keeps ..)) held

theorem permitExchange_keeps (r : DcRecord) (ceiling : Nat) (s : State) : Keeps s (permitExchange r ceiling s) :=
  (superviseSpeed_keeps ..).trans ((superviseStandstill_keeps ..).trans (takeReport_keeps ..))

/-- An accepted exchange, passed to the three blocks (R182). -/
theorem passOn_keeps (r : DcRecord) (ceiling : Nat) (s : State) : Keeps s (passOn r ceiling s) :=
  (trackExchange_keeps ..).trans ((steerExchange_keeps ..).trans (permitExchange_keeps ..))

/-! ## Terminals -/

theorem ampReadyChanged_keeps (level : Bool) (s : State) : Keeps s (ampReadyChanged level s) :=
  .ite (.setSteering s { s.steering with ampWait := 0 } rfl .rfl) (.refl s)

theorem onboardStopChanged_keeps (level : Bool) (s : State) : Keeps s (onboardStopChanged level s) :=
  (refreshPermit_keeps s).trans (.ite (takeFault_keeps ..) (.refl _))

theorem Keeps.onTerminals (h : Keeps s t) (x : Terminals) : Keeps (s.setTerminals x) (t.setTerminals x) where
  localMs := h.localMs
  pending := h.pending
  startUp := h.startUp
  params := h.params
  tables := h.tables
  dli := h.dli
  clock := h.clock
  store := h.store
  terminals := rfl
  freeDraws := h.freeDraws
  wli := h.wli
  notices := ⟨h.notices.bound⟩
  energised := h.energised
  log := h.log
  halt := fun hr => haltRecorded_of (s := t) rfl rfl rfl (h.halt (haltRecorded_of (s := s.setTerminals x) rfl rfl rfl hr))
  steering := fun hs =>
    steeringHeld_of (s := t) rfl rfl .rfl rfl rfl 
      (h.steering (steeringHeld_of (s := s.setTerminals x) rfl rfl .rfl rfl rfl hs))
  slots := h.slots

/-- Everything that `Keeps` says but of the Terminal Matrix. -/
def KeepsOffTerminals (s t : State) : Prop := ∃ x, Keeps (s.setTerminals x) t

theorem KeepsOffTerminals.refl (s : State) : KeepsOffTerminals s s := ⟨s.terminals, .refl _⟩

theorem KeepsOffTerminals.trans (h : KeepsOffTerminals s t) (k : KeepsOffTerminals t u) : KeepsOffTerminals s u := by
  obtain ⟨x, h⟩ := h
  obtain ⟨y, k⟩ := k
  exact ⟨y, (h.onTerminals y).trans k⟩

theorem KeepsOffTerminals.of_keeps (h : Keeps s t) : KeepsOffTerminals s t := ⟨s.terminals, h⟩

theorem KeepsOffTerminals.setTerminals (s : State) (x : Terminals) : KeepsOffTerminals s (s.setTerminals x) := ⟨x, .refl _⟩

theorem KeepsOffTerminals.foldl {α : Type} {f : State → α → State} (h : ∀ s a, KeepsOffTerminals s (f s a)) (l : List α)
    (s : State) : KeepsOffTerminals s (l.foldl f s) := by
  induction l generalizing s with
  | nil => exact .refl s
  | cons a l ih => exact (h s a).trans (ih (f s a))

theorem setFiltered_keeps (i : Fin 27) (level : Bool) (s : State) : KeepsOffTerminals s (setFiltered i level s) :=
  .setTerminals s _

theorem changeInput_keeps (i : Fin 27) (level : Bool) (s : State) : KeepsOffTerminals s (changeInput i level s) := by
  unfold changeInput
  dsimp only
  split
  · exact (setFiltered_keeps i level s).trans (.of_keeps (seatInputChanged_keeps ..))
  · split
    · exact (setFiltered_keeps i level s).trans (.of_keeps (ampReadyChanged_keeps ..))
    · split
      · exact (setFiltered_keeps i level s).trans (.of_keeps (onboardStopChanged_keeps ..))
      · exact setFiltered_keeps i level s

theorem applyInput_keeps (s : State) (i : Fin 27) : KeepsOffTerminals s (applyInput s i) := by
  unfold applyInput
  dsimp only
  split
  · exact setFiltered_keeps ..
  · exact changeInput_keeps ..

theorem applyMap_keeps (s : State) : KeepsOffTerminals s (applyMap s) :=
  (KeepsOffTerminals.setTerminals s _).trans (.foldl applyInput_keeps _ _)

/-- What the completion of start-up leaves in force (R191). -/
theorem completeStartUp_facts (s : State) :
    (completeStartUp s).startUp = ⟨.complete, s.startUp.chosen⟩ ∧ (completeStartUp s).params = s.startUp.chosen ∧
      (completeStartUp s).tables = s.tables ∧ (completeStartUp s).clock = s.clock ∧
      (completeStartUp s).store = { s.store with activity := .idle } := by
  obtain ⟨x, h⟩ := applyMap_keeps (modStore (s.setParams s.startUp.chosen) fun x => { x with activity := .idle })
  have h2 := h.trans (enableSeats_keeps _)
  unfold completeStartUp
  dsimp only
  simp only [formCeilings_startUp, refreshPermit_startUp, formCeilings_params, refreshPermit_params, formCeilings_tables,
    refreshPermit_tables, formCeilings_clock, refreshPermit_clock, formCeilings_store, refreshPermit_store,
    State.setStartUp_startUp, State.setStartUp_params, State.setStartUp_tables, State.setStartUp_clock,
    State.setStartUp_store]
  refine ⟨?_, h2.params, h2.tables, h2.clock, h2.store⟩
  rw [h2.startUp]; rfl

end Sys2Proof.Machine
end

