-- ==== Sys2Proof/Laws/Faults.lean ====
section
/-! SUPPORT. A fault that the Permit Unit takes: the mode, the records and the permit after it (R14, R155, R165, R177),
and a position fault as a whole (R39). -/

namespace Sys2Proof.Machine

theorem raiseFault_mc (k : FaultKind) (sub : SubCause) (d : Nat) (s : State) :
    (raiseFault k sub d s).mc =
      if s.mc.mode = .offline ∨ s.mc.mode = .halt then s.mc else s.mc.enter .halt (haltHeld s.mc) := by
  unfold raiseFault
  dsimp only
  split <;> simp_all [steeringReact]

/-- From an online mode other than HALT a fault is its record and then one mode change. -/
theorem raiseFault_enter (k : FaultKind) (sub : SubCause) (d : Nat) {s : State} (h : s.mc.mode ≠ .offline)
    (hh : s.mc.mode ≠ .halt) :
    raiseFault k sub d s = enterMode .halt (haltHeld s.mc) (recordFault k sub d s) := by
  unfold raiseFault
  dsimp only
  split <;> simp_all

/-- What the Permit Unit holds of a fault in an online mode (R165). -/
theorem raiseFault_records (k : FaultKind) (sub : SubCause) (d : Nat) {s : State} (h : s.mc.mode ≠ .offline) :
    (raiseFault k sub d s).permit.first = some (s.permit.first.getD (faultRecordOf s k sub d)) ∧
      (raiseFault k sub d s).permit.active = insertKind k s.permit.active ∧
      (raiseFault k sub d s).permit.log = (s.permit.appendLog (faultRecordOf s k sub d)).log := by
  obtain ⟨h1, h2⟩ := recordFault_online k sub d s h
  have h3 := recordFault_log k sub d s
  unfold raiseFault
  dsimp only
  split
  · next hh => exact absurd hh h
  · exact ⟨h1, h2, h3⟩
  all_goals
    have hf := enterMode_formed .halt (haltHeld s.mc) (recordFault k sub d s)
    exact ⟨by rw [hf.first, h1], by rw [hf.active, h2], by rw [hf.log, h3]⟩

theorem mem_insertKind_self (k : FaultKind) (set : List FaultKind) : k ∈ insertKind k set :=
  List.mem_filter.2 ⟨by cases k <;> simp [FaultKind.all], by simp⟩

theorem mem_insertKind {k j : FaultKind} {set : List FaultKind} (h : j ∈ set) : j ∈ insertKind k set :=
  List.mem_filter.2 ⟨by cases j <;> simp [FaultKind.all], by simp [h]⟩

/-! ## RC silence found in HALT -/

theorem rcCheck_halt_mc {s : State} (h : s.mc.mode = .halt) : (rcCheck s).mc = s.mc := by
  unfold rcCheck
  split
  · rw [raiseFault_mc]; simp [h]
  · rfl

/-- In HALT, RC silence moves the fault records only. -/
theorem rcCheck_halt_permit {s : State} (h : s.mc.mode = .halt) :
    (rcCheck s).permit.level = s.permit.level ∧ (rcCheck s).permit.speedCeiling = s.permit.speedCeiling ∧
      (s.permit.first.isSome → (rcCheck s).permit.first = s.permit.first) := by
  unfold rcCheck
  split
  · unfold raiseFault
    dsimp only
    split <;> simp_all [steeringReact, recordFault, Mode.online, PermitUnit.appendLog]
    intro hs
    obtain ⟨x, hx⟩ := Option.isSome_iff_exists.1 hs
    simp [hx]
  · simp

theorem rcCheck_active {s : State} {k : FaultKind} (h : k ∈ s.permit.active) (hm : s.mc.mode ≠ .offline) :
    k ∈ (rcCheck s).permit.active := by
  unfold rcCheck
  split
  · rw [(raiseFault_records _ _ _ (by simpa using hm)).2.1]; exact mem_insertKind h
  · exact h

/-! ## The permit in HALT -/

theorem refreshPermit_halt {s : State} (hm : s.mc.mode = .halt) (hc : s.startUp.phase = .complete) :
    (refreshPermit s).permit.level = .emergency := by
  have : permitLevelOf s = .emergency := by simp [permitLevelOf, modePermit, hm, PermitLevel.lower, PermitLevel.code]
  unfold refreshPermit
  simp only [this, startingUp, hc]
  split
  · next h => simpa using (by simpa using h : PermitLevel.emergency = s.permit.level).symm
  · simp [formCeilings]

theorem formCeilings_still {s : State} (h : s.permit.level.still = true) : (formCeilings s).permit.speedCeiling = 0 := by
  have : s.permit.level = .stop ∨ s.permit.level = .emergency := by
    cases hl : s.permit.level <;> simp_all [PermitLevel.still]
  rcases this with h | h <;> simp [formCeilings, speedCeilingOf, h]

/-- After entry into HALT the permit is EMERGENCY and the speed ceiling 0 (R3, R155, R157). -/
theorem enterMode_halt_permit (held : HeldFrom) {s : State} (hc : s.startUp.phase = .complete) :
    (enterMode .halt held s).permit.level = .emergency ∧ (enterMode .halt held s).permit.speedCeiling = 0 := by
  simp only [enterMode, dispatchScene_permit, releaseAtModeChange_permit]
  have hl := refreshPermit_halt (s := tellBlocks s.mc.mode .halt (modMc s (ModeController.enter .halt held)))
    (by simp [ModeController.enter]) (by simpa using hc)
  exact ⟨hl, formCeilings_still (by rw [hl]; rfl)⟩

/-! ## What a taken fault says, whole -/

/-- The last record of the log outlasts the next one (R168). -/
theorem mem_appendLog_of_getLast {u : PermitUnit} {x : Nat × FaultRecord} (q : FaultRecord) (h : u.log.getLast? = some x) :
    x ∈ (u.appendLog q).log := by
  obtain ⟨l, hl⟩ := List.getLast?_eq_some_iff.1 h
  simp only [PermitUnit.appendLog, hl]
  split
  · simp
  · next hn =>
    cases l with
    | nil => simp at hn
    | cons a l => simp

theorem raiseFault_log (k : FaultKind) (sub : SubCause) (d : Nat) (s : State) :
    (raiseFault k sub d s).permit.log = (s.permit.appendLog (faultRecordOf s k sub d)).log := by
  by_cases h : s.mc.mode = .offline
  · have : raiseFault k sub d s = recordFault k sub d s := by unfold raiseFault; simp [h]
    rw [this, recordFault_log]
  · exact (raiseFault_records k sub d h).2.2

theorem mem_rcCheck_log {s : State} {x : Nat × FaultRecord} (h : s.permit.log.getLast? = some x) :
    x ∈ (rcCheck s).permit.log := by
  unfold rcCheck
  split
  · rw [raiseFault_log]; exact mem_appendLog_of_getLast _ h
  · exact List.mem_of_getLast? h

/-- HALT from an online mode, OFFLINE from OFFLINE (R14, R167). -/
theorem takeFault_mode (k : FaultKind) (sub : SubCause) (d : Nat) (s : State) :
    (takeFault k sub d s).mc.mode = if s.mc.mode = .offline then .offline else .halt := by
  unfold takeFault
  have h := raiseFault_mc k sub d s
  dsimp only
  by_cases ho : s.mc.mode = .offline
  · simp [h, ho]
  · by_cases hh : s.mc.mode = .halt
    · simp [h, hh]
    · simp only [h, ho, hh, or_self, if_false]
      have : (s.mc.enter .halt (haltHeld s.mc)).mode = .halt := rfl
      rw [if_neg (by rw [this]; exact fun e => hh e.symm), rcCheck_halt_mc (by rw [h]; simp [ho, hh, this]), h]
      simp [ho, hh, this]

/-- The record of a fault is in the log, also where RC silence is found after it (R165, R168, R177). -/
theorem takeFault_logged (k : FaultKind) (sub : SubCause) (d : Nat) (s : State) :
    (s.permit.nextNumber, faultRecordOf s k sub d) ∈ (takeFault k sub d s).permit.log := by
  have h : (raiseFault k sub d s).permit.log.getLast? = some (s.permit.nextNumber, faultRecordOf s k sub d) := by
    rw [raiseFault_log]; simp [PermitUnit.appendLog]
  unfold takeFault
  dsimp only
  split
  · exact List.mem_of_getLast? h
  · exact mem_rcCheck_log h

theorem takeFault_active (k : FaultKind) (sub : SubCause) (d : Nat) {s : State} (h : s.mc.mode ≠ .offline) :
    k ∈ (takeFault k sub d s).permit.active := by
  have ha : k ∈ (raiseFault k sub d s).permit.active := by
    rw [(raiseFault_records k sub d h).2.1]; exact mem_insertKind_self k _
  unfold takeFault
  dsimp only
  split
  · exact ha
  · refine rcCheck_active ha ?_
    rw [raiseFault_mc]
    split
    · exact h
    · exact nofun

theorem takeFault_taken (k : FaultKind) (d : Nat) {s : State} (h : s.mc.mode ≠ .offline) :
    FaultTaken k d s (takeFault k .none d s) where
  logged := ⟨_, takeFault_logged k .none d s⟩
  active := takeFault_active k .none d h
  halt := by rw [takeFault_mode, if_neg h]

/-! ## The position cursor -/

theorem soundModeChange_cues (old new : Mode) (s : State) : (soundModeChange old new s).cues = s.cues := by
  unfold soundModeChange soundEnterHold
  repeat' split
  all_goals rfl

theorem tellBlocks_cues (old new : Mode) (s : State) : (tellBlocks old new s).cues = cuesModeChange new s.cues := by
  unfold tellBlocks
  dsimp only
  split_ifs <;> simp [steeringReact, handCode, densityStart, densityStop, soundModeChange_cues]

theorem enterMode_halt_cursor (held : HeldFrom) (s : State) : (enterMode .halt held s).cues.cursor = s.cues.cursor := by
  have hm : (releaseAtModeChange s.mc.mode (formCeilings (refreshPermit (tellBlocks s.mc.mode .halt
      (modMc s (ModeController.enter .halt held)))))).mc.mode = .halt := by simp [ModeController.enter]
  unfold enterMode dispatchScene
  simp only
  rw [if_neg (by rw [hm]; simp)]
  simp [tellBlocks_cues, cuesModeChange]

theorem raiseFault_cursor (k : FaultKind) (sub : SubCause) (d : Nat) (s : State) :
    (raiseFault k sub d s).cues.cursor = s.cues.cursor := by
  unfold raiseFault
  simp only
  split <;> simp [enterMode_halt_cursor, steeringReact]

theorem takeFault_cursor (k : FaultKind) (sub : SubCause) (d : Nat) (s : State) :
    (takeFault k sub d s).cues.cursor = s.cues.cursor := by
  unfold takeFault rcCheck
  simp only
  (repeat' split) <;> simp [raiseFault_cursor]

theorem evalReady_halted {s : State} (h : s.mc.mode = .halt ∨ s.mc.mode = .offline) : evalReady s = s := by
  unfold evalReady
  rcases h with h | h <;> simp [h]

/-- A position fault, whole (R39, R91, R165). -/
theorem positionFault_faulted (sub : SubCause) (d : Nat) (s : State) :
    PositionFaulted sub d s (positionFault sub d s) := by
  obtain ⟨u, hu⟩ : ∃ u, u = cuesUnsync (modTracker s fun t =>
    { t with position := .unsync, expected := none, misses := 0 }) := ⟨_, rfl⟩
  have hmode : u.mc = s.mc := by rw [hu]; rfl
  have hp : positionFault sub d s = formCeilings (refreshPermit (takeFault .position sub d u)) := by
    rw [hu]
    exact evalReady_halted (by
      simp only [formCeilings_mc, refreshPermit_mc, takeFault_mode]
      split
      · exact .inr rfl
      · exact .inl rfl)
  have hf := (refreshPermit_formed (takeFault .position sub d u)).trans (formCeilings_formed _)
  rw [hp]
  refine ⟨?_, ?_, ?_, fun h => ⟨?_, ?_⟩⟩
  · rw [formCeilings_tracker, refreshPermit_tracker, takeFault_tracker, hu]; rfl
  · rw [formCeilings_cues, refreshPermit_cues, takeFault_cursor, hu]; rfl
  · refine ⟨s.permit.nextNumber, ?_⟩
    rw [hf.log]
    have := takeFault_logged .position sub d u
    rw [hu] at this ⊢
    exact this
  · rw [formCeilings_mc, refreshPermit_mc, takeFault_mode, if_neg (by rw [hmode]; exact h)]
  · rw [hf.active]; exact takeFault_active _ _ _ (by rw [hmode]; exact h)

end Sys2Proof.Machine
end

