-- ==== Sys2Proof/Laws/Memory.lean ====
section
/-! SUPPORT. The clip region: every operation keeps the canonical form, and what each leaves of the bytes a read finds. -/

namespace Sys2Proof.Machine

/-! ## The canonical form as a proposition -/

theorem risingCells_iff (l : List Host.Cell) : risingCells l = true ↔ l.Pairwise fun a b => a.1 < b.1 := by
  induction l with
  | nil => simp [risingCells]
  | cons c rest ih =>
    cases rest with
    | nil => simp [risingCells]
    | cons d rest =>
      simp only [risingCells, Bool.and_eq_true, decide_eq_true_eq, ih]
      constructor
      · rintro ⟨h, p⟩
        refine List.pairwise_cons.2 ⟨fun e he => ?_, p⟩
        rcases List.mem_cons.1 he with rfl | he
        · exact h
        · exact lt_trans h ((List.pairwise_cons.1 p).1 e he)
      · intro p
        exact ⟨(List.pairwise_cons.1 p).1 d (by simp), (List.pairwise_cons.1 p).2⟩

theorem Memory.wf_iff (m : Memory) :
    m.wf = true ↔ (m.cells.Pairwise fun a b => a.1 < b.1) ∧ ∀ c ∈ m.cells, c.2 ≠ m.unlisted c.1 := by
  simp [Memory.wf, risingCells_iff]

theorem Memory.wf_empty (marks : List (Nat × BlockMark)) : (Memory.mk [] marks).wf = true := by
  simp [Memory.wf, risingCells]

/-! ## putCell -/

theorem mem_putCell {address : Nat} {byte : Option Byte} {l : List Host.Cell} {c : Host.Cell}
    (h : c ∈ putCell address byte l) : c ∈ l ∨ (c.1 = address ∧ byte = some c.2) := by
  induction l with
  | nil => cases byte <;> simp_all [putCell]
  | cons d rest ih =>
    obtain ⟨a, old⟩ := d
    unfold putCell at h
    split at h
    · cases byte <;> simp_all
      rcases h with rfl | h <;> simp_all
    · split at h
      · cases byte <;> simp_all
        rcases h with rfl | h <;> simp_all
      · rcases List.mem_cons.1 h with rfl | h
        · simp
        · rcases ih h with h | h
          · exact .inl (List.mem_cons_of_mem _ h)
          · exact .inr h

theorem pairwise_putCell {address : Nat} {byte : Option Byte} {l : List Host.Cell}
    (h : l.Pairwise fun a b => a.1 < b.1) : (putCell address byte l).Pairwise fun a b => a.1 < b.1 := by
  induction l with
  | nil => cases byte <;> simp [putCell]
  | cons d rest ih =>
    obtain ⟨a, old⟩ := d
    obtain ⟨hd, hr⟩ := List.pairwise_cons.1 h
    unfold putCell
    split
    · next hlt =>
      cases byte with
      | none => exact h
      | some b =>
        refine List.pairwise_cons.2 ⟨fun e he => ?_, h⟩
        rcases List.mem_cons.1 he with rfl | he
        · exact hlt
        · exact lt_trans hlt (hd e he)
    · split
      · next heq =>
        cases byte with
        | none => exact hr
        | some b => exact List.pairwise_cons.2 ⟨fun e he => by simpa [heq] using hd e he, hr⟩
      · next hge hne =>
        refine List.pairwise_cons.2 ⟨fun e he => ?_, ih hr⟩
        rcases mem_putCell he with he | ⟨he, -⟩
        · exact hd e he
        · simp only [he]; omega

theorem findCell_of_lt {l : List Host.Cell} {x : Nat} (h : ∀ c ∈ l, x < c.1) : findCell l x = none := by
  induction l with
  | nil => rfl
  | cons d rest ih =>
    obtain ⟨a, old⟩ := d
    have := h (a, old) (by simp)
    simp only [findCell]
    rw [if_neg (by simp at this; omega)]
    exact ih fun c hc => h c (List.mem_cons_of_mem _ hc)

theorem findCell_putCell {address : Nat} {byte : Option Byte} {l : List Host.Cell} (x : Nat)
    (h : l.Pairwise fun a b => a.1 < b.1) :
    findCell (putCell address byte l) x = if x = address then byte else findCell l x := by
  induction l with
  | nil =>
    cases byte <;> by_cases hx : address = x <;> simp [putCell, findCell, hx]
    · exact fun e => absurd e.symm hx
  | cons d rest ih =>
    obtain ⟨a, old⟩ := d
    obtain ⟨hd, hr⟩ := List.pairwise_cons.1 h
    unfold putCell
    split
    · next hlt =>
      have none_of : findCell ((a, old) :: rest) address = none := findCell_of_lt fun e he => by
        rcases List.mem_cons.1 he with rfl | he
        · exact hlt
        · exact lt_trans hlt (hd e he)
      cases byte with
      | none => by_cases hx : x = address <;> simp [hx, none_of]
      | some b =>
        by_cases hx : x = address
        · simp [findCell, hx]
        · simp [findCell, hx, Ne.symm hx]
    · split
      · next heq =>
        subst heq
        have none_of : findCell rest address = none := findCell_of_lt fun e he => hd e he
        cases byte with
        | none =>
          by_cases hx : x = address
          · simp [hx, none_of]
          · simp [findCell, hx, Ne.symm hx]
        | some b =>
          by_cases hx : x = address
          · simp [findCell, hx]
          · simp [findCell, hx, Ne.symm hx]
      · next hge hne =>
        simp only [findCell, ih hr]
        by_cases hx : x = address
        · subst hx; simp [Ne.symm hne]
        · simp [hx]

/-! ## One byte -/

/-- A write keeps the marks: what unlisted bytes read as does not move. -/
@[simp] theorem Memory.write_marks (m : Memory) (a : Nat) (b : Byte) : (m.write a b).marks = m.marks := rfl

@[simp] theorem Memory.write_unlisted (m : Memory) (a : Nat) (b : Byte) : (m.write a b).unlisted = m.unlisted := rfl

theorem Memory.wf_write {m : Memory} (h : m.wf = true) (a : Nat) (b : Byte) : (m.write a b).wf = true := by
  rw [Memory.wf_iff] at h ⊢
  refine ⟨pairwise_putCell h.1, fun c hc => ?_⟩
  rcases mem_putCell hc with hc | ⟨ha, hb⟩
  · exact h.2 c hc
  · split at hb
    · exact absurd hb (by simp)
    · next hne => simp only [Option.some.injEq] at hb; subst hb; rw [ha]; exact hne

/-- A write is read back at its address and nowhere else. -/
theorem Memory.read_write {m : Memory} (h : m.wf = true) (a : Nat) (b : Byte) (x : Nat) :
    (m.write a b).read x = if x = a then b else m.read x := by
  rw [Memory.wf_iff] at h
  unfold Memory.read
  simp only [Memory.write_unlisted]
  show (findCell (putCell a _ m.cells) x).getD _ = _
  rw [findCell_putCell x h.1]
  by_cases hx : x = a
  · subst hx
    by_cases hb : b = m.unlisted x <;> simp [hb]
  · simp [hx]

/-! ## Runs of bytes -/

theorem Memory.wf_writeAll {m : Memory} (h : m.wf = true) (a : Nat) (data : List Byte) :
    (m.writeAll a data).wf = true := by
  induction data generalizing m a with
  | nil => exact h
  | cons b rest ih => exact ih (Memory.wf_write h a b) (a + 1)

/-- After a write of bytes, each of them is read at its address, and every other address reads as before. -/
theorem Memory.read_writeAll {m : Memory} (h : m.wf = true) (a : Nat) (data : List Byte) (x : Nat) :
    (m.writeAll a data).read x = if a ≤ x then (data[x - a]?).getD (m.read x) else m.read x := by
  induction data generalizing m a with
  | nil => simp [Memory.writeAll]
  | cons b rest ih =>
    rw [Memory.writeAll, ih (Memory.wf_write h a b), Memory.read_write h]
    rcases lt_trichotomy x a with hx | hx | hx
    · rw [if_neg (by omega), if_neg (by omega), if_neg (by omega)]
    · subst hx; rw [if_neg (by omega), if_pos rfl]; simp
    · rw [if_pos (by omega), if_neg (by omega), if_pos (by omega)]
      obtain ⟨k, rfl⟩ : ∃ k, x = a + 1 + k := ⟨x - (a + 1), by omega⟩
      rw [show a + 1 + k - (a + 1) = k by omega, show a + 1 + k - a = k + 1 by omega, List.getElem?_cons_succ]

theorem Memory.wf_tearWrite {m : Memory} (h : m.wf = true) (n a : Nat) (data : List Byte) :
    (m.tearWrite n a data).wf = true := by
  induction data generalizing m a with
  | nil => exact h
  | cons b rest ih =>
    unfold Memory.tearWrite
    split
    · exact ih (Memory.wf_write h a b) (a + 1)
    · exact ih h (a + 1)

theorem Memory.wf_loseWrite {m : Memory} (h : m.wf = true) (n a count : Nat) : (m.loseWrite n a count).wf = true := by
  induction count generalizing m a with
  | zero => exact h
  | succ k ih => exact ih (Memory.wf_write h a _) (a + 1)

/-! ## Blocks -/

theorem unlistedFrom_filter {block : Nat} {marks : List (Nat × BlockMark)} {x : Nat}
    (h : x / Config.eraseBlockBytes ≠ block) :
    unlistedFrom (marks.filter fun k => k.1 != block) x = unlistedFrom marks x := by
  induction marks with
  | nil => rfl
  | cons k rest ih =>
    obtain ⟨b, mark⟩ := k
    by_cases hb : b = block
    · subst hb
      simp [unlistedFrom, ih, Ne.symm h]
    · simp only [List.filter_cons, bne_iff_ne, ne_eq, hb, not_false_eq_true, if_true, unlistedFrom, ih]

theorem findCell_filter {p : Nat → Bool} {l : List Host.Cell} {x : Nat} :
    findCell (l.filter fun c => p c.1) x = if p x then findCell l x else none := by
  induction l with
  | nil => simp [findCell]
  | cons d rest ih =>
    obtain ⟨a, old⟩ := d
    by_cases hp : p a <;> by_cases hx : a = x
    · subst hx; simp [findCell, hp]
    · simp [findCell, hp, hx, ih]
    · subst hx; simp [hp, ih]
    · simp [findCell, hp, hx, ih]

/-- The marks of another block do not matter to a byte. -/
theorem unlisted_of_mark {block : Nat} {mark : BlockMark} {marks : List (Nat × BlockMark)} {x : Nat}
    (h : x / Config.eraseBlockBytes ≠ block) :
    unlistedFrom ((block, mark) :: marks.filter fun k => k.1 != block) x = unlistedFrom marks x := by
  simp only [unlistedFrom.eq_def ((block, mark) :: _), if_neg (Ne.symm h), unlistedFrom_filter h]

theorem wf_markBlock {m : Memory} (h : m.wf = true) (block : Nat) (mark : BlockMark) :
    Memory.wf ⟨m.cells.filter fun c => c.1 / Config.eraseBlockBytes != block,
      (block, mark) :: m.marks.filter fun k => k.1 != block⟩ = true := by
  rw [Memory.wf_iff] at h ⊢
  refine ⟨h.1.filter _, fun c hc => ?_⟩
  obtain ⟨hm, hb⟩ := List.mem_filter.1 hc
  show c.2 ≠ unlistedFrom _ c.1
  rw [unlisted_of_mark (by simpa using hb)]
  exact h.2 c hm

theorem Memory.wf_eraseBlock {m : Memory} (h : m.wf = true) (block : Nat) : (m.eraseBlock block).wf = true :=
  wf_markBlock h block .erased

theorem Memory.wf_loseErase {m : Memory} (h : m.wf = true) (n block : Nat) : (m.loseErase n block).wf = true :=
  wf_markBlock h block (.lost n)

/-- After an erase every byte of the block reads as the erased byte, and every other byte reads as before. -/
theorem Memory.read_eraseBlock (m : Memory) (block x : Nat) :
    (m.eraseBlock block).read x = if x / Config.eraseBlockBytes = block then Config.erasedByte else m.read x := by
  unfold Memory.read Memory.eraseBlock Memory.unlisted
  simp only [findCell_filter (p := fun a => a / Config.eraseBlockBytes != block)]
  by_cases h : x / Config.eraseBlockBytes = block
  · simp [h, unlistedFrom]
  · simp only [bne_iff_ne, ne_eq, h, not_false_eq_true, if_true, if_false, unlisted_of_mark h]

theorem Memory.wf_tearErase {m : Memory} (h : m.wf = true) (n block : Nat) : (m.tearErase n block).wf = true := by
  rw [Memory.wf_iff] at h ⊢
  refine ⟨h.1.filter _, fun c hc => ?_⟩
  obtain ⟨hm, hb⟩ := List.mem_filter.1 hc
  have := h.2 c hm
  simp only [Memory.tearErase, Memory.unlisted, unlistedFrom] at this ⊢
  by_cases hblock : block = c.1 / Config.eraseBlockBytes
  · have ht : Config.tornIsNew n c.1 = false := by simpa [hblock] using hb
    simpa [hblock, ht] using this
  · simpa [hblock] using this

/-! ## The operations of the Store Controller -/

theorem wf_storeEffect {m : Memory} (h : m.wf = true) (a : StoreActivity) : (storeEffect m a).wf = true := by
  cases a <;> simp only [storeEffect] <;> first | exact h | exact Memory.wf_writeAll h .. | exact Memory.wf_eraseBlock h ..

theorem wf_storeLoss {m : Memory} (h : m.wf = true) (n : Nat) (a : StoreActivity) : (storeLoss m n a).wf = true := by
  cases a <;> simp only [storeLoss] <;> first | exact h | exact Memory.wf_loseWrite h .. | exact Memory.wf_loseErase h ..

theorem wf_tornMemory {m : Memory} (h : m.wf = true) (n : Nat) (a : StoreActivity) : (tornMemory m n a).wf = true := by
  cases a <;> simp only [tornMemory] <;> first | exact h | exact Memory.wf_tearWrite h .. | exact Memory.wf_tearErase h ..

theorem State.reset_memory_wf : State.reset.store.memory.wf = true := Memory.wf_empty []

end Sys2Proof.Machine
end

