-- ==== Sys2Proof/Laws/Releases.lean ====
section
/-! SUPPORT. The READY evaluation, the watched modes, a seat's change of state, the permit level and the release queue: what their
functions compute, in the words of the statements. -/

namespace Sys2Proof.Machine

variable {s : State}

/-! ## Conditions -/

theorem ready_iff (x : SeatState) : x.ready = true ↔ x = .verified ∨ x = .bypassed ∨ x = .disabled := by
  cases x <;> simp [SeatState.ready]

theorem mem_allSeats (i : Fin 8) : i ∈ allSeats := by revert i; decide

theorem allReady_iff : allReady s = true ↔ SeatsReady s := by
  simp only [allReady, List.all_eq_true, SeatsReady, ready_iff]
  exact ⟨fun h i => h i (mem_allSeats i), fun h i _ => h i⟩

theorem releaseInProgress_iff : releaseInProgress s = true ↔ s.restraint.queue ≠ [] ∨ s.restraint.energised ≠ [] := by
  simp [releaseInProgress]

theorem readyConditions_iff : readyConditions s = true ↔ ReadyMet s := by
  have h : readyConditions s = true ↔ SeatsReady s ∧ s.tracker.position = .sync ∧ s.permit.stationary = true ∧
      s.mc.advance = none ∧ (s.restraint.queue = [] ∧ s.restraint.energised = []) ∧ s.permit.active = [] := by
    simp [readyConditions, releaseInProgress, allReady_iff, and_assoc]
  exact h.trans ⟨fun ⟨a, b, c, d, e, f⟩ => ⟨a, b, c, d, e, f⟩,
    fun h => ⟨h.seats, h.position, h.stationary, h.advance, h.release, h.faults⟩⟩

theorem watched_iff : watched s = true ↔ RestraintsWatched s := by
  cases hm : s.mc.mode <;> simp [watched, RestraintsWatched, hm]
  cases s.mc.heldFrom <;> simp

theorem still_iff (l : PermitLevel) : l.still = true ↔ l = .stop ∨ l = .emergency := by
  cases l <;> simp [PermitLevel.still]

theorem releaseCondition_iff : releaseCondition s = true ↔ ReleaseAllowed s := by
  constructor
  · intro h
    simp only [releaseCondition, Bool.and_eq_true, still_iff] at h
    have hp := h.1
    cases hm : s.mc.mode <;> simp [hm] at h <;> exact ⟨hp, by simp_all, by simp_all, by simp_all, by simp_all⟩
  · intro h
    simp only [releaseCondition, Bool.and_eq_true, still_iff]
    refine ⟨h.permit, ?_⟩
    have hg := h.ground; have hu := h.unload; have hh := h.hold; have hr := h.run
    cases hm : s.mc.mode <;> simp_all

/-! ## The permit level -/

theorem permitLevelOf_formed : LevelFormed s (permitLevelOf s) := by
  have ha : onboardStop s = s.terminals.filtered[(25 : Fin 27)] := rfl
  constructor
  · intro h
    cases hm : s.mc.mode <;> cases ho : onboardStop s <;> cases hp : s.tracker.position <;> cases hs : allReady s <;>
      cases hb : s.mc.berthed <;> cases hv : s.mc.advance <;>
      simp_all [permitLevelOf, modePermit, PermitLevel.lower, PermitLevel.code]
  · intro h ho hs
    rw [← allReady_iff] at hs
    rw [← ha] at ho
    cases hm : s.mc.mode <;> cases hp : s.tracker.position <;> cases hr : allReady s <;>
      cases hb : s.mc.berthed <;> cases hv : s.mc.advance <;>
      simp_all [permitLevelOf, modePermit, PermitLevel.lower, PermitLevel.code, ModeStops]
  · intro h ho hs hr hc
    rw [← allReady_iff] at hr
    rw [← ha] at ho
    cases hm : s.mc.mode <;> cases hp : s.tracker.position <;>
      cases hb : s.mc.berthed <;> cases hv : s.mc.advance <;>
      simp_all [permitLevelOf, modePermit, PermitLevel.lower, PermitLevel.code, ModeStops]
  · intro ho hr hp hc
    rw [← allReady_iff] at hr
    rw [← ha] at ho
    rcases hc with hm | ⟨hm, hv, hb⟩ <;> simp_all [permitLevelOf, modePermit, PermitLevel.lower, PermitLevel.code]

/-- The permit level once it is formed again (R155, R156). -/
theorem refreshPermit_level (h : s.startUp.phase = .complete) : (refreshPermit s).permit.level = permitLevelOf s := by
  unfold refreshPermit
  dsimp only
  split
  · next hc => exact (hc.resolve_left (by simp [startingUp, h])).symm
  · rw [judgeRelease_eq]
    rfl

/-! ## The release queue (R74) -/

theorem mem_insertSeat {i j : Fin 8} {set : List (Fin 8)} : j ∈ insertSeat i set ↔ j = i ∨ j ∈ set := by
  simp [insertSeat, mem_allSeats]

theorem insertSeat_nodup (i : Fin 8) (set : List (Fin 8)) : (insertSeat i set).Nodup :=
  (by decide : allSeats.Nodup).filter _

theorem insertSeat_length_new {i : Fin 8} {set : List (Fin 8)} (hn : set.Nodup) (hi : i ∉ set) :
    (insertSeat i set).length = set.length + 1 := by
  have hp : (insertSeat i set).Perm (i :: set) :=
    (List.perm_ext_iff_of_nodup (insertSeat_nodup i set) (List.nodup_cons.2 ⟨hi, hn⟩)).2 fun j => by
      simp [mem_insertSeat]
  simpa using hp.length_eq

theorem energiseOne_nil (pulse : Nat) {r : Restraint} (h : r.queue = []) : r.energiseOne pulse = r := by
  unfold Restraint.energiseOne
  rw [h]

theorem energiseOne_full (pulse : Nat) {r : Restraint} (h : 2 ≤ r.energised.length) : r.energiseOne pulse = r := by
  unfold Restraint.energiseOne
  split
  · rfl
  · rw [if_neg (by omega)]

/-- One seat energised: the place it takes, and its pulse. -/
theorem energiseOne_cons (pulse : Nat) {r : Restraint} {i : Fin 8} {rest : List (Fin 8)} (h : r.queue = i :: rest)
    (hl : r.energised.length < 2) :
    (r.energiseOne pulse).queue = rest ∧ (r.energiseOne pulse).energised = insertSeat i r.energised ∧
      (∀ j : Fin 8, (r.energiseOne pulse).seats[j] =
        if j = i then { r.seats[i] with pulseElapsed := 0, pulseTime := pulse } else r.seats[j]) := by
  unfold Restraint.energiseOne
  rw [h]
  dsimp only
  rw [if_pos hl]
  refine ⟨rfl, rfl, fun j => ?_⟩
  by_cases hj : j = i
  · simp [hj, Restraint.modSeat]
  · have hv : i.val ≠ j.val := fun h => hj (Fin.ext h.symm)
    simp [hj, hv, Restraint.modSeat]

/-- What two energisings leave of a queue and a set that name no seat twice (R74). -/
theorem fill_filled (pulse : Nat) (r : Restraint) (hn : (r.queue ++ r.energised).Nodup) (hb : r.energised.length ≤ 2) :
    ReleaseFilled r.queue r.energised pulse (r.fill pulse) := by
  unfold Restraint.fill
  cases hq : r.queue with
  | nil =>
    rw [energiseOne_nil pulse hq, energiseOne_nil pulse hq]
    exact ⟨by simp [hq], by simp, hb, by simp⟩
  | cons i rest =>
    rw [hq] at hn
    obtain ⟨hir, hne⟩ := List.nodup_cons.1 (show (i :: (rest ++ r.energised)).Nodup from hn)
    have hi : i ∉ r.energised := fun h => hir (List.mem_append_right _ h)
    have hne' : r.energised.Nodup := (List.nodup_append.1 hne).2.1
    by_cases hl : r.energised.length < 2
    · obtain ⟨q1, e1, s1⟩ := energiseOne_cons pulse hq hl
      have l1 : (r.energiseOne pulse).energised.length = r.energised.length + 1 := by
        rw [e1, insertSeat_length_new hne' hi]
      by_cases hl1 : r.energised.length = 1
      · rw [energiseOne_full pulse (by omega : 2 ≤ (r.energiseOne pulse).energised.length)]
        exact ⟨by simp [q1, hl1], fun j => by simp [e1, mem_insertSeat, hl1, or_comm], by omega, fun j hj => by
          have : j = i := by simpa [hl1] using hj
          simp [s1, this]⟩
      · have hl0 : r.energised = [] := List.length_eq_zero_iff.1 (by omega)
        cases rest with
        | nil =>
          rw [energiseOne_nil pulse q1]
          exact ⟨by simp [q1, hl0], fun j => by simp [e1, mem_insertSeat, hl0], by omega, fun j hj => by
            have : j = i := by simpa [hl0] using hj
            simp [s1, this]⟩
        | cons k more =>
          have hk : k ≠ i := fun h => hir (by simp [h])
          obtain ⟨q2, e2, s2⟩ := energiseOne_cons pulse q1 (by rw [l1, hl0]; decide)
          have hki : k ∉ (r.energiseOne pulse).energised := by simp [e1, mem_insertSeat, hl0, hk]
          have l2 := insertSeat_length_new (by rw [e1]; exact insertSeat_nodup _ _) hki
          refine ⟨by simp [q2, hl0], fun j => by simp [e2, e1, mem_insertSeat, hl0, or_comm], ?_, fun j hj => ?_⟩
          · rw [e2, l2, l1, hl0]
            rfl
          · have : j = i ∨ j = k := by simpa [hl0] using hj
            rcases this with rfl | rfl
            · rw [s2, if_neg (Ne.symm hk), s1, if_pos rfl]
              exact ⟨rfl, rfl⟩
            · rw [s2, if_pos rfl]
              exact ⟨rfl, rfl⟩
    · have h2 : r.energised.length = 2 := by omega
      have hf : r.energiseOne pulse = r := energiseOne_full pulse (by omega)
      rw [hf, hf]
      exact ⟨by simp [hq, h2], by simp [h2], hb, by simp [h2]⟩

/-! ## The READY evaluation (R7) -/

/-- Every seat satisfies readiness and no release is in progress. -/
def RestReady (s : State) : Prop := SeatsReady s ∧ s.restraint.queue = [] ∧ s.restraint.energised = []

/-- The end of a release by the loss of its condition (R79). -/
theorem endRelease_ended (s : State) : ReleaseEnded s (endRelease s) := by
  have hp (i : Fin 8) : releasePending s i = true ↔ i ∈ s.restraint.queue ∨ i ∈ s.restraint.energised := by
    simp [releasePending]
  refine ⟨fun i hi => ?_, fun i hq he => ?_, rfl, rfl, rfl⟩
  · simp [endRelease, modRestraint_eq, (hp i).2 hi, Seat.releaseLost, Seat.enterEvaluation]
  · have : releasePending s i = false := by simp [releasePending, hq, he]
    simp [endRelease, modRestraint_eq, this]

/-- Judging the release condition ends a release exactly where the condition does not hold (R79). -/
theorem judgeRelease_ended (h : s.restraint.queue ≠ [] ∨ s.restraint.energised ≠ []) (hc : ¬ReleaseAllowed s) :
    judgeRelease s = endRelease s := by
  have := releaseInProgress_iff.2 h
  have hc : releaseCondition s = false := by rw [← Bool.not_eq_true, releaseCondition_iff]; exact hc
  simp [judgeRelease, this, hc]

theorem judgeRelease_allowed (h : ReleaseAllowed s) : judgeRelease s = s := by
  simp [judgeRelease, releaseCondition_iff.2 h]

theorem restReady_congr {t : State} (h : t.restraint = s.restraint) : RestReady t ↔ RestReady s := by
  simp [RestReady, SeatsReady, seatState, h]

theorem endRelease_not_ready (h : releaseInProgress s = true) : ¬RestReady (endRelease s) := by
  intro ⟨hr, _, _⟩
  have hp : ∃ i, releasePending s i = true := by
    rcases releaseInProgress_iff.1 h with h | h <;> obtain ⟨i, hi⟩ := List.exists_mem_of_ne_nil _ h <;>
      exact ⟨i, by simp [releasePending, hi]⟩
  obtain ⟨i, hi⟩ := hp
  have hs : seatState (endRelease s) i = (picture s i).seatState := by
    simp [seatState, endRelease, modRestraint, hi, Seat.releaseLost, Seat.enterEvaluation]
  have hn : ∀ p : Picture, p.seatState ≠ .verified ∧ p.seatState ≠ .bypassed ∧ p.seatState ≠ .disabled := by
    rintro ⟨a, b, c⟩
    cases a <;> cases b <;> cases c <;> decide
  have := hr i
  rw [hs] at this
  simp [hn] at this

/-- A release that is ended leaves its seats without readiness (R79). -/
theorem restReady_of_judgeRelease (h : RestReady (judgeRelease s)) : RestReady s := by
  unfold judgeRelease at h
  split at h
  · next hc => exact absurd h (endRelease_not_ready hc.1)
  · exact h

theorem judgeRelease_idle (h : releaseInProgress s = false) : judgeRelease s = s := by simp [judgeRelease, h]

theorem restReady_of_refreshPermit (h : RestReady (refreshPermit s)) : RestReady s := by
  unfold refreshPermit at h
  dsimp only at h
  split at h
  · exact h
  · replace h := restReady_of_judgeRelease h
    exact (restReady_congr rfl).1 h

theorem restReady_of_releaseAtModeChange {old : Mode} (h : RestReady (releaseAtModeChange old s)) : RestReady s := by
  unfold releaseAtModeChange at h
  split at h
  · next hc => exact absurd h (endRelease_not_ready hc.2)
  · exact restReady_of_judgeRelease h

theorem restReady_of_enterMode {new : Mode} {held : HeldFrom} (h : RestReady (enterMode new held s)) : RestReady s := by
  unfold enterMode at h
  dsimp only at h
  replace h := restReady_of_releaseAtModeChange ((restReady_congr (dispatchScene_restraint _ _)).1 h)
  replace h := restReady_of_refreshPermit ((restReady_congr (formCeilings_restraint _)).1 h)
  exact (restReady_congr (s := s) (by rw [tellBlocks_restraint]; rfl)).1 h

theorem releaseInProgress_congr {t : State} (h : t.restraint = s.restraint) : releaseInProgress t = releaseInProgress s := by
  simp [releaseInProgress, h]

theorem refreshPermit_idle (h : releaseInProgress s = false) : (refreshPermit s).restraint = s.restraint := by
  unfold refreshPermit
  dsimp only
  split
  · rfl
  · rw [judgeRelease_idle]
    · rfl
    · exact h

/-- A mode change leaves the Restraint Monitor alone while no release is in progress (R79). -/
theorem enterMode_idle (new : Mode) (held : HeldFrom) (h : releaseInProgress s = false) :
    (enterMode new held s).restraint = s.restraint := by
  unfold enterMode
  dsimp only
  rw [dispatchScene_restraint]
  have h1 : (tellBlocks s.mc.mode new (modMc s (ModeController.enter new held))).restraint = s.restraint := by
    rw [tellBlocks_restraint]; rfl
  have h2 := (releaseInProgress_congr h1).trans h
  have h3 := (formCeilings_restraint _).trans ((refreshPermit_idle h2).trans h1)
  have h4 := (releaseInProgress_congr h3).trans h
  unfold releaseAtModeChange
  rw [if_neg (fun hc => absurd hc.2 (by rw [h4]; decide)), judgeRelease_idle h4, h3]

theorem readyMet_iff : ReadyMet s ↔ RestReady s ∧ s.tracker.position = .sync ∧ s.permit.stationary = true ∧
    s.mc.advance = none ∧ s.permit.active = [] :=
  ⟨fun h => ⟨⟨h.seats, h.release⟩, h.position, h.stationary, h.advance, h.faults⟩,
    fun ⟨⟨a, b⟩, c, d, e, f⟩ => ⟨a, c, d, e, b, f⟩⟩

/-- A mode change between LOAD and READY, as the READY conditions see it. -/
theorem enterMode_load_ready (s : State) (new : Mode) (ho : s.mc.mode = .load ∨ s.mc.mode = .ready)
    (hn : new = .load ∨ new = .ready) :
    (enterMode new .none s).tracker.position = s.tracker.position ∧
      (enterMode new .none s).permit.stationary = s.permit.stationary ∧
      (enterMode new .none s).permit.active = s.permit.active ∧ (enterMode new .none s).mc.mode = new ∧
      (enterMode new .none s).mc.advance = if new = .load then s.mc.advance else none := by
  have hf := enterMode_formed new .none s
  refine ⟨?_, hf.stationary, hf.active, ?_, ?_⟩
  · rw [enterMode_tracker]
    rcases ho with h | h <;> rcases hn with rfl | rfl <;> simp [h]
  · simp [ModeController.enter]
  · rcases hn with rfl | rfl <;> simp [ModeController.enter]

/-- The READY evaluation in LOAD and READY, while RC is heard: READY where the conditions hold, LOAD where one does not (R7). -/
theorem evalReady_decided (hm : s.mc.mode = .load ∨ s.mc.mode = .ready) (hc : RcHeard s) : ReadyDecided (evalReady s) := by
  have hh : ¬(s.wli.rcTimeout < s.wli.rcSilence ∧ s.wli.rcReported = false) := by
    rintro ⟨a, b⟩
    rcases hc with h | h
    · omega
    · simp [b] at h
  have hr : ∀ {x}, x = Mode.ready ∨ x = .load → changeMode x .none s = enterMode x .none s := by
    rintro x (rfl | rfl) <;> exact changeMode_calm (by decide) hh
  by_cases hq : readyConditions s = true
  · have hmet := readyConditions_iff.1 hq
    rcases hm with h | h
    · have he : evalReady s = enterMode .ready .none s := by simp [evalReady, h, hq, hr]
      obtain ⟨a, b, c, d, e⟩ := enterMode_load_ready s .ready (.inl h) (.inr rfl)
      refine ⟨fun _ => by rw [he, d], fun hn => absurd (readyMet_iff.2 ⟨?_, ?_, ?_, ?_, ?_⟩) hn⟩ <;> rw [he]
      · have hi : releaseInProgress s = false := by simp [releaseInProgress, hmet.release]
        exact (restReady_congr (enterMode_idle .ready .none hi)).2 ⟨hmet.seats, hmet.release⟩
      · rw [a, hmet.position]
      · rw [b, hmet.stationary]
      · rw [e]; rfl
      · rw [c, hmet.faults]
    · have he : evalReady s = s := by simp [evalReady, h, hq]
      rw [he]
      exact ⟨fun _ => h, fun hn => absurd hmet hn⟩
  · have hmet : ¬ReadyMet s := fun h => hq (readyConditions_iff.2 h)
    rcases hm with h | h
    · have he : evalReady s = s := by simp [evalReady, h, hq]
      rw [he]
      exact ⟨fun hn => absurd hn hmet, fun _ => h⟩
    · have he : evalReady s = enterMode .load .none s := by simp [evalReady, h, hq, hr]
      obtain ⟨a, b, c, d, e⟩ := enterMode_load_ready s .load (.inr h) (.inl rfl)
      refine ⟨fun hn => absurd (readyMet_iff.2 ?_) hmet, fun _ => by rw [he, d]⟩
      rw [he] at hn
      obtain ⟨h1, h2, h3, h4, h5⟩ := readyMet_iff.1 hn
      exact ⟨restReady_of_enterMode h1, a ▸ h2, b ▸ h3,
        (e.symm.trans h4 : (if Mode.load = .load then s.mc.advance else none) = none), c ▸ h5⟩

/-! ## A seat's change of state (R67, R82) -/

theorem refreshPermit_watched : watched (refreshPermit s) = watched s := by simp [watched]

/-- A seat that leaves VERIFIED or LOCKED in a watched mode is a RESTRAINT_OPEN (R82). -/
theorem seatMoved_opens {i : Fin 8} {old : SeatState} (hw : RestraintsWatched s) (ho : old = .verified ∨ old = .locked)
    (hv : seatState s i ≠ .verified) (hn : seatState s i ≠ old) (hb : seatState s i ≠ .bypassed)
    (hd : seatState s i ≠ .disabled) : FaultTaken .restraintOpen (i.val + 1) s (seatMoved i old s) := by
  have hm : s.mc.mode ≠ .offline := by rintro h; simp [RestraintsWatched, h] at hw
  have hopen : opensRestraint s old (seatState s i) = true := by
    rcases ho with rfl | rfl <;> simp_all [opensRestraint, watched_iff.2 hw]
  have ht := takeFault_taken .restraintOpen (i.val + 1) (s := refreshPermit s) (by simpa using hm)
  have he : seatMoved i old s = takeFault .restraintOpen .none (i.val + 1) (refreshPermit s) := by
    unfold seatMoved
    dsimp only
    rw [if_neg hn, if_pos hopen]
    exact evalReady_halted (.inl ht.halt)
  rw [he]
  exact ⟨by simpa using ht.logged, ht.active, ht.halt⟩

theorem evalReady_quiet (hc : RcHeard s) : NoFaultTaken s (evalReady s) := by
  have hh : ¬(s.wli.rcTimeout < s.wli.rcSilence ∧ s.wli.rcReported = false) := by
    rintro ⟨a, b⟩
    rcases hc with h | h
    · omega
    · simp [b] at h
  have hr : ∀ {x}, x = Mode.ready ∨ x = .load → NoFaultTaken s (changeMode x .none s) := by
    rintro x (rfl | rfl) <;> rw [changeMode_calm (by decide) hh] <;>
      exact ⟨(enterMode_formed ..).log, (enterMode_formed ..).active, (enterMode_formed ..).first⟩
  unfold evalReady
  split
  · split
    · exact hr (.inl rfl)
    · exact ⟨rfl, rfl, rfl⟩
  · split
    · exact ⟨rfl, rfl, rfl⟩
    · exact hr (.inr rfl)
  all_goals exact ⟨rfl, rfl, rfl⟩

/-- Any other change of a seat is no fault, while RC is heard. -/
theorem seatMoved_quiet {i : Fin 8} {old : SeatState} (hc : RcHeard s)
    (h : ¬RestraintsWatched s ∨ (old ≠ .verified ∧ old ≠ .locked) ∨ seatState s i = .verified ∨ seatState s i = old) :
    NoFaultTaken s (seatMoved i old s) := by
  have hp := refreshPermit_formed s
  unfold seatMoved
  dsimp only
  split
  · exact ⟨rfl, rfl, rfl⟩
  · next hn =>
    have hopen : opensRestraint s old (seatState s i) = false := by
      rcases h with h | ⟨h1, h2⟩ | h | h
      · have : watched s = false := by rw [← Bool.not_eq_true, watched_iff]; exact h
        simp [opensRestraint, this]
      · simp [opensRestraint, h1, h2]
      · simp [opensRestraint, h]
      · exact absurd h hn
    rw [hopen]
    have hq := evalReady_quiet (s := refreshPermit s) (by simpa [RcHeard] using hc)
    exact ⟨by simpa [hp.log] using hq.log, by simpa [hp.active] using hq.active, by simpa [hp.first] using hq.first⟩

end Sys2Proof.Machine
end

