-- ==== Sys2Proof/Laws/Sound.lean ====
section
/-! SUPPORT. What the Sound Engine's operations do to one voice and leave alone of the others. -/

namespace Sys2Proof.Machine

variable {s : State} {f : Frame} {rest : List Frame}

/-- A show voice or V4 that is set moves nothing but its own record (R134: only V5 ducks). -/
theorem setVoice_of_ne (snd : Sound) (p : Params) {i : Fin 6} (x : Option Voice) (h : i ≠ announceVoice) :
    snd.setVoice p i x = { snd with voices := snd.voices.set i x } := by simp [Sound.setVoice, h]

theorem showVoice_ne (v : Fin 4) : showVoice v ≠ announceVoice := by revert v; decide

theorem setVoice_show (snd : Sound) (p : Params) (v : Fin 4) (x : Option Voice) :
    snd.setVoice p (showVoice v) x = { snd with voices := snd.voices.set v.val x } :=
  setVoice_of_ne snd p x (showVoice_ne v)

/-- The voices after one is set. -/
theorem setVoice_voices (snd : Sound) (p : Params) (i : Fin 6) (x : Option Voice) :
    (snd.setVoice p i x).voices = snd.voices.set i x := by
  unfold Sound.setVoice
  split
  · split <;> rfl
  · rfl

theorem putVoice_voice_self (s : State) (i : Fin 6) (x : Option Voice) : voiceAt (putVoice s i x) i = x := by
  simp [voiceAt, putVoice, setVoice_voices]

theorem putVoice_voice_ne (s : State) {i j : Fin 6} (x : Option Voice) (h : i ≠ j) :
    voiceAt (putVoice s i x) j = voiceAt s j := by
  have : i.val ≠ j.val := fun hh => h (Fin.ext hh)
  simp [voiceAt, putVoice, setVoice_voices, Vector.getElem_set_ne _ _ this]

theorem findClip_taken (n : Nat) : findClip (taken s f rest) n = findClip s n := rfl

/-- A clip that a number finds is found by its own number. -/
theorem findClip_number {n : Nat} {c : Clip} (h : findClip s n = some c) : findClip s c.number = some c := by
  have : c.number = n := by simpa using List.find?_some h
  rw [this]; exact h

end Sys2Proof.Machine
end

