-- ==== Sys2Proof/Laws/Show.lean ====
section
/-! SUPPORT. The check of a timed voice at a sync report, and the scene cues that fire at a tick of the scene timer, in the words
of the statements. -/

namespace Sys2Proof.Machine

variable {s : State}

theorem shortest_natAbs (len : Nat) (d : Int) : (shortest len d).natAbs = (Int.bmod d len).natAbs := by
  unfold shortest
  split
  · next h => subst h; simp [Int.bmod]
  · next h =>
    have h0 := Int.emod_nonneg d (by omega : (len : Int) ≠ 0)
    have h1 := Int.emod_lt_of_pos d (by omega : (0 : Int) < len)
    unfold Int.bmod
    dsimp only
    split <;> split <;> omega

theorem resyncDifference_gap (len : Nat) (loop : Option Nat) (x p : Nat) :
    (resyncDifference len loop x p).natAbs = positionGap len loop x p := by
  unfold resyncDifference positionGap
  cases loop with
  | none => rfl
  | some l =>
    dsimp only
    split
    · exact shortest_natAbs _ _
    · rfl

theorem expectedPosition_at {e : Int} {len : Nat} {loop : Option Nat} {x : Nat} (h : ExpectedAt e len loop x) :
    expectedPosition e len loop = .at x := by
  obtain ⟨n, rfl, h0, h⟩ := h
  unfold expectedPosition
  dsimp only
  rw [if_neg (by omega)]
  rcases h with ⟨h, rfl⟩ | ⟨h, l, rfl, rfl⟩
  · rw [if_pos (by omega)]
  · rw [if_neg (by omega)]

theorem expectedPosition_past {e : Int} {len : Nat} {loop : Option Nat} (h : ExpectedPast e len loop) :
    expectedPosition e len loop = .ended := by
  obtain ⟨h, rfl⟩ := h
  unfold expectedPosition
  dsimp only
  rw [if_neg (by omega), if_neg (by omega)]

theorem expectedPosition_ahead {e : Int} {len : Nat} {loop : Option Nat} (h : (e * 32).tdiv 1000 < 0) :
    expectedPosition e len loop = .notDue := by
  unfold expectedPosition
  dsimp only
  rw [if_pos h]

/-- The check of one timed voice (R125). -/
theorem resync_checked {v : Voice} {tm : Timing} (ht : v.timing = some tm) :
    VoiceChecked s.params.resyncTolerance (s.clock.elapsedUs tm.ms tm.us) (voiceLength s v) v tm (v.resync s).1
      (v.resync s).2 := by
  have hgap : ∀ x, |resyncDifference (voiceLength s v) v.loopPoint x v.position| =
      (positionGap (voiceLength s v) v.loopPoint x v.position : Int) := fun x => by
    rw [← resyncDifference_gap, Int.abs_eq_natAbs]
  constructor
  · intro h he
    have : v.joinDue s.clock = false := by simp [Voice.joinDue, h, ht, he]
    simp [Voice.resync, ht, h, this]
  · intro h he x hx
    have hj : v.joinDue s.clock = true := by simp [Voice.joinDue, h, ht, he]
    have hp := expectedPosition_at hx
    simp only [voiceLength] at hp
    simp [Voice.resync, ht, h, hj, Voice.join, voiceLength, hp]
  · intro h he hx
    have hj : v.joinDue s.clock = true := by simp [Voice.joinDue, h, ht, he]
    have hp := expectedPosition_past hx
    simp only [voiceLength] at hp
    simp [Voice.resync, ht, h, hj, Voice.join, voiceLength, hp]
  · intro h hn
    simp [Voice.resync, ht, h, expectedPosition_ahead hn]
  · intro h x hx hg
    have : ¬((s.params.resyncTolerance : Int) < |resyncDifference (voiceLength s v) v.loopPoint x v.position|) := by
      rw [hgap]; omega
    simp [Voice.resync, ht, h, expectedPosition_at hx, this]
  · intro h x hx hg
    have : (s.params.resyncTolerance : Int) < |resyncDifference (voiceLength s v) v.loopPoint x v.position| := by
      rw [hgap]; omega
    simp [Voice.resync, ht, h, expectedPosition_at hx, this]
  · intro h hx hg
    simp [Voice.resync, ht, h, expectedPosition_past hx, hg]
  · intro h hx hg
    simp [Voice.resync, ht, h, expectedPosition_past hx, Nat.not_lt.2 hg]
  · rintro (h | h) <;> simp [Voice.resync, ht, h]

/-- The scene cues that are due fire in table order, and the scene cursor comes to the first that is not (R96). -/
theorem fireSceneCues_fired (scene timer : Nat) (fired later : List Cue) (i : Nat) (s : State)
    (hf : ∀ c ∈ fired, ∃ offset, c.trigger = .scene scene offset ∧ offset ≤ timer)
    (hl : ∀ c ∈ later.head?, ∀ offset, c.trigger = .scene scene offset → timer < offset) :
    fireSceneCues scene timer (fired ++ later) i s =
      modCues (fired.foldl (fun t c => fireCue c t) s) fun e =>
        { e with sceneCursor :=
            match later.head?.map Cue.trigger with
            | some (Trigger.scene n _) => if n = scene then some (i + fired.length) else none
            | _ => none } := by
  induction fired generalizing i s with
  | nil =>
    cases later with
    | nil => rfl
    | cons c more =>
      have := hl c (by simp)
      cases hc : c.trigger with
      | position mm => simp [fireSceneCues, hc]
      | scene n offset =>
        by_cases hn : n = scene
        · subst hn
          have ho := this offset hc
          simp [fireSceneCues, hc, Nat.not_le.2 ho]
        · simp [fireSceneCues, hc, hn]
  | cons c more ih =>
    obtain ⟨offset, hc, ho⟩ := hf c (by simp)
    have := ih (i + 1) (fireCue c s) (fun d hd => hf d (by simp [hd]))
    simp only [List.cons_append, fireSceneCues, hc, ho, if_true, List.foldl_cons]
    rw [this]
    simp [Nat.add_comm, Nat.add_left_comm]

/-! ## The scene timer -/

/-- The current scene, its timer and the position cursor stay. -/
structure SceneKept (s t : State) : Prop where
  scene : t.cues.scene = s.cues.scene
  timer : t.cues.timer = s.cues.timer
  cursor : t.cues.cursor = s.cues.cursor

theorem SceneKept.refl (s : State) : SceneKept s s := ⟨rfl, rfl, rfl⟩
theorem SceneKept.trans {t u : State} (h : SceneKept s t) (k : SceneKept t u) : SceneKept s u :=
  ⟨k.scene.trans h.scene, k.timer.trans h.timer, k.cursor.trans h.cursor⟩

theorem fireAction_sceneKept (cue : Nat) (s : State) (a : Action) : SceneKept s (fireAction cue s a) := by
  unfold fireAction
  repeat' split
  all_goals first | exact ⟨rfl, rfl, rfl⟩ | skip
  unfold CueEngine.notify
  constructor <;> (simp only [modCues_eq]; split <;> rfl)

theorem foldl_sceneKept {α : Type} {f : State → α → State} (h : ∀ s a, SceneKept s (f s a)) (l : List α) (s : State) :
    SceneKept s (l.foldl f s) := by
  induction l generalizing s with
  | nil => exact .refl s
  | cons a l ih => exact (h s a).trans (ih (f s a))

theorem fireCue_sceneKept (c : Cue) (s : State) : SceneKept s (fireCue c s) := by
  unfold fireCue
  split
  · exact ⟨rfl, rfl, rfl⟩
  · exact foldl_sceneKept (fireAction_sceneKept c.id) _ s

theorem fireSceneCues_sceneKept (scene timer : Nat) (l : List Cue) (i : Nat) (s : State) :
    SceneKept s (fireSceneCues scene timer l i s) := by
  induction l generalizing i s with
  | nil => exact ⟨rfl, rfl, rfl⟩
  | cons c l ih =>
    unfold fireSceneCues
    repeat' split
    · exact ⟨rfl, rfl, rfl⟩
    · exact (fireCue_sceneKept c s).trans (ih _ _)
    · exact ⟨rfl, rfl, rfl⟩
    · exact ⟨rfl, rfl, rfl⟩

theorem fireDueSceneCues_sceneKept (s : State) : SceneKept s (fireDueSceneCues s) := by
  unfold fireDueSceneCues
  split
  · exact .refl s
  · exact fireSceneCues_sceneKept ..

theorem sceneTimerRuns_iff : sceneTimerRuns s = true ↔
    (s.mc.mode = .run ∨ s.mc.mode = .unload) ∧ s.tracker.position = .sync ∧ s.cues.scene ≠ 0 ∧ s.cues.timer < 600000 := by
  simp [sceneTimerRuns, and_assoc]

/-- One local millisecond of the scene timer (R96). -/
theorem advanceScene_advanced (s : State) : SceneAdvanced s (advanceScene s) := by
  have runs (hm : s.mc.mode = .run ∨ s.mc.mode = .unload) (hp : s.tracker.position = .sync) (hs : s.cues.scene ≠ 0)
      (ht : s.cues.timer < 600000) :
      advanceScene s = fireDueSceneCues (modCues s fun e => { e with timer := e.timer + 1 }) :=
    if_pos (sceneTimerRuns_iff.2 ⟨hm, hp, hs, ht⟩)
  constructor
  · intro h
    refine if_neg fun hr => ?_
    obtain ⟨hm, hp, hs, ht⟩ := sceneTimerRuns_iff.1 hr
    rcases h with ⟨h1, h2⟩ | h | h | h
    · exact hm.elim h1 h2
    · rw [hp] at h; cases h
    · exact hs h
    · omega
  · have hk : (advanceScene s).cues.scene = s.cues.scene ∧ (advanceScene s).cues.cursor = s.cues.cursor := by
      unfold advanceScene
      split
      · have := fireDueSceneCues_sceneKept (modCues s fun e => { e with timer := e.timer + 1 })
        exact ⟨this.scene, this.cursor⟩
      · exact ⟨rfl, rfl⟩
    exact ⟨advanceScene_only s, hk⟩
  · intro hm hp hs ht
    rw [runs hm hp hs ht]
    exact (fireDueSceneCues_sceneKept _).timer
  · intro hm hp hs ht hc
    rw [runs hm hp hs ht]
    simp [fireDueSceneCues, hc]
    rfl
  · intro hm hp hs ht u i fired later hc hv hd hf hl hu
    subst hu
    rw [runs hm hp hs ht]
    simp only [fireDueSceneCues, modCues_eq, State.setCues_cues, State.setCues_tables, hc, Table.inUse, hv, if_true, hd]
    exact fireSceneCues_fired _ _ fired later i _ hf hl

end Sys2Proof.Machine
end

