-- ==== Sys2Proof/WellFormed.lean ====
section
/-! DEFINITION. Which operands a command can carry. -/

namespace Sys2Proof

/-- The operand bounds that the manual gives: the WLI counts 0 to 23,999 oscillator periods in a local millisecond (R107),
and an exchange of 96 clock edges shifts in 12 bytes (R181). Every other bound is in the operand's type. -/
def Instr.wellFormed : Instr → Bool
  | .addressCharacter _ periods => decide (periods < 24000)
  | .driveExchange edges bytes => edges != 96 || bytes.length == 12
  | _ => true

end Sys2Proof
end

