-- ==== Sys2Proof/Tests/Slice0.lean ====
section
/-! SUPPORT. The package's own tests: operands that are refused, the manual's check values and worked examples, one step of each
command on a small state, and for each statement a state and operands that meet its hypotheses. -/

open Sys2Proof Sys2Proof.Machine

namespace Sys2Proof.Tests

set_option maxRecDepth 8000

/-! ## Small states -/

/-- A unicast request frame. -/
def ask (k : Kind) (src : Source) (args : List Byte) : Frame := ⟨239, .unicast, ⟨0, 0, 0, 0⟩, src, 7, BitVec.ofNat 8 k.code, args⟩

/-- The part after start-up, in OFFLINE. -/
def up : State :=
  { State.reset with
    startUp := ⟨.complete, Params.defaults⟩, params := Params.defaults
    store := { State.reset.store with activity := .idle }
    permit := { State.reset.permit with level := .stop } }

def inMode (m : Mode) (s : State) : State := { s with mc := { s.mc with mode := m } }

/-- Four small tables, all VALID, on a route of 30 m. -/
def loaded (s : State) : State :=
  { s with
    tables :=
      { route := ⟨.valid, [⟨0, 0, 600, .load, 1, 0⟩, ⟨5000, 1500, 1500, .none, 2, 2⟩, ⟨20000, 0, 0, .unload, 3, 0⟩], 0⟩
        routeLength := 30000
        markers := ⟨.valid, [⟨11, 1000, 300⟩, ⟨12, 8000, 300⟩], 0⟩
        cues := ⟨.valid, [⟨101, .position 6000, false, [.notify 7]⟩, ⟨102, .position 7000, true, [.effect 3 (.pulse 100)]⟩,
          ⟨201, .scene 2 0, false, [.notify 8]⟩, ⟨202, .scene 2 50, false, [.notify 9]⟩], 0⟩
        clips := ⟨.valid, [⟨1, 0, 32000, none⟩, ⟨2, 100, 64000, some 10⟩], 0⟩ } }

/-- RUN with the permit RUN, SYNC in the second segment. -/
def running : State :=
  { loaded (inMode .run up) with
    tracker := { up.tracker with p := 60000, position := .sync, segment := some 1, highWater := 60000, expected := some 1 }
    steering := { up.steering with state := .tracking, firstPending := false }
    permit := { up.permit with level := .run, speedCeiling := 1500, ceilingAhead := 1500 }
    dli := { up.dli with live := true } }

/-- HALT with one fault. -/
def halted : State :=
  { inMode .halt up with
    permit := { up.permit with level := .emergency, active := [.rcStop], first := some ⟨.rcStop, .none, 0, 0, 0, .run⟩ } }

def stationary (s : State) : State := { s with permit := { s.permit with stationary := true, standstill := some 0 } }

/-- A voice that sounds. -/
def sounding (clip position : Nat) : Voice := ⟨.playing, clip, position, 4096, 4096, 0, .both, none, some .continue, none⟩

def withVoice (i : Fin 6) (v : Voice) (s : State) : State :=
  { s with sound := { s.sound with voices := s.sound.voices.set i (some v) } }

/-- One seat's record, and one seat in a state. -/
def withRecord (i : Fin 8) (x : Seat) (s : State) : State :=
  { s with restraint := { s.restraint with seats := s.restraint.seats.set i x } }

def withSeat (i : Fin 8) (st : SeatState) (s : State) : State := withRecord i { Seat.afterReset with state := st } s

/-- Seat 1's bar down and locked. -/
def lockedDown (s : State) : State :=
  { s with terminals := { s.terminals with filtered := ((s.terminals.filtered.set 0 true).set 1 true).set 2 true } }

/-- A seat that drives its solenoid. -/
def energised (i : Fin 8) (s : State) : State :=
  { withSeat i .releasing s with restraint := { (withSeat i .releasing s).restraint with energised := [i] } }

/-- Seats 1 and 2 drive their solenoids and seat 3 waits, in a stationary vehicle. -/
def releasingThree (m : Mode) : State :=
  let s := withSeat 2 .releasing (withSeat 1 .releasing (withSeat 0 .releasing (stationary (inMode m up))))
  { s with restraint := { s.restraint with queue := [2], energised := [0, 1] } }

def withChannel (i : Fin 12) (c : Channel) (s : State) : State :=
  { s with cues := { s.cues with channels := s.cues.channels.set i c } }

/-- One logical input's filtered level active, with a change due or not. -/
def withInput (i : Fin 27) (due : Bool) (s : State) : State :=
  { s with terminals := { s.terminals with filtered := s.terminals.filtered.set i true,
                                           changeDue := s.terminals.changeDue.set i due } }

def atTime (ms : Nat) (s : State) : State := { s with clock := { s.clock with ms := ms } }

def withPreface (k : Kind) (b : Byte) (s : State) : State := { s with mc := { s.mc with rcSlot := some ⟨k, b, 0⟩ } }

def asking (k : Kind) (src : Source) (args : List Byte) (s : State) : State :=
  { s with wli := { s.wli with queue := [ask k src args] } }

/-- The state after a command. -/
def after (c : Instr) (s : State) : State :=
  match exec c s with
  | .next t => t
  | _ => s

def reply (s : State) : Option (Status × List Byte) := s.wli.outgoing.getLast?.map fun r => (r.status, r.data)

/-- The state after a request, and the answer to it. -/
def asked (k : Kind) (src : Source) (args : List Byte) (s : State) : State := after k.command (asking k src args s)
def answerTo (k : Kind) (src : Source) (args : List Byte) (s : State) : Option (Status × List Byte) :=
  reply (asked k src args s)

/-- The checks of a request that stands alone in the queue. -/
def admits (k : Kind) (src : Source) (args : List Byte) (s : State) : Bool :=
  decide (s.wli.outgoing.length < 2) && (s.startUp.phase == .complete) && (k.source args == some src) &&
    (!k.isProtected || prefaceMatches (prefaceSlot s.mc src) k args) && k.takenIn s.mc.mode

theorem admitted_of {k : Kind} {src : Source} {args : List Byte} {s : State} (h : admits k src args s = true) :
    Admitted k (ask k src args) [] (asking k src args s) := by
  simp only [admits, Bool.and_eq_true, decide_eq_true_eq, beq_iff_eq, Bool.or_eq_true, Bool.not_eq_true'] at h
  obtain ⟨⟨⟨⟨ho, hp⟩, hs⟩, hk⟩, hm⟩ := h
  exact
    { queue := rfl
      kind := by cases k <;> rfl
      unicast := rfl
      room := ho
      running := hp
      authority := hs
      preface := fun hk' => hk.resolve_left (by simp [hk'])
      mode := hm }

/-- A request that is admitted, with more that holds of it. -/
theorem admitted_with {k : Kind} {P : Frame → State → Prop} (src : Source) (args : List Byte) (s : State)
    (h : admits k src args s = true) (hp : P (ask k src args) (asking k src args s)) :
    ∃ f rest t, Admitted k f rest t ∧ P f t := ⟨_, _, _, admitted_of h, hp⟩

/-- The law of the releases, from what can be computed. -/
theorem releaseHeld_of {s : State}
    (h : (s.restraint.queue ++ s.restraint.energised).Nodup ∧ s.restraint.energised.length ≤ 2 ∧
      (s.restraint.queue ≠ [] → s.restraint.energised.length = 2) ∧
      (s.restraint.queue ≠ [] ∨ s.restraint.energised ≠ [] → releaseCondition s = true) ∧
      (∀ i, (i ∈ s.restraint.queue ∨ i ∈ s.restraint.energised) ↔ seatState s i = .releasing) ∧
      s.startUp.phase = .complete) : ReleaseHeld s := by
  obtain ⟨hn, hb, hf, hc, hr, hs⟩ := h
  refine ⟨hn, hb, hf, fun h => releaseCondition_iff.1 (hc h), hr, fun i hi => ?_, fun h => absurd hs h⟩
  have hm : s.restraint.queue ≠ [] ∨ s.restraint.energised ≠ [] :=
    ((hr i).2 hi).imp List.ne_nil_of_mem List.ne_nil_of_mem
  exact (releaseCondition_iff.1 (hc hm)).permit

/-- The law of the permit level, from what can be computed. -/
theorem levelHeld_of {s : State} (h : s.startUp.phase = .complete ∧ s.permit.level = permitLevelOf s) : LevelHeld s :=
  ⟨fun hs => absurd h.1 hs, fun _ => h.2 ▸ permitLevelOf_formed⟩

/-- RC is not silent. -/
abbrev Calm (s : State) : Prop := ¬(s.wli.rcTimeout < s.wli.rcSilence ∧ s.wli.rcReported = false)

/-! ## Operands -/

theorem test_wellFormed_refuses_periods : (Instr.addressCharacter 0xEF 24000).wellFormed = false := by decide
theorem test_wellFormed_refuses_short_record : (Instr.driveExchange 96 [0, 0, 0]).wellFormed = false := by decide
theorem test_wellFormed_accepts :
    (Instr.addressCharacter 0xEF 23999).wellFormed = true ∧ (Instr.driveExchange 80 [0]).wellFormed = true ∧
      (Instr.driveExchange 96 (List.replicate 12 0)).wellFormed = true ∧ Instr.goOnline.wellFormed = true := by decide

/-! ## The manual's check values and worked examples -/

/-- "123456789" (R186). -/
theorem test_crc_check_values :
    crc16 [0x31, 0x32, 0x33, 0x34, 0x35, 0x36, 0x37, 0x38, 0x39] = 0x29B1 ∧
      crc8 [0x31, 0x32, 0x33, 0x34, 0x35, 0x36, 0x37, 0x38, 0x39] = 0xF4 := by decide

/-- The integrations tabled in R30, on a route of 120,000 mm. -/
theorem test_integration_table :
    ((1199900 + 250 : Int) % 1200000).toNat = 150 ∧ ((80 - 120 : Int) % 1200000).toNat = 1199960 ∧
      640000 + clampedDistance 4800 = 643000 ∧ shortest 1200000 (308200 - 304850) = 3350 ∧
      shortest 1200000 (331000 - 331640) = -640 := by decide

/-- Chapter 3, one update and the two after it: reference time 10 ms before each exchange. -/
theorem test_steering_worked_example :
    let p := { Params.defaults with slewRate := 15 }
    let c0 : Steering := ⟨.tracking, false, 1400, 95, 0, 0, 0, true, 0⟩
    let c1 := c0.update p 2 1500 125 60 10
    let c2 := c1.update p 2 1500 (-32768) 55 20
    let c3 := c2.update p 2 1500 40 50 30
    (c1.y, steeringCode c1.y, c1.ePrev, c1.guideLoss) = (1282, 36968, 125, 0) ∧
      (c2.y, steeringCode c2.y, c2.ePrev, c2.guideLoss) = (1432, 37460, 125, 55) ∧
      (c3.y, steeringCode c3.y, c3.ePrev, c3.guideLoss) = (1582, 37951, 40, 0) := by decide

/-- The rates tabled in R50. -/
theorem test_steering_rates :
    let c (e : Int) : Steering := ⟨.tracking, false, 0, e, 0, 0, 0, true, 0⟩
    steeringRate (c 95) 125 60 = 500 ∧ steeringRate (c 125) 40 50 = -1700 ∧ steeringRate (c 40) (-1960) 80 = -20000 ∧
      steeringRate (c 40) 70 0 = 0 ∧ steeringRate (c 40) 70 (-30) = 0 ∧ steeringRate (c 40) 47 3 = 2333 := by decide

/-- The ends of the DG0 code (R56). -/
theorem test_steering_code_ends : steeringCode 0 = 32768 ∧ steeringCode 10000 = 65535 ∧ steeringCode (-10000) = 1 := by decide

/-- Chapter 6: the first sync slews, the step carries a residue, and the sync across the wrap. -/
theorem test_clock_worked_examples :
    let c : ShowClock := ⟨1000000, 250, 0, 0, .free, 100, 0, 0⟩
    let d1 := c.offsetNs ⟨1000000, 250, 0, 0⟩ 1000000 610
    let s1 := c.sync Params.defaults d1
    let e : ShowClock := ⟨2500002, 311, 0, 0, .free, 5000, 0, 0⟩
    let d2 := e.offsetNs ⟨2500000, 480, 625, 0⟩ 2500037 120
    let s2 := e.sync Params.defaults d2
    let w : ShowClock := ⟨4294967290, 900, 0, 0, .free, 0, 0, 0⟩
    let d3 := w.offsetNs ⟨4294967290, 900, 0, 0⟩ 3 100
    (d1, s1.pending, s1.state, s1.ms) = (360000, 360, .locked, 1000000) ∧
      (d2, s2.ms, s2.us, s2.residue, s2.state, s2.steps) = (36639375, 2500038, 950, 375, .slewing, 1) ∧
      (s2.advance.ms, s2.advance.us, s2.advance.residue) = (2500039, 950, 375) ∧
      (d3, (w.sync Params.defaults d3).pending, (w.sync Params.defaults d3).state) = (8200000, 8200, .slewing) := by decide

/-- The ramps tabled in R126. -/
theorem test_ramp_table :
    rampStep 4096 0 4 = 3072 ∧ rampStep 3072 0 3 = 2048 ∧ rampStep 2048 0 2 = 1024 ∧ rampStep 1024 0 1 = 0 ∧
      rampStep 1000 0 3 = 667 ∧ rampStep 667 0 2 = 334 ∧ rampStep 334 0 1 = 0 := by decide

/-- Chapter 7: the expected positions of the resync example. -/
theorem test_expected_positions :
    expectedPosition 8000500 960000 none = .at 256016 ∧ expectedPosition 10000200 960000 none = .at 320006 ∧
      expectedPosition 6250000 96000 (some 32000) = .at 72000 ∧ expectedPosition 6250000 96000 none = .ended ∧
      expectedPosition (-32) 96000 none = .notDue ∧ expectedPosition (-31) 96000 none = .at 0 := by decide

/-- Chapter 7: the last steps of the mixed, the saturating and the small negative sample. -/
theorem test_mixer_worked_examples :
    (92672000 / 4096 * 3686 / 4096 : Int) = 20360 ∧ mixCode 20360 = 53128 ∧ mixCode 45000 = 65535 ∧
      mixCount 7 45000 = 8 ∧ (-10240 / 4096 * 4096 / 4096 : Int) = -3 ∧ mixCode (-3) = 32765 := by decide

/-- Chapter 8: the first ten clocks of DG0, and the eleventh with the next code. -/
theorem test_density_worked_example :
    let g0 : Density := ⟨true, 0, 36968, false⟩
    let run := fun n => (List.range n).foldl (fun g _ => Density.clock 12 g) g0
    ((List.range 11).map fun n => (run n).accumulator) = [0, 2310, 524, 2834, 1048, 3358, 1572, 3882, 2096, 310, 2620] ∧
      ((List.range 10).map fun n => (run (n + 1)).bit) =
        [false, true, false, true, false, true, false, true, true, false] ∧
      ({ run 10 with code := 37460 }.clock 12).accumulator = 865 := by decide

/-- Chapter 9: the ceiling ahead and the speed ceiling on the approach to a stop point. -/
theorem test_ceiling_worked_example :
    let s (p seg : Nat) : State :=
      { inMode .unload up with
        tables := { up.tables with
          route := ⟨.valid, [⟨0, 0, 3000, .none, 0, 0⟩, ⟨40000, 0, 1200, .unload, 0, 0⟩, ⟨42000, 0, 800, .unload, 0, 0⟩,
            ⟨43500, 0, 0, .unload, 0, 0⟩, ⟨46000, 0, 600, .load, 0, 0⟩], 0⟩, routeLength := 100000 }
        tracker := { up.tracker with p := p, position := .sync, segment := some seg }
        permit := { up.permit with level := .run } }
    (formAhead (s 412000 1)).permit.ceilingAhead = 800 ∧ (formAhead (s 412000 1)).permit.speedCeiling = 800 ∧
      (formAhead (s 421000 2)).permit.ceilingAhead = 300 ∧ (formAhead (s 421000 2)).permit.speedCeiling = 300 ∧
      (formAhead (s 435100 3)).permit.ceilingAhead = 300 ∧ (formAhead (s 435100 3)).permit.speedCeiling = 0 := by decide

/-- Chapter 10: the gap counted at the last exchange of the table. -/
theorem test_missed_exchanges :
    ((3 : Byte) - 254 - 1).toNat = 4 ∧ ((254 : Byte) - 251 - 1).toNat = 2 ∧ ((252 : Byte) - 251 - 1).toNat = 0 := by decide

/-! ## One step of each command -/

theorem test_hardwareReset : (after .hardwareReset running).mc.mode = .offline := by decide
theorem test_strapRead :
    (after .strapRead { State.reset with startUp := ⟨.strap 10, Params.defaults⟩ }).startUp.phase = .config := by decide
theorem test_sectionRead :
    (after (.sectionRead true) { State.reset with startUp := ⟨.config, Params.defaults⟩ }).store.defaulted = true := by decide
theorem test_framingError :
    (after .framingError { up with wli := { up.wli with receiver := .receiving } }).wli.brokenFrames = 1 := by decide
theorem test_addressCharacter :
    (after (.addressCharacter 239 24) up).wli.frame = some ⟨239, .unicast, ⟨0, 1, 0, 0⟩, []⟩ := by decide
theorem test_addressCharacter_foreign : (after (.addressCharacter 12 0) up).wli.receiver = .hunting := by decide
/-- STATUS from RC, tag 5, without arguments: CRC-16 of 01 05 01 00. -/
theorem test_dataCharacter :
    ((([1, 5, 1, 0] ++ be2 (crc16 [1, 5, 1, 0]).toNat).foldl (fun (s : State) (c : Byte) => after (.dataCharacter c) s)
      (after (.addressCharacter 239 0) up)).wli.queue.map fun f : Frame => (f.source, f.tag, f.kind, f.args)) =
      [(.rc, 5, 1, [])] := by decide
theorem test_frameTimeout :
    (after (.frameTimeout 4) { up with wli := { up.wli with receiver := .receiving } }).wli.receiver = .hunting := by decide
theorem test_responseStart :
    (after (.responseStart 2) (asked .dispatch .rc [] up)).wli.transmitting = true := by decide
theorem test_responseSent :
    (after .responseSent (after (.responseStart 2) (asked .dispatch .rc [] up))).wli.outgoing = [] := by decide
theorem test_linkRateApply :
    (after .linkRateApply { up with params := { up.params with linkRate := 3 } }).wli.linkRate = 3 := by decide
theorem test_status : ((answerTo .status .rc [] up).map fun r => (r.1, r.2.length)) = some (.done, 72) := by decide
theorem test_showStatus : ((answerTo .showStatus .sc [] up).map fun r => (r.1, r.2.length)) = some (.done, 32) := by decide
theorem test_goOnline : (asked .goOnline .rc [] (loaded up)).mc.mode = .load := by decide
theorem test_goOnline_refused : answerTo .goOnline .rc [] up = some (.mode, [15]) := by decide
theorem test_goOffline : (asked .goOffline .rc [] (stationary halted)).permit.active = [] := by decide
theorem test_dispatch : answerTo .dispatch .rc [] (inMode .ready up) = some (.done, [0, 1]) := by decide
theorem test_hold : (asked .hold .rc [] running).mc.heldFrom = .run := by decide
theorem test_resume :
    (asked .resume .rc [] { inMode .hold up with mc := { up.mc with mode := .hold, heldFrom := .unload } }).mc.mode =
      .unload := by decide
theorem test_advance : answerTo .advance .rc [0x75, 0x30] (inMode .load up) = some (.clamped, [0x4E, 0x20]) := by decide
theorem test_stopNow : (asked .stopNow .rc [] running).permit.level = .emergency := by decide
theorem test_recover_refused : answerTo .recover .rc [] (withPreface .recover 0 halted) = some (.cause, [0x10, 0xA0]) := by
  decide
theorem test_recover :
    (asked .recover .rc [] (withPreface .recover 0 (withInput 24 false (stationary
      { halted with dli := { up.dli with live := true } })))).mc.mode = .load := by decide
theorem test_release :
    answerTo .release .rc [3] (withPreface .release 3 (withInput 2 false (withSeat 0 .locked up))) =
      some (.done, [1, 0, 1]) := by decide
theorem test_release_fills :
    let s := asked .release .rc [7] (withPreface .release 7 (withInput 2 false (withInput 5 false (withInput 8 false
      (withSeat 0 .locked (withSeat 1 .verified (withSeat 2 .closing up)))))))
    s.restraint.energised = [0, 1] ∧ s.restraint.queue = [2] ∧ (s.restraint.seats[0]).pulseTime = 2000 := by decide
theorem test_bypass : answerTo .bypass .rc [1] (withPreface .bypass 1 (withSeat 0 .open up)) = some (.done, [1]) := by decide
theorem test_restore : answerTo .restore .rc [3] (withSeat 1 .bypassed up) = some (.done, [2]) := by decide
theorem test_clearSeatEvents : ((answerTo .clearSeatEvents .rc [255] up).map fun r => r.2.length) = some 9 := by decide
theorem test_setSpeedLimit : answerTo .setSpeedLimit .rc [2, 0] running = some (.done, [2, 0, 2, 0]) := by decide
theorem test_announce : answerTo .announce .rc [1, 16, 0] (loaded up) = some (.done, [2]) := by decide
theorem test_announce_absent : answerTo .announce .rc [3, 16, 0] (loaded up) = some (.argument, []) := by decide
theorem test_readFaultLog :
    ((answerTo .readFaultLog .rc [0] (after .rcLinkLost { running with wli := { up.wli with rcSilence := 501 } })).map
      fun r => r.2.take 4) = some [1, 0, 1, 0] := by decide
theorem test_setParam : answerTo .setParam .rc [0, 0x18, 0, 0, 0, 0] up = some (.clamped, [0, 0x18, 0, 0, 3, 232]) := by decide
theorem test_getParam : answerTo .getParam .rc [0, 0x18] up = some (.done, [0, 0x18, 0, 0, 31, 64]) := by decide
theorem test_save : (asked .save .rc [] up).store.activity.code = 3 := by decide
theorem test_restart : (asked .restart .rc [] (withPreface .restart 0 up)).startUp.phase = .strap 0 := by decide
theorem test_preface : (asked .preface .rc [0x0A, 1] up).mc.rcSlot = some ⟨.release, 1, 0⟩ := by decide
theorem test_tableBegin : (asked .tableBegin .rc [1, 0, 0x75, 0x30] up).tables.routeLength = 30000 := by decide
theorem test_tableEntry :
    (asked .tableEntry .rc ([2] ++ [0, 11, 0, 3, 232, 1, 44])
      { up with tables := { up.tables with markers := Table.begun _ } }).tables.markers.entries = [⟨11, 1000, 300⟩] := by decide
theorem test_cueCapacityComesFirst :
    Cue.actionCount [0, 1, 0, 0, 0, 5, 0, 4, 9] = 4 ∧ checkCue 1537 (Table.begun _) none = some .full ∧
      checkCue 4 (Table.begun _) none = some .argument := by decide
theorem test_tableEnd :
    answerTo .tableEnd .sc [3, 0, 0, 0xFF, 0xFF] { up with tables := { up.tables with cues := Table.begun _ } } =
      some (.done, [2, 0, 0, 0xFF, 0xFF]) := by decide
theorem test_notices :
    answerTo .notices .sc [] { up with cues := { up.cues with notices := [⟨101, 7, 66051, 20, 42⟩] } } =
      some (.done, [1, 0, 101, 7, 0, 1, 2, 3, 0, 0, 20, 0, 42, 0, 0, 0, 0, 0, 0, 0]) := by decide
theorem test_storeWrite : (asked .storeWrite .sc [0, 0, 5, 9] up).store.activity = .writing 5 [9] 0 := by decide
theorem test_storeErase : (asked .storeErase .sc [251, 0, 0] up).store.activity = .erasing 251 0 := by decide
theorem test_storeRead :
    answerTo .storeRead .sc [0, 0, 5, 2] { up with store := { up.store with memory := ⟨[(5, 9)], []⟩ } } =
      some (.done, [9, 255]) := by decide
theorem test_storeComplete :
    (after (.storeComplete true) { up with store := { up.store with activity := .writing 5 [9] 1 } }).store.memory.cells =
      [(5, 9)] := by decide
theorem test_storeTimeout :
    (after .storeTimeout { up with store := { up.store with activity := .erasing 0 501 } }).store.errorFlag = true := by decide
theorem test_saveComplete :
    (after (.saveComplete true) { up with store := { up.store with activity := .saving (imageOf up) 1 } }).store.image.config =
      some Params.defaults := by decide
theorem test_saveTimeout :
    (after .saveTimeout { up with store := { up.store with activity := .saving (imageOf up) 400 } }).store.errorFlag =
      false := by decide
theorem test_sync : answerTo .sync .sc [0, 0, 0, 37, 0, 0] up = some (.done, [0, 0, 144, 136, 1, 1, 0, 1]) := by decide
theorem test_voiceStart :
    answerTo .voiceStart .sc [0, 2, 16, 0, 2, 1, 1, 7, 208] (loaded (inMode .run up)) =
      some (.done, [1, 3, 0, 0, 7, 208, 0, 0]) := by decide
theorem test_voiceStart_lateLoop :
    answerTo .voiceStart .sc [0, 2, 16, 0, 2, 1, 2, 0, 0, 0, 0, 0, 0] (atTime 2000 (loaded (inMode .run up))) =
      some (.done, [2, 3, 0, 0, 0, 0, 0, 0]) ∧
    answerTo .voiceStart .sc [0, 1, 16, 0, 2, 1, 2, 0, 0, 0, 0, 0, 0] (atTime 2000 (loaded (inMode .run up))) =
      some (.done, [0, 0, 0, 0, 0, 0, 0, 0]) := by decide
theorem test_voiceStop : answerTo .voiceStop .sc [0, 1, 0] (withVoice 0 (sounding 1 5) up) = some (.done, [4]) := by decide
theorem test_voiceGain :
    answerTo .voiceGain .sc [0, 0, 9, 0, 0] (withVoice 0 (sounding 1 5) up) = some (.done, [2, 0, 9]) := by decide
theorem test_masterVolume :
    answerTo .masterVolume .sc [1, 255, 255] up = some (.clamped, [16, 0, 16, 0, 0, 0, 0, 0, 0, 0]) := by decide
theorem test_prefaceLapse :
    (after (.prefaceLapse .rc) { withPreface .release 1 up with localMs := 500 }).mc.rcSlot = none := by decide

/-- An exchange in progress. -/
def exchanging (s : State) : State := after .exchangeStart s

theorem test_exchangeStart :
    (after .exchangeStart running).dli.outgoing = some ⟨0, .run, 1500, 1500, 6000, 0⟩ := by decide

/-- A drive record with its CRC-8: cycle count 1, brake applied, forward, 10.0 mm, 400 mm/s, guide +12.5 mm, no marker. -/
def record : List Byte := withCrc8 [1, 5, 0, 100, 1, 144, 0, 125, 0, 0, 0]

theorem test_driveExchange :
    ((after (.driveExchange 96 record) (after .exchangeStart running)).tracker.p,
      (after (.driveExchange 96 record) (after .exchangeStart running)).steering.ePrev) = (60100, 125) := by decide
theorem test_driveExchange_bad : (after (.driveExchange 95 record) (after .exchangeStart running)).dli.badExchanges = 1 := by
  decide

/-- R183: the record of an exchange in progress is not built again. -/
theorem test_exchangeStart_inProgress :
    (after .exchangeStart { exchanging running with tracker := up.tracker }).dli.outgoing = (exchanging running).dli.outgoing := by
  decide

/-- R185: an exchange in progress at RESTART is the DLI's alone, also once start-up has completed. -/
theorem test_restart_heldOver :
    let s := asked .restart .rc [] (withPreface .restart 0 (exchanging up))
    let t := after (.driveExchange 96 record) { s with startUp := ⟨.complete, Params.defaults⟩ }
    (s.dli.heldOver, t.dli.live, t.dli.heldOver, t.permit.reportSpeed) = (true, true, false, 0) := by decide
theorem test_stationary :
    (after .stationary { up with localMs := 500, permit := { up.permit with standstill := some 0 } }).permit.stationary =
      true := by decide
theorem test_driveTimeout :
    (after .driveTimeout { running with dli := { running.dli with silence := 51 } }).permit.active = [.driveLinkLost] := by decide
theorem test_rcLinkLost :
    (after .rcLinkLost { running with wli := { up.wli with rcSilence := 501 } }).permit.active = [.rcLinkLost] := by decide
theorem test_terminalSample :
    (after (.terminalSample 2) { up with params := { up.params with sources := up.params.sources.set 0 (some 1) } }).terminals.debounce[0] =
      1 := by decide
theorem test_filteredChange :
    (after (.filteredChange 2) (withInput 2 true (withSeat 0 .closing up))).restraint.summary = true := by decide
theorem test_verifyTimeReached :
    seatState (after (.verifyTimeReached 0)
      (withRecord 0 { Seat.afterReset with state := .locked, verifyElapsed := 500 } up)) 0 = .verified := by decide
theorem test_disagreementTimeReached :
    seatState (after (.disagreementTimeReached 0) (withInput 0 false
      (withRecord 0 { Seat.afterReset with state := .open, disagreeElapsed := 200 } up))) 0 = .disagree := by decide
theorem test_pulseTimeout :
    (after (.pulseTimeout 0)
      (withRecord 0 { Seat.afterReset with state := .releasing, pulseElapsed := 2000 } (energised 0 up))).restraint.energised =
      [] := by decide
theorem test_pulseTimeout_fills :
    let s := after (.pulseTimeout 0) (withRecord 0 { Seat.afterReset with state := .releasing, pulseElapsed := 2000 }
      (releasingThree .halt))
    s.restraint.energised = [1, 2] ∧ s.restraint.queue = [] := by decide
theorem test_filteredChange_opens :
    (after (.filteredChange 2) (withInput 2 true (withSeat 0 .verified running))).permit.active = [.restraintOpen] := by decide
theorem test_restore_opens :
    (asked .restore .rc [3] (withSeat 0 .bypassed (withSeat 1 .bypassed running))).permit.log.map (·.2.detail) = [1] := by decide
theorem test_verify_makesReady :
    (after (.verifyTimeReached 0) (withRecord 0 { Seat.afterReset with state := .locked, verifyElapsed := 500 }
      (stationary { up with mc := { up.mc with mode := .load }, tracker := { up.tracker with position := .sync } }))).mc.mode =
      .ready := by decide
theorem test_solenoidMismatch :
    (after (.solenoidMismatch 20)
      { running with
        params := { up.params with outputs := up.params.outputs.set 20 (.release 0) }
        terminals := { up.terminals with mismatchDue := up.terminals.mismatchDue.set 20 true } }).permit.active =
      [.solenoid] := by decide
theorem test_ampNotReady :
    (after .ampNotReady { running with steering := { running.steering with ampWait := 101 } }).steering.state = .frozen := by
  decide
theorem test_showClockAdvance : (after .showClockAdvance up).clock.ms = 1 := by decide
/-- The clock is LOCKED, at a sync age. -/
def aged (age : Nat) : State := { up with clock := { up.clock with age := age, state := .locked } }

theorem test_showClockAdvance_expires :
    (after .showClockAdvance (aged 4998)).clock.state = .locked ∧ (after .showClockAdvance (aged 4999)).clock.state = .free := by
  decide
theorem test_syncAgeExpiry :
    (after .syncAgeExpiry (aged 4999)).clock = { (aged 5000).clock with state := .free } ∧
      after .syncAgeExpiry (aged 4998) = aged 4998 := by decide
/-- Scene 2, with the scene cursor at a cue. -/
def inScene (timer cursor : Nat) : State :=
  { running with cues := { up.cues with scene := 2, timer := timer, sceneCursor := some cursor } }

theorem test_sceneCueDue :
    (after .sceneCueDue (inScene 49 3)).cues.notices = [⟨202, 9, 0, 6000, 0⟩] ∧
      (after .sceneCueDue (inScene 49 3)).cues.timer = 50 ∧ after .sceneCueDue (inScene 48 3) = inScene 48 3 := by decide
theorem test_tick_firesSceneCue :
    (tick (inScene 49 3)).cues.notices = [⟨202, 9, 0, 6000, 0⟩] ∧ (tick (inScene 48 3)).cues.notices = [] ∧
      (tick (inScene 48 3)).cues.timer = 49 ∧ (tick (inMode .hold (inScene 49 3))).cues.timer = 49 := by decide
theorem test_effectPulseEnd :
    (after (.effectPulseEnd 3) (withChannel 3 (.pulsing 1) up)).cues.channels[3] = .off ∧
      (after (.effectPulseEnd 3) (withChannel 3 (.pulsing 2) up)).cues.channels[3] = .pulsing 2 := by decide
theorem test_tick_endsPulse :
    (tick (withChannel 3 (.pulsing 1) up)).cues.channels[3] = .off ∧
      (tick (withChannel 3 (.pulsing 2) up)).cues.channels[3] = .pulsing 1 := by decide
theorem test_voiceJoin :
    voiceAt (after (.voiceJoin 0) (withVoice 0 { sounding 1 0 with state := .waiting, timing := some ⟨5, 0, false⟩ }
      (loaded { up with clock := { up.clock with ms := 7 } }))) 0 =
      some { sounding 1 64 with timing := some ⟨5, 0, false⟩ } := by decide
theorem test_gainRampTick :
    voiceAt (after .gainRampTick (withVoice 0 { sounding 1 0 with target := 0, ramp := 4 } up)) 0 =
      some { sounding 1 0 with gain := 3072, target := 0, ramp := 3 } := by decide
theorem test_fadeEnd :
    voiceAt (after (.fadeEnd 0) (withVoice 0 { sounding 1 0 with state := .stopping } up)) 0 = none := by decide

/-- R126: GAIN_RAMP_TICK ends a fade in the event in which its ramp reaches 0. -/
theorem test_gainRampTick_endsFade :
    voiceAt (after .gainRampTick (withVoice 0 { sounding 1 0 with state := .stopping, target := 0, ramp := 1 } up)) 0 = none := by
  decide
theorem test_sampleClock :
    (after .sampleClock (withVoice 0 (sounding 1 2)
      (loaded { up with store := { up.store with memory := ⟨[(4, 0), (5, 100)], []⟩ } }))).density[1].code = 32868 := by decide
theorem test_generatorClock :
    (after (.generatorClock 0) { up with density := up.density.set 0 ⟨true, 4000, 36968, false⟩ }).density[0] =
      ⟨true, 2214, 36968, true⟩ := by decide
theorem test_unknownKind :
    reply (after .unknownKind { up with wli := { up.wli with queue := [{ ask .status .rc [] with kind := 0xFF }] } }) =
      some (.unknown, []) := by decide

/-- A step takes the command at the front of the queue, and with none waiting lets a millisecond pass. -/
theorem test_step_queue :
    (match step { up with pending := [.showClockAdvance, .sampleClock] } with
      | .next t => (t.clock.ms, t.pending)
      | _ => (0, [])) = (1, [.sampleClock]) ∧
    (match step up with
      | .next t => t.localMs
      | _ => 0) = 1 := by decide

/-! ## What the hypotheses of the statements allow: one state for each clause, at the boundary of its range where it has one -/

theorem called_of {k : Kind} {src : Source} {a : Addressing} {args : List Byte} {s : State} (ha : a ≠ .unicast)
    (hs : s.startUp.phase = .complete) :
    Called k { ask k src args with addressing := a } []
      { s with wli := { s.wli with queue := [{ ask k src args with addressing := a }] } } :=
  ⟨rfl, by cases k <;> rfl, ha, hs⟩

theorem test_witness_steps : (∃ s c, s.pending = [] ∧ due s = some c) ∧ (up.pending = [] ∧ due up = none) :=
  ⟨⟨asking .status .rc [] up, .status, by decide⟩, by decide⟩

theorem test_witness_pulses :
    ∀ c ∈ [Channel.pulsing 1, .pulsing 2, .on], (withChannel 0 c up).pending = [] ∧ due (withChannel 0 c up) = none ∧
      (withChannel 0 c up).cues.channels[(0 : Fin 12)] = c := by decide

/-- A millisecond with nothing due: at each link rate; with the amplifier not ready at RUN and at STOP; with a seat that waits to be
verified, one whose inputs conflict and one that drives its solenoid; in each operation of the store; with the scene timer at
rest, running without a cue, and at the cue of the scene cursor. -/
theorem test_witness_millisecond :
    (∀ r : Fin 4, ∃ s : State, s.pending = [] ∧ due s = none ∧ s.wli.linkRate = r ∧ s.wli.quiet = 65500) ∧
    (∃ s : State, s.pending = [] ∧ due s = none ∧ s.terminals.filtered[(24 : Fin 27)] = false ∧ s.permit.level = .run ∧
      s.steering.ampWait = 99) ∧
    (up.terminals.filtered[(24 : Fin 27)] = false ∧ up.permit.level = .stop ∧
      (withInput 24 false running).terminals.filtered[(24 : Fin 27)] = true ∧ due (withInput 24 false running) = none) ∧
    (∃ s : State, s.pending = [] ∧ due s = none ∧ seatState s 0 = .locked ∧ (s.restraint.seats[(0 : Fin 8)]).verifyElapsed = 499) ∧
    (∃ s : State, s.pending = [] ∧ due s = none ∧ seatState s 0 = .open ∧ (picture s 0).conflict = true ∧
      (s.restraint.seats[(0 : Fin 8)]).disagreeElapsed = 199) ∧
    ((releasingThree .load).pending = [] ∧ due (releasingThree .load) = none ∧
      (releasingThree .load).restraint.energised = [0, 1]) ∧
    (∀ a ∈ [StoreActivity.writing 0 [1] 1, .erasing 0 499, .saving up.store.image 399, .idle, .restoring], ∃ s : State,
      s.pending = [] ∧ due s = none ∧ s.store.activity = a) ∧
    (due (inScene 48 3) = none ∧ due (inScene 49 3) = none ∧ due running = none ∧ (inScene 49 3).pending = []) := by
  refine ⟨fun r => ⟨{ up with params := { up.params with linkRate := r }, wli := { up.wli with linkRate := r, quiet := 65500 } }, ?_⟩,
    ⟨{ running with steering := { running.steering with ampWait := 99 } }, by decide⟩, by decide,
    ⟨withRecord 0 { Seat.afterReset with state := .locked, verifyElapsed := 499 } (lockedDown up), by decide⟩,
    ⟨withRecord 0 { Seat.afterReset with state := .open, disagreeElapsed := 199 } (withInput 0 false up), by decide⟩, by decide,
    fun a ha => ⟨{ up with store := { up.store with activity := a } }, rfl, ?_, rfl⟩, by decide⟩
  · revert r; decide
  · simp only [List.mem_cons, List.not_mem_nil, or_false] at ha
    rcases ha with rfl | rfl | rfl | rfl | rfl <;> decide

theorem test_witness_hardwareReset :
    up.store.activity = .idle ∧ State.reset.store.activity = .restoring := by decide

theorem test_witness_restart :
    (∃ f rest s, Admitted .restart f rest s ∧ f.args = [] ∧ s.store.activity ≠ .idle) ∧
    (∃ f rest s, Admitted .restart f rest s ∧ f.args = [] ∧ s.store.activity = .idle) :=
  ⟨admitted_with .rc [] (withPreface .restart 0 { up with store := { up.store with activity := .erasing 0 0 } })
      (by decide) (by decide),
    admitted_with .rc [] (withPreface .restart 0 up) (by decide) (by decide)⟩

/-- A part in start-up. -/
def starting (phase : StartPhase) (image : Image) : State :=
  { State.reset with startUp := ⟨phase, Params.defaults⟩, store := { State.reset.store with image := image } }

def oneSegment : Image :=
  { Image.blank with config := some Params.defaults, routeLength := 10000, markers := .present 0 0xFFFF []
                     route := .present 1 (crc16 (Segment.bytes ⟨0, 0, 600, .load, 1, 0⟩)) [⟨0, 0, 600, .load, 1, 0⟩] }

theorem test_witness_startUp :
    (∃ s : State, s.startUp.phase = .strap 10 ∧ s.terminals.filtered[(26 : Fin 27)] = true ∧
      s.terminals.changeDue[(26 : Fin 27)] = false) ∧
    (∃ s : State, s.startUp.phase = .strap 10 ∧ s.terminals.filtered[(26 : Fin 27)] = false ∧
      s.terminals.changeDue[(26 : Fin 27)] = false) ∧
    (∃ s : State, s.startUp.phase = .config ∧ s.store.image.config = none ∧ s.store.image.route = .absent ∧
      s.store.image.markers = .absent ∧ s.store.image.cues = .absent ∧ s.store.image.clips = .absent) ∧
    (∃ s : State, s.startUp.phase = .config ∧ s.store.image.config ≠ none ∧ s.store.image.route ≠ .absent) ∧
    (∃ (s : State) (count : Nat) (crc : Word) (entries : List Segment), s.startUp.phase = .table .route ∧
      s.store.image.route = .present count crc entries ∧ s.store.image.markers ≠ .absent ∧ entries.length = count ∧
      crc16 (entries.flatMap Segment.bytes) = crc) ∧
    (∃ (s : State) (count : Nat) (crc : Word) (entries : List Segment), s.startUp.phase = .table .route ∧
      s.store.image.route = .present count crc entries ∧ s.store.image.markers ≠ .absent ∧ entries.length ≠ count) :=
  ⟨⟨withInput 26 false (starting (.strap 10) Image.blank), by decide⟩, ⟨starting (.strap 10) Image.blank, by decide⟩,
    ⟨starting .config Image.blank, by decide⟩, ⟨starting .config oneSegment, by decide⟩,
    ⟨starting (.table .route) oneSegment, _, _, _, by decide, rfl, by decide⟩,
    ⟨starting (.table .route) { oneSegment with route := .present 2 0 [] }, _, _, _, by decide, rfl, by decide⟩⟩

/-- Start-up about to complete, at rest, with the last sample active on T01 and T02, which the chosen map gives to BAR_DOWN of
seat 1 and to an input; seat 1 enabled and seat 8 not; a low input of an active level LOW. -/
def completing (input : Fin 27) : State :=
  let map := ((Vector.replicate 27 none).set 2 (some 1)).set input (some 2)
  let p : Params := { Params.defaults with sources := map, activeHigh := (Vector.replicate 27 true), seatMask := 0x7F }
  let s := starting .config { Image.blank with config := some p }
  { s with terminals := { s.terminals with sampled := 6 } }

theorem test_completeStartUp :
    (after (.sectionRead true) (completing 25)).restraint.seats[(0 : Fin 8)] = { Seat.afterReset with state := .closing } ∧
      (after (.sectionRead true) (completing 25)).restraint.seats[(7 : Fin 8)] = Seat.afterReset ∧
      (after (.sectionRead true) (completing 25)).permit.level = .emergency ∧
      (after (.sectionRead true) (completing 25)).permit.log.length = 1 ∧
      (after (.sectionRead true) (completing 24)).permit.level = .stop ∧
      (after (.sectionRead true) (completing 24)).permit.log = [] := by decide

theorem test_witness_completion :
    (∃ t, exec (.sectionRead true) (completing 25) = .next t ∧ StartUpRests (completing 25) ∧
      (completing 25).terminals.filtered[(25 : Fin 27)] = false ∧ t.terminals.filtered[(25 : Fin 27)] = true ∧
      t.params.sources[(2 : Fin 27)] = some 1 ∧ t.params.sources[(0 : Fin 27)] = none ∧
      t.params.seatMask.getLsbD 0 = true ∧ t.params.seatMask.getLsbD 7 = false) ∧
    (∃ t, exec (.sectionRead true) (completing 24) = .next t ∧ t.terminals.filtered[(25 : Fin 27)] = false) :=
  ⟨⟨_, rfl, ⟨rfl, by decide⟩, by decide⟩, ⟨_, rfl, by decide⟩⟩

/-- The marker, cue and clip sections: one that passes, one whose count does not fit, one that fails its CRC; a marker section
whose marker lies at the end of the VALID route, and one that lies within it. -/
theorem test_witness_sections :
    (∀ start ∈ [9999, 10000], ∃ (s : State) (count : Nat) (crc : Word) (entries : List Marker),
      s.startUp.phase = .table .marker ∧ s.store.image.markers = .present count crc entries ∧ entries.length = count ∧
      crc16 (entries.flatMap Marker.bytes) = crc ∧ s.tables.route.status = .valid ∧ s.tables.routeLength = 10000 ∧
      ∃ m ∈ entries, m.position = start) ∧
    (∃ (s : State) (count : Nat) (crc : Word) (entries : List Marker), s.startUp.phase = .table .marker ∧
      s.store.image.markers = .present count crc entries ∧ entries.length ≠ count ∧ s.store.image.cues ≠ .absent) ∧
    (∃ (s : State) (count : Nat) (crc : Word) (entries : List Cue), s.startUp.phase = .table .cue ∧
      s.store.image.cues = .present count crc entries ∧ entries.length = count ∧ crc16 (entries.flatMap Cue.bytes) = crc) ∧
    (∃ (s : State) (count : Nat) (crc : Word) (entries : List Cue), s.startUp.phase = .table .cue ∧
      s.store.image.cues = .present count crc entries ∧ crc16 (entries.flatMap Cue.bytes) ≠ crc) ∧
    (∃ (s : State) (count : Nat) (crc : Word) (entries : List Clip), s.startUp.phase = .table .clip ∧
      s.store.image.clips = .present count crc entries ∧ entries.length = count ∧ crc16 (entries.flatMap Clip.bytes) = crc) ∧
    (∃ (s : State) (count : Nat) (crc : Word) (entries : List Clip), s.startUp.phase = .table .clip ∧
      s.store.image.clips = .present count crc entries ∧ crc16 (entries.flatMap Clip.bytes) ≠ crc) ∧
    (∃ s : State, s.startUp.phase = .table .clip ∧ s.store.image.clips = .broken) := by
  let image : Image :=
    { Image.blank with markers := .present 1 0 [], cues := .present 0 0xFFFF [], clips := .present 0 0xFFFF [] }
  let paired (start : Nat) : State :=
    { starting (.table .marker)
        { image with markers := .present 1 (crc16 (Marker.bytes ⟨1, start, 50⟩)) [⟨1, start, 50⟩] } with
      tables := { State.reset.tables with route := ⟨.valid, [⟨0, 0, 600, .load, 1, 0⟩], 0⟩, routeLength := 10000 } }
  exact ⟨fun start h => ⟨paired start, 1, _, [⟨1, start, 50⟩], rfl, rfl, rfl, by simp, rfl, rfl, _, List.mem_singleton.2 rfl, rfl⟩,
    ⟨starting (.table .marker) image, _, _, _, rfl, rfl, by decide, by decide⟩,
    ⟨starting (.table .cue) image, _, _, _, rfl, rfl, rfl, by decide⟩,
    ⟨starting (.table .cue) { image with cues := .present 0 0 [] }, _, _, _, rfl, rfl, by decide⟩,
    ⟨starting (.table .clip) image, _, _, _, rfl, rfl, rfl, by decide⟩,
    ⟨starting (.table .clip) { image with clips := .present 0 0 [] }, _, _, _, rfl, rfl, by decide⟩,
    ⟨starting (.table .clip) { image with clips := .broken }, rfl, rfl⟩⟩

theorem test_witness_unicast :
    (∃ s : State, s.wli.queue = [ask .status .rc []] ∧ s.wli.outgoing.length = 2) ∧
    (∃ s : State, s.wli.queue = [ask .status .rc []] ∧ s.wli.outgoing.length = 1 ∧ s.startUp.phase ≠ .complete) ∧
    (ask .status .rc []).kind.toNat = Kind.status.code ∧ (ask .status .rc []).addressing = .unicast :=
  ⟨⟨{ asking .status .rc [] up with wli := { (asking .status .rc [] up).wli with
        outgoing := [⟨0, 0, 0, .done, []⟩, ⟨0, 0, 0, .done, []⟩] } }, by decide⟩,
    ⟨{ asking .status .rc [] State.reset with wli := { (asking .status .rc [] up).wli with
        outgoing := [⟨0, 0, 0, .done, []⟩] } }, by decide⟩, by decide⟩

theorem asked_of {k : Kind} {src : Source} {args : List Byte} {s : State} (ho : s.wli.outgoing.length < 2)
    (hp : s.startUp.phase = .complete) : Asked k (ask k src args) [] (asking k src args s) :=
  ⟨rfl, by cases k <;> rfl, rfl, ho, hp⟩

theorem test_witness_checks :
    (∀ k : Kind, k.code ≠ (0xFF : Byte).toNat) ∧
    (∃ f rest s, Asked .status f rest s ∧ Kind.status.source f.args = some .rc ∧ Source.rc ≠ f.source) ∧
    (∃ f rest s, Asked .tableBegin f rest s ∧ Kind.tableBegin.source f.args = none) ∧
    (∃ f rest s, Asked .release f rest s ∧ Kind.release.source f.args = some f.source ∧ prefaceSlot s.mc f.source = none) ∧
    (∃ f rest s p, Asked .release f rest s ∧ Kind.release.source f.args = some f.source ∧
      prefaceSlot s.mc f.source = some p ∧ ¬(p.kind = .release ∧ p.byte = f.args.headD 0)) ∧
    (∃ f rest s, Asked .dispatch f rest s ∧ Kind.dispatch.source f.args = some f.source ∧
      Kind.dispatch.takenIn s.mc.mode = false) :=
  ⟨by intro k; cases k <;> decide,
    ⟨_, _, _, asked_of (src := .sc) (args := []) (s := up) (by decide) rfl, by decide⟩,
    ⟨_, _, _, asked_of (src := .rc) (args := [5]) (s := up) (by decide) rfl, by decide⟩,
    ⟨_, _, _, asked_of (src := .rc) (args := [1]) (s := up) (by decide) rfl, by decide⟩,
    ⟨_, _, _, _, asked_of (src := .rc) (args := [1]) (s := withPreface .release 2 up) (by decide) rfl, by decide, rfl, by decide⟩,
    ⟨_, _, _, asked_of (src := .rc) (args := []) (s := up) (by decide) rfl, by decide⟩⟩

theorem test_witness_group :
    (∃ f rest s, Called .status f rest s ∧ ¬(Kind.status.byGroup = true ∧ Kind.status.source f.args = some f.source)) ∧
    (∃ f rest s, Called .hold f rest s ∧ Kind.hold.byGroup = true ∧ Kind.hold.source f.args = some f.source ∧
      Kind.hold.takenIn s.mc.mode = false) :=
  ⟨⟨_, _, _, called_of (src := .rc) (a := .group) (args := []) (s := up) (by decide) rfl, by decide⟩,
    ⟨_, _, _, called_of (src := .rc) (a := .broadcast) (args := []) (s := up) (by decide) rfl, by decide⟩⟩

/-- HOLD by broadcast in RUN and the unicast request beside it, and a group frame during start-up. -/
theorem test_witness_groupActs :
    (Kind.hold.byGroup = true ∧ Kind.hold.source (ask .hold .rc []).args = some (ask .hold .rc []).source) ∧
    (∃ rest s, Called .hold { ask .hold .rc [] with addressing := .broadcast } rest s ∧ Kind.hold.takenIn s.mc.mode = true) ∧
    (∃ rest s, Admitted .hold (ask .hold .rc []) rest s) ∧
    (∃ (f : Frame) (rest : List Frame) (s : State), s.wli.queue = f :: rest ∧ f.addressing ≠ .unicast ∧ s.startUp.phase ≠ .complete ∧
      f.kind.toNat = Kind.hold.code) ∧
    (∃ (f : Frame) (rest : List Frame) (s : State), s.wli.queue = f :: rest ∧ f.addressing ≠ .unicast ∧ s.startUp.phase ≠ .complete ∧
      ∀ k : Kind, k.code ≠ f.kind.toNat) :=
  ⟨by decide, ⟨_, _, called_of (src := .rc) (a := .broadcast) (args := []) (s := running) (by decide) rfl, rfl⟩,
    ⟨_, _, admitted_of (src := .rc) (args := []) (s := running) (by decide)⟩,
    ⟨_, _, { State.reset with wli := { State.reset.wli with queue := [{ ask .hold .rc [] with addressing := .group }] } },
      rfl, by decide, by decide, rfl⟩,
    ⟨_, _, { State.reset with wli :=
        { State.reset.wli with queue := [{ ask .hold .rc [] with addressing := .group, kind := 0xFF }] } },
      rfl, by decide, by decide, by intro k; cases k <;> decide⟩⟩

/-- The WLI in a receiver state, with a frame in reception. -/
def hearing (r : ReceiverState) (chars : List Byte) : State :=
  { up with wli := { up.wli with receiver := r, frame := some ⟨239, .unicast, ⟨0, 0, 0, 0⟩, chars⟩ } }

theorem test_witness_receiver :
    (hearing .receiving []).wli.transmitting = false ∧ (hearing .receiving []).wli.receiver = .receiving ∧
    up.wli.transmitting = false ∧ up.wli.receiver ≠ .receiving ∧ (hearing .trailing []).wli.receiver = .trailing ∧
    (∃ s : State, s.wli.transmitting = true) ∧ up.wli.quiet < 4 ∧
    (∃ p, (hearing .receiving [1, 7]).wli.frame = some p ∧ p.chars.length < 3) ∧
    (∃ p, (hearing .receiving [1, 7, 1]).wli.frame = some p ∧ p.chars.length = 3) ∧
    (∃ p, ∃ a b c n : Byte, ∃ more, (hearing .receiving [1, 7, 1, 0]).wli.frame = some p ∧
      p.chars = a :: b :: c :: n :: more ∧ p.chars.length + 1 < n.toNat + 6) ∧
    (∃ (s : State) (g : Nat), g ∈ s.params.groups.toList ∧ g ≠ 0 ∧ (253 : Byte).toNat = 239 + g ∧
      (253 : Byte).toNat ≠ s.params.vehicleAddress) :=
  ⟨rfl, rfl, rfl, by decide, rfl, ⟨{ up with wli := { up.wli with transmitting := true } }, rfl⟩, by decide,
    ⟨_, rfl, by decide⟩, ⟨_, rfl, by decide⟩, ⟨_, _, _, _, _, _, rfl, rfl, by decide⟩,
    ⟨{ up with params := { up.params with groups := up.params.groups.set 3 14 } }, 14, by decide⟩⟩

/-- The last character of a STATUS from a source, as it fits and not, with room in the request queue and without. -/
theorem test_witness_completeFrames :
    ∀ source ∈ [1, 2, 3], ∀ full ∈ [false, true], ∃ (s : State) (p : PartialFrame) (hi lo bad : Byte),
      s.wli.transmitting = false ∧ s.wli.receiver = .receiving ∧
      s.wli.frame = some { p with chars := [source, 7, 1, 0] ++ [] ++ [hi] } ∧
      (crc16 ([source, 7, 1, 0] ++ [])).toNat = 256 * hi.toNat + lo.toNat ∧
      (crc16 ([source, 7, 1, 0] ++ [])).toNat ≠ 256 * hi.toNat + bad.toNat ∧
      (if full then s.wli.queue.length = 4 else s.wli.queue.length = 3) := by
  intro source hs full hf
  let crc := be2 (crc16 [source, 7, 1, 0]).toNat
  let s := hearing .receiving ([source, 7, 1, 0] ++ crc.take 1)
  refine ⟨{ s with wli := { s.wli with queue := List.replicate (if full then 4 else 3) (ask .status .rc []) } },
    ⟨239, .unicast, ⟨0, 0, 0, 0⟩, []⟩, crc.headD 0, crc.getD 1 0, crc.getD 1 0 + 1, ?_⟩
  simp only [List.mem_cons, List.not_mem_nil, or_false] at hs hf
  rcases hs with rfl | rfl | rfl <;> rcases hf with rfl | rfl <;> decide

theorem test_witness_responses :
    (∃ s : State, s.wli.outgoing ≠ [] ∧ s.wli.transmitting = false ∧ s.wli.receiver ≠ .receiving) ∧
    (∃ (s : State) (r : Response) (rest : List Response), s.wli.transmitting = true ∧ s.wli.outgoing = r :: rest) ∧
    (up.startUp.phase = .complete ∧ up.wli.outgoing = [] ∧ up.wli.receiver = .hunting) :=
  ⟨⟨asked .dispatch .rc [] up, by decide⟩, ⟨after (.responseStart 2) (asked .dispatch .rc [] up), _, _, by decide, rfl⟩,
    by decide⟩

theorem test_witness_records :
    (∃ f rest s, Admitted .status f rest s ∧ f.args = []) ∧ (∃ f rest s, Admitted .showStatus f rest s ∧ f.args = []) ∧
    (∃ f rest s, Admitted .status f rest s ∧ f.args ≠ []) ∧ (∃ f rest s, Admitted .showStatus f rest s ∧ f.args ≠ []) :=
  ⟨admitted_with .rc [] up (by decide) rfl, admitted_with .sc [] up (by decide) rfl,
    admitted_with .rc [0] up (by decide) (by decide), admitted_with .sc [0] up (by decide) (by decide)⟩

theorem test_witness_goOnline :
    (∃ f rest s, Admitted .goOnline f rest s ∧ f.args = [] ∧ s.tables.route.status = .valid ∧
      s.tables.markers.status = .valid ∧ s.tables.cues.status = .valid ∧ s.tables.clips.status = .valid ∧
      s.store.activity = .idle ∧ onboardStop s = false ∧ Calm s) ∧
    (∃ f rest s, Admitted .goOnline f rest s ∧ f.args = [] ∧ s.tables.route.status = .valid ∧
      s.tables.markers.status = .valid ∧ s.tables.cues.status = .valid ∧ s.tables.clips.status = .valid ∧
      s.store.activity = .idle ∧ onboardStop s = true) ∧
    (∃ f rest s, Admitted .goOnline f rest s ∧ f.args = [] ∧ s.tables.route.status ≠ .valid) :=
  ⟨admitted_with .rc [] (loaded up) (by decide) (by decide),
    admitted_with .rc [] (withInput 25 false (loaded up)) (by decide) (by decide),
    admitted_with .rc [] up (by decide) (by decide)⟩

theorem test_witness_goOffline :
    (∃ f rest s, Admitted .goOffline f rest s ∧ f.args = [] ∧ s.mc.mode = .offline) ∧
    (∃ f rest s, Admitted .goOffline f rest s ∧ f.args = [] ∧ s.mc.mode ≠ .offline ∧ s.permit.stationary = false) ∧
    (∃ f rest s, Admitted .goOffline f rest s ∧ f.args = [] ∧ s.mc.mode ≠ .offline ∧ s.permit.stationary = true) :=
  ⟨admitted_with .rc [] up (by decide) (by decide), admitted_with .rc [] halted (by decide) (by decide),
    admitted_with .rc [] (stationary halted) (by decide) (by decide)⟩

theorem test_witness_dispatch :
    (∃ f rest s, Admitted .dispatch f rest s ∧ f.args = [] ∧ s.restraint.summary = true) ∧
    (∃ f rest s, Admitted .dispatch f rest s ∧ f.args = [] ∧ s.restraint.summary = false ∧ Calm s) :=
  ⟨admitted_with .rc [] { inMode .ready up with restraint := { up.restraint with summary := true } } (by decide) (by decide),
    admitted_with .rc [] (inMode .ready up) (by decide) (by decide)⟩

/-- HOLD, held from a mode. -/
def held (from' : HeldFrom) : State := { up with mc := { up.mc with mode := .hold, heldFrom := from' } }

theorem test_witness_holdAndResume :
    (∃ f rest s, Admitted .hold f rest s ∧ f.args = [] ∧ s.mc.mode = .hold) ∧
    (∃ f rest s, Admitted .hold f rest s ∧ f.args = [] ∧ s.mc.mode ≠ .hold ∧ Calm s) ∧
    (∃ f rest s, Admitted .resume f rest s ∧ f.args = [] ∧ s.restraint.energised ≠ []) ∧
    (∃ f rest s, Admitted .resume f rest s ∧ f.args = [] ∧ s.restraint.queue = [] ∧ s.restraint.energised = [] ∧
      s.mc.heldFrom = .run ∧ s.mc.advance = none ∧ Calm s) ∧
    (∃ f rest s, Admitted .resume f rest s ∧ f.args = [] ∧ s.restraint.queue = [] ∧ s.restraint.energised = [] ∧
      s.mc.heldFrom = .unload ∧ s.mc.advance = none ∧ Calm s) :=
  ⟨admitted_with .rc [] (held .run) (by decide) (by decide), admitted_with .rc [] running (by decide) (by decide),
    admitted_with .rc [] (energised 0 (held .unload)) (by decide) (by decide),
    admitted_with .rc [] (held .run) (by decide) (by decide), admitted_with .rc [] (held .unload) (by decide) (by decide)⟩

/-- A voice of every hold behaviour and state, and V4 with the hold clip. -/
def voiced (s : State) : State :=
  withVoice 0 { sounding 1 5 with hold := some .pause }
    (withVoice 1 { sounding 1 0 with hold := some .pause, state := .waiting, timing := some ⟨9, 0, true⟩ }
      (withVoice 2 { sounding 2 5 with hold := some .fade }
        (withVoice 3 { sounding 2 5 with hold := some .pause, state := .paused } (withVoice 4 { sounding 2 5 with hold := none } s))))

/-- A hold clip, with a fade time or none. -/
def withHoldClip (clip fade : Nat) (s : State) : State :=
  { s with params := { s.params with holdClip := clip, holdFade := fade } }

theorem test_witness_holdVoices :
    (∀ clip ∈ [0, 1, 128], ∀ fade ∈ [0, 5000], ∃ f rest s, Admitted .hold f rest s ∧ f.args = [] ∧ s.mc.mode = .run ∧ Calm s ∧
      s.params.holdClip = clip ∧ s.params.holdFade = fade ∧ s.store.activity = .idle ∧
      (findClip s clip = none ↔ clip ≠ 1) ∧ s.sound = (voiced running).sound) ∧
    (∃ f rest s, Admitted .resume f rest s ∧ f.args = [] ∧ s.restraint.queue = [] ∧ s.restraint.energised = [] ∧
      s.mc.heldFrom = .run ∧ s.mc.advance = none ∧ Calm s ∧ s.sound = (voiced running).sound) := by
  refine ⟨fun clip hc fade hf => ?_, admitted_with .rc [] (voiced (held .run)) (by decide) (by decide)⟩
  refine admitted_with .rc [] (withHoldClip clip fade (voiced running)) rfl ?_
  simp only [List.mem_cons, List.not_mem_nil, or_false] at hc hf
  rcases hc with rfl | rfl | rfl <;> rcases hf with rfl | rfl <;> decide

theorem test_witness_advance :
    (∃ f rest s, Admitted .advance f rest s ∧ f.args = [0, 1] ∧ s.restraint.energised ≠ []) ∧
    (∃ f rest s, Admitted .advance f rest s ∧ f.args = [0, 1] ∧ s.restraint.queue = [] ∧ s.restraint.energised = []) ∧
    (∃ f rest s, Admitted .advance f rest s ∧ f.args = [0, 0] ∧ s.restraint.queue = [] ∧ s.restraint.energised = [] ∧
      s.mc.advance = none) ∧
    (∃ f rest s, Admitted .advance f rest s ∧ f.args = [0, 0] ∧ s.restraint.queue = [] ∧ s.restraint.energised = [] ∧
      s.mc.advance ≠ none) :=
  ⟨admitted_with .rc [0, 1] (energised 0 (inMode .load up)) (by decide) (by decide),
    admitted_with .rc [0, 1] (inMode .unload up) (by decide) (by decide),
    admitted_with .rc [0, 0] (inMode .unload up) (by decide) (by decide),
    admitted_with .rc [0, 0] { up with mc := { up.mc with mode := .unload, advance := some ⟨1, none⟩ } } (by decide) (by decide)⟩

/-- In a mode on the segment at a place of the small route, with an advance or without. -/
def onSegment (m : Mode) (segment : Nat) (a : Option Advance) (s : State) : State :=
  { loaded s with mc := { s.mc with mode := m, advance := a }, tracker := { s.tracker with segment := some segment } }

theorem test_witness_advanceEnds :
    (∀ d ∈ [99, 100], ∃ (s : State) (a : Advance), s.mc.advance = some a ∧ a.remaining = 100 ∧ s.mc.mode = .unload ∧
      s.mc.berthed = false ∧ ((d : Int) < a.remaining ↔ d = 99)) ∧
    (∃ (s : State) (g : Segment), currentSegment s = some g ∧ s.mc.mode = .run ∧ g.zone = .unload ∧ s.mc.advance = none ∧
      Calm s) ∧
    (∃ (s : State) (g : Segment) (a : Advance), currentSegment s = some g ∧ s.mc.mode = .unload ∧ g.zone = .load ∧
      s.mc.advance = some a ∧ Calm s ∧ g.ceiling ≠ 0) ∧
    (∃ (s : State) (g : Segment) (a : Advance), currentSegment s = some g ∧ s.mc.mode = .unload ∧ g.zone = .load ∧
      s.mc.advance = some a ∧ Calm s ∧ g.ceiling = 0 ∧ a.startSegment ≠ s.tracker.segment) ∧
    (∃ (s : State) (g : Segment) (a : Advance), currentSegment s = some g ∧ s.mc.mode = .unload ∧ g.zone = .unload ∧
      s.mc.advance = some a ∧ g.ceiling = 0 ∧ a.startSegment ≠ s.tracker.segment ∧ s.mc.berthed = false) ∧
    (∃ (s : State) (g : Segment), currentSegment s = some g ∧ s.mc.mode = .run ∧ g.zone = .none ∧ s.mc.advance = none) ∧
    (∃ (s : State) (g : Segment), currentSegment s = some g ∧ s.mc.mode = .unload ∧ g.zone = .unload ∧
      s.mc.advance = none ∧ s.permit.stationary = true ∧ g.ceiling = 0) := by
  let stop (s : State) : State :=
    { s with tables := { s.tables with route := { s.tables.route with entries := [⟨0, 0, 0, .load, 1, 0⟩] } } }
  exact ⟨fun d hd => ⟨onSegment .unload 1 (some ⟨100, some 0⟩) up, _, rfl, rfl, rfl, rfl, by
      simp only [List.mem_cons, List.not_mem_nil, or_false] at hd; rcases hd with rfl | rfl <;> decide⟩,
    ⟨onSegment .run 2 none up, _, rfl, rfl, rfl, rfl, by decide⟩,
    ⟨onSegment .unload 0 (some ⟨100, some 2⟩) up, _, _, rfl, rfl, rfl, rfl, by decide, by decide⟩,
    ⟨stop (onSegment .unload 0 (some ⟨100, some 2⟩) up), _, _, rfl, rfl, rfl, rfl, by decide, by decide, by decide⟩,
    ⟨onSegment .unload 2 (some ⟨100, some 1⟩) up, _, _, rfl, rfl, rfl, rfl, rfl, by decide, rfl⟩,
    ⟨onSegment .run 1 none up, _, rfl, rfl, rfl, rfl⟩,
    ⟨stationary (onSegment .unload 2 none up), _, rfl, rfl, rfl, rfl, rfl, rfl⟩⟩

theorem test_witness_stopNow :
    (∃ f rest s, Admitted .stopNow f rest s ∧ f.args = [] ∧ s.mc.mode = .offline) ∧
    (∃ f rest s, Admitted .stopNow f rest s ∧ f.args = [] ∧ s.mc.mode = .halt) ∧
    (∃ f rest s, Admitted .stopNow f rest s ∧ f.args = [] ∧ s.mc.mode ≠ .offline ∧ s.mc.mode ≠ .halt ∧ Calm s) :=
  ⟨admitted_with .rc [] up (by decide) (by decide), admitted_with .rc [] halted (by decide) (by decide),
    admitted_with .rc [] running (by decide) (by decide)⟩

/-- HALT with nothing that keeps it. -/
def recoverable : State := withPreface .recover 0 (withInput 24 false (stationary { halted with dli := { up.dli with live := true } }))

theorem test_witness_recover :
    (∃ f rest s, Admitted .recover f rest s ∧ f.args = [] ∧ s.permit.stationary = false) ∧
    (∃ f rest s, Admitted .recover f rest s ∧ f.args = [] ∧ allReady s = true ∧ .guideLost ∉ s.permit.active ∧
      ampReady s = true ∧ s.dli.live = true ∧ s.permit.reportFault = false ∧ onboardStop s = false ∧
      s.permit.stationary = true ∧ s.mc.heldFrom = .none ∧ Calm s) ∧
    (∃ f rest s, Admitted .recover f rest s ∧ f.args = [] ∧ allReady s = true ∧ .guideLost ∉ s.permit.active ∧
      ampReady s = true ∧ s.dli.live = true ∧ s.permit.reportFault = false ∧ onboardStop s = false ∧
      s.permit.stationary = true ∧ s.mc.heldFrom = .run ∧ Calm s) :=
  ⟨admitted_with .rc [] (withPreface .recover 0 halted) (by decide) (by decide),
    admitted_with .rc [] recoverable (by decide) (by decide),
    admitted_with .rc [] { recoverable with mc := { recoverable.mc with heldFrom := .run } } (by decide) (by decide)⟩

theorem test_witness_preface :
    (∃ f rest s, Admitted .preface f rest s ∧ f.args = [0x0A, 1] ∧ (0x0A : Byte).toNat = Kind.release.code) ∧
    (∃ f rest s, Admitted .preface f rest s ∧ f.args.length ≠ 2) ∧
    (∃ (s : State) (p : Preface), s.mc.rcSlot = some p ∧ p.time + 500 = s.localMs) ∧
    (∃ (s : State) (p : Preface), s.mc.scSlot = some p) ∧ up.mc.rcSlot = none ∧ up.mc.scSlot = none :=
  ⟨admitted_with .rc [0x0A, 1] up (by decide) (by decide), admitted_with .rc [] up (by decide) (by decide),
    ⟨{ withPreface .release 1 up with localMs := 500 }, _, rfl, rfl⟩,
    ⟨{ up with mc := { up.mc with scSlot := some ⟨.release, 1, 0⟩ } }, _, rfl⟩, rfl, rfl⟩

theorem test_witness_release :
    (∃ f rest s, Admitted .release f rest s ∧ f.args = [0]) ∧
    (∃ f rest s, Admitted .release f rest s ∧ f.args = [1] ∧ s.mc.advance ≠ none) ∧
    (∃ f rest s, Admitted .release f rest s ∧ f.args = [1] ∧ s.mc.mode = .halt ∧ s.permit.stationary = false) ∧
    (∃ f rest s, Admitted .release f rest s ∧ f.args = [1] ∧ s.mc.mode = .unload ∧ s.mc.berthed = false) ∧
    (∃ f rest s, Admitted .release f rest s ∧ f.args = [1] ∧ s.mc.advance = none ∧ ReleaseHeld s ∧ BerthHeld s ∧
      s.mc.mode = .offline ∧ (seatState s 0).inEvaluation = true ∧ (picture s 0).barDown = true) :=
  ⟨admitted_with .rc [0] (withPreface .release 0 up) (by decide) (by decide),
    admitted_with .rc [1] (withPreface .release 1 { up with mc := { up.mc with mode := .load, advance := some ⟨1, none⟩ } })
      (by decide) (by decide),
    admitted_with .rc [1] (withPreface .release 1 halted) (by decide) (by decide),
    admitted_with .rc [1] (withPreface .release 1 (inMode .unload up)) (by decide) (by decide),
    admitted_with .rc [1] (withPreface .release 1 (withInput 2 false (withSeat 0 .locked up))) (by decide)
      ⟨by decide, by decide, releaseHeld_of (by decide), ⟨by decide, by decide⟩, by decide, by decide, by decide⟩⟩

/-- LOAD, where the conditions of READY hold but for the seats, and READY. -/
def boarding (m : Mode) : State :=
  stationary { up with mc := { up.mc with mode := m }, tracker := { up.tracker with position := .sync } }

theorem rcHeard_of {s : State} (h : s.wli.rcSilence ≤ s.wli.rcTimeout) : RcHeard s := .inl h

/-- The READY evaluation has both outcomes. -/
theorem test_witness_ready :
    ReadyMet (boarding .load) ∧ ¬ReadyMet (withSeat 0 .locked (boarding .ready)) ∧ RcHeard up ∧
      (∃ s : State, RcHeard s ∧ s.wli.rcTimeout < s.wli.rcSilence) :=
  ⟨readyConditions_iff.1 (by decide), fun h => absurd (readyConditions_iff.2 h) (by decide), rcHeard_of (by decide),
    ⟨{ up with wli := { up.wli with rcSilence := 501, rcReported := true } }, .inr rfl, by decide⟩⟩

/-- A stationary vehicle in a mode, with the preface of a RELEASE and a locked seat whose bar is down. -/
def releasable (m : Mode) (berthed : Bool) : State :=
  let s := withPreface .release 1 (stationary (withInput 2 false (withSeat 0 .locked up)))
  { s with mc := { s.mc with mode := m, berthed := berthed, berthReached := berthed } }

theorem test_witness_releaseAccepted :
    ∀ m ∈ [Mode.offline, .load, .ready, .halt, .unload], ∃ f rest s, Admitted .release f rest s ∧ f.args = [1] ∧
      s.mc.mode = m ∧ s.mc.advance = none ∧ ReleaseHeld s ∧ BerthHeld s ∧ s.permit.stationary = true ∧
      (m = .unload → s.mc.berthed = true) ∧ (seatState s 0).inEvaluation = true ∧ (picture s 0).barDown = true := by
  have h (m : Mode) (hm : m ∈ [Mode.offline, .load, .ready, .halt, .unload]) :
      admits .release .rc [1] (releasable m (m == .unload)) = true := by
    simp only [List.mem_cons, List.not_mem_nil, or_false] at hm
    rcases hm with rfl | rfl | rfl | rfl | rfl <;> decide
  intro m hm
  refine admitted_with .rc [1] (releasable m (m == .unload)) (h m hm) ?_
  simp only [List.mem_cons, List.not_mem_nil, or_false] at hm
  rcases hm with rfl | rfl | rfl | rfl | rfl <;>
    exact ⟨rfl, rfl, rfl, releaseHeld_of (by decide), ⟨by decide, by decide⟩, rfl, by decide, by decide, by decide⟩

theorem test_witness_bypassAndRestore :
    (∃ f rest s, Admitted .bypass f rest s ∧ f.args = [0]) ∧
    (∃ f rest s, Admitted .bypass f rest s ∧ f.args = [1] ∧ s.restraint.energised ≠ []) ∧
    (∃ f rest s, Admitted .bypass f rest s ∧ f.args = [1] ∧ s.restraint.queue = [] ∧ s.restraint.energised = [] ∧
      (seatState s 0).inEvaluation = true) ∧
    (∃ f rest s, Admitted .restore f rest s ∧ f.args = [0]) ∧
    (∃ f rest s, Admitted .restore f rest s ∧ f.args = [1] ∧ ReleaseHeld s ∧ seatState s 0 = .bypassed) :=
  ⟨admitted_with .rc [0] (withPreface .bypass 0 up) (by decide) (by decide),
    admitted_with .rc [1] (withPreface .bypass 1 (energised 1 up)) (by decide) (by decide),
    admitted_with .rc [1] (withPreface .bypass 1 (withSeat 0 .open up)) (by decide) (by decide),
    admitted_with .rc [0] up (by decide) (by decide),
    admitted_with .rc [1] (withSeat 0 .bypassed up) (by decide)
      ⟨by decide, releaseHeld_of (by decide), by decide⟩⟩

/-- READY and LOAD are judged at BYPASS and RESTORE; RESTORE opens a restraint, the first seat or a later one, or none. -/
theorem test_witness_bypassAndRestoreJudged :
    (∃ f rest s, Admitted .bypass f rest s ∧ f.args = [1] ∧ s.restraint.queue = [] ∧ s.restraint.energised = [] ∧
      (1 : Byte).getLsbD (0 : Fin 8).val = true ∧ (seatState s 0).inEvaluation = true ∧ s.mc.mode = .load ∧ RcHeard s) ∧
    (∃ f rest s, Admitted .restore f rest s ∧ f.args = [1] ∧ ReleaseHeld s ∧ seatState s 0 = .bypassed ∧
      s.mc.mode = .ready ∧ RcHeard s ∧ ¬RestraintsWatched s) ∧
    (∃ f rest s, Admitted .restore f rest s ∧ f.args = [3] ∧ ReleaseHeld s ∧ RestraintsWatched s ∧ s.mc.mode ≠ .halt ∧
      (∀ j : Fin 8, j < 1 → (3 : Byte).getLsbD j.val = true → seatState s j = .bypassed →
        (picture s j).seatState = .locked) ∧
      seatState s 0 = .bypassed ∧ seatState s 1 = .bypassed ∧ (picture s 1).seatState = .open) ∧
    (∃ f rest s, Admitted .restore f rest s ∧ f.args = [1] ∧ ReleaseHeld s ∧ RestraintsWatched s ∧ s.mc.mode = .run ∧
      (∀ i : Fin 8, (1 : Byte).getLsbD i.val = true → seatState s i = .bypassed → (picture s i).seatState = .locked) ∧
      seatState s 0 = .bypassed ∧ RcHeard s) :=
  ⟨admitted_with .rc [1] (withPreface .bypass 1 (withSeat 0 .open (boarding .load))) (by decide)
      ⟨rfl, rfl, rfl, by decide, by decide, rfl, rcHeard_of (by decide)⟩,
    admitted_with .rc [1] (withSeat 0 .bypassed (boarding .ready)) (by decide)
      ⟨rfl, releaseHeld_of (by decide), by decide, rfl, rcHeard_of (by decide), fun h => absurd (watched_iff.2 h) (by decide)⟩,
    admitted_with .rc [3] (lockedDown (withSeat 0 .bypassed (withSeat 1 .bypassed running))) (by decide)
      ⟨rfl, releaseHeld_of (by decide), watched_iff.1 (by decide), by decide, by decide, by decide, by decide, by decide⟩,
    admitted_with .rc [1] (lockedDown (withSeat 0 .bypassed running)) (by decide)
      ⟨rfl, releaseHeld_of (by decide), watched_iff.1 (by decide), rfl, by decide, by decide, rcHeard_of (by decide)⟩⟩

theorem test_witness_clearSeatEvents : ∃ f rest s, Admitted .clearSeatEvents f rest s ∧ f.args = [255] :=
  admitted_with .rc [255] up (by decide) rfl

theorem test_witness_seatTimers :
    (∃ s : State, ReleaseHeld s ∧ seatState s 0 = .locked ∧ (s.restraint.seats[0]).verifyElapsed = s.params.verifyTime) ∧
    (∃ s : State, seatState s 0 = .locked ∧ (s.restraint.seats[0]).verifyElapsed + 1 = s.params.verifyTime) ∧
    (∃ s : State, ReleaseHeld s ∧ (seatState s 0).inEvaluation = true ∧ seatState s 0 ≠ .disagree ∧
      (picture s 0).conflict = true ∧ (s.restraint.seats[0]).disagreeElapsed = s.params.disagreementTime) ∧
    (∃ s : State, seatState s 0 = .disagree) ∧
    (∃ s : State, 0 ∈ s.restraint.energised ∧ (s.restraint.seats[0]).pulseElapsed = (s.restraint.seats[0]).pulseTime) ∧
    (∃ s : State, 0 ∈ s.restraint.energised ∧ (s.restraint.seats[0]).pulseElapsed < (s.restraint.seats[0]).pulseTime) :=
  ⟨⟨withRecord 0 { Seat.afterReset with state := .locked, verifyElapsed := 500 } up,
      releaseHeld_of (by decide), by decide⟩,
    ⟨withRecord 0 { Seat.afterReset with state := .locked, verifyElapsed := 499 } up, by decide⟩,
    ⟨withInput 0 false (withRecord 0 { Seat.afterReset with state := .open, disagreeElapsed := 200 } up),
      releaseHeld_of (by decide), by decide⟩,
    ⟨withSeat 0 .disagree up, by decide⟩,
    ⟨withRecord 0 { Seat.afterReset with state := .releasing, pulseElapsed := 2000 } (energised 0 up), by decide⟩,
    ⟨energised 0 up, by decide⟩⟩

/-- The same in LOAD and READY, and a timeout with a seat that waits. -/
theorem test_witness_seatTimersJudged :
    (∃ s : State, ReleaseHeld s ∧ seatState s 0 = .locked ∧ (s.restraint.seats[0]).verifyElapsed = s.params.verifyTime ∧
      s.mc.mode = .load ∧ RcHeard s) ∧
    (∃ s : State, ReleaseHeld s ∧ (seatState s 0).inEvaluation = true ∧ seatState s 0 ≠ .disagree ∧
      (picture s 0).conflict = true ∧ (s.restraint.seats[0]).disagreeElapsed = s.params.disagreementTime ∧
      s.mc.mode = .ready ∧ RcHeard s) ∧
    (∃ s : State, ReleaseHeld s ∧ 0 ∈ s.restraint.energised ∧ s.restraint.queue = [2] ∧
      (s.restraint.seats[0]).pulseElapsed = (s.restraint.seats[0]).pulseTime ∧ s.mc.mode = .load ∧ RcHeard s) :=
  ⟨⟨withRecord 0 { Seat.afterReset with state := .locked, verifyElapsed := 500 } (boarding .load), releaseHeld_of (by decide),
      by decide, by decide, rfl, rcHeard_of (by decide)⟩,
    ⟨withInput 0 false (withRecord 0 { Seat.afterReset with state := .open, disagreeElapsed := 200 } (boarding .ready)),
      releaseHeld_of (by decide), by decide, by decide, by decide, by decide, rfl, rcHeard_of (by decide)⟩,
    ⟨withRecord 0 { Seat.afterReset with state := .releasing, pulseElapsed := 2000 } (releasingThree .load),
      releaseHeld_of (by decide), by decide, by decide, by decide, rfl, rcHeard_of (by decide)⟩⟩

/-- T20 drives the solenoid of seat 1. -/
def wired (s : State) : State := { s with params := { s.params with outputs := s.params.outputs.set 20 (.release 0) } }

def reporting (s : State) : State :=
  { s with terminals := { s.terminals with mismatchDue := s.terminals.mismatchDue.set 20 true } }

theorem test_witness_terminals :
    (wired up).startUp.phase = .complete ∧ (wired up).params.outputs[(20 : Fin 40)] = .release 0 ∧
    up.terminals.changeDue[(2 : Fin 27)] = false ∧ (withInput 2 true up).terminals.changeDue[(2 : Fin 27)] = true ∧
    (∃ s : State, ReleaseHeld s ∧ (2 : Fin 27).val = 3 * (0 : Fin 8).val + (2 : Fin 3).val ∧
      s.terminals.changeDue[(2 : Fin 27)] = true ∧ (seatState s 0).inEvaluation = true) ∧
    (∃ s : State, s.terminals.changeDue[(2 : Fin 27)] = true ∧ s.terminals.filtered[(2 : Fin 27)] = true ∧
      seatState s 0 = .releasing) ∧
    (∃ s : State, s.terminals.changeDue[(25 : Fin 27)] = true ∧ s.terminals.filtered[(25 : Fin 27)] = false ∧
      s.mc.mode ≠ .offline) :=
  ⟨rfl, by decide, by decide, by decide,
    ⟨withInput 2 true (withSeat 0 .closing up), releaseHeld_of (by decide), by decide⟩,
    ⟨withInput 2 true (energised 0 up), by decide⟩,
    ⟨{ running with terminals := { up.terminals with changeDue := up.terminals.changeDue.set 25 true } }, by decide⟩⟩

/-- A seat that opens in each watched mode and in two that are not; one that stays; and a bar that rises, of a seat that drives
its solenoid and of one that waits. -/
theorem test_witness_seatOpens :
    (∀ m ∈ [Mode.run, .halt, .unload, .hold], ∃ s : State, s.mc.mode = m ∧ ReleaseHeld s ∧ RestraintsWatched s ∧
      s.terminals.changeDue[(2 : Fin 27)] = true ∧ seatState s 0 = .verified ∧
      seatState (after (.filteredChange 2) s) 0 = .open) ∧
    (∃ s : State, s.mc.mode = .halt ∧ RestraintsWatched s ∧ s.permit.first ≠ none) ∧
    (∃ s : State, s.mc.mode = .ready ∧ ReleaseHeld s ∧ ¬RestraintsWatched s ∧ RcHeard s ∧
      s.terminals.changeDue[(2 : Fin 27)] = true ∧ seatState s 0 = .verified ∧
      seatState (after (.filteredChange 2) s) 0 = .open) ∧
    (∃ s : State, s.mc.mode = .unload ∧ s.mc.berthReached = true ∧ ¬RestraintsWatched s) ∧
    (∀ i ∈ [(2 : Fin 27), 8], ∃ s : State, ReleaseHeld s ∧ s.mc.mode = .load ∧ RcHeard s ∧ s.terminals.changeDue[i] = true ∧
      s.terminals.filtered[i] = true ∧ seatState s 0 = .releasing ∧ seatState s 2 = .releasing) := by
  refine ⟨fun m hm => ⟨withInput 2 true (withSeat 0 .verified (inMode m running)), rfl, ?_, ?_, ?_⟩,
    ⟨halted, rfl, watched_iff.1 (by decide), by decide⟩,
    ⟨withInput 2 true (withSeat 0 .verified (boarding .ready)), rfl, releaseHeld_of (by decide),
      fun h => absurd (watched_iff.2 h) (by decide), rcHeard_of (by decide), by decide⟩,
    ⟨{ up with mc := { up.mc with mode := .unload, berthReached := true } }, rfl, rfl,
      fun h => absurd (watched_iff.2 h) (by decide)⟩,
    fun i hi => ⟨withInput i true (releasingThree .load), ?_⟩⟩
  · simp only [List.mem_cons, List.not_mem_nil, or_false] at hm
    rcases hm with rfl | rfl | rfl | rfl <;> exact releaseHeld_of (by decide)
  · simp only [List.mem_cons, List.not_mem_nil, or_false] at hm
    rcases hm with rfl | rfl | rfl | rfl <;> exact watched_iff.1 (by decide)
  · simp only [List.mem_cons, List.not_mem_nil, or_false] at hm
    rcases hm with rfl | rfl | rfl | rfl <;> decide
  · simp only [List.mem_cons, List.not_mem_nil, or_false] at hi
    rcases hi with rfl | rfl <;>
      exact ⟨releaseHeld_of (by decide), rfl, rcHeard_of (by decide), by decide, by decide, by decide, by decide⟩

/-- T20 drives the solenoid of seat 1, with its mismatch count at 20. -/
theorem test_witness_mismatch :
    ∃ (s : State) (levels : BitVec 40), s.startUp.phase = .complete ∧ s.params.outputs[(20 : Fin 40)] = .release 0 ∧
      s.terminals.mismatch[(20 : Fin 40)] = 20 ∧ levels.getLsbD 20 ≠ s.restraint.energised.contains 0 ∧
      (after (.terminalSample levels) s).terminals.mismatchDue[(20 : Fin 40)] = true :=
  ⟨{ wired up with terminals := { up.terminals with mismatch := up.terminals.mismatch.set 20 20 } }, 0x100000, rfl, by decide,
    by decide, by decide, by decide⟩

theorem test_witness_outputFaults :
    (∃ s : State, s.terminals.mismatchDue[(20 : Fin 40)] = true ∧ s.params.outputs[(20 : Fin 40)] = .release 0 ∧
      s.mc.mode = .offline ∧ seatState s 0 ≠ .disabled) ∧
    (∃ s : State, s.terminals.mismatchDue[(20 : Fin 40)] = true ∧ s.params.outputs[(20 : Fin 40)] = .release 0 ∧
      s.mc.mode ≠ .offline) ∧
    up.terminals.mismatchDue[(20 : Fin 40)] = false ∧
    (∃ s : State, s.mc.mode ≠ .offline ∧ s.steering.ampWait = 101) ∧
    (∃ s : State, s.mc.mode ≠ .offline ∧ s.steering.ampWait = 100) :=
  ⟨⟨reporting (wired (withSeat 0 .open up)), by decide⟩, ⟨reporting (wired running), by decide⟩, by decide,
    ⟨{ running with steering := { running.steering with ampWait := 101 } }, by decide⟩,
    ⟨{ running with steering := { running.steering with ampWait := 100 } }, by decide⟩⟩

/-- The four tables LOADING and empty, on a route of 30 m. -/
def loading : State :=
  { up with tables := ⟨Table.begun _, 30000, Table.begun _, Table.begun _, Table.begun _⟩ }

theorem test_witness_tableBegin :
    (∃ f rest s, Admitted .tableBegin f rest s ∧ f.args = [1, 0, 0x27, 0x10]) ∧
    (∃ f rest s, Admitted .tableBegin f rest s ∧ f.args = [1, 0x1E, 0x84, 0x81]) ∧
    (∃ f rest s, Admitted .tableBegin f rest s ∧ f.args = [2]) ∧
    (∃ f rest s, Admitted .tableBegin f rest s ∧ f.args = [3]) ∧
    (∃ f rest s, Admitted .tableBegin f rest s ∧ f.args = [4] ∧ s.sound.voices[(5 : Fin 6)] ≠ none) :=
  ⟨admitted_with .rc [1, 0, 0x27, 0x10] up (by decide) rfl, admitted_with .rc [1, 0x1E, 0x84, 0x81] up (by decide) rfl,
    admitted_with .rc [2] up (by decide) rfl, admitted_with .sc [3] up (by decide) rfl,
    admitted_with .sc [4] (withVoice 5 (sounding 1 0) up) (by decide) (by decide)⟩

def g0 : Segment := ⟨0, -10000, 3000, .unload, 63, 3⟩
def m0 : Marker := ⟨1023, 1999999, 2000⟩
def c0 : Cue := ⟨65535, .position 1999999, true, [.notify 255]⟩
def k0 : Clip := ⟨128, 8257535, 1, some 0⟩

theorem test_witness_tableEntry :
    (∃ f rest s, Admitted .tableEntry f rest s ∧ f.args = 1 :: g0.bytes ∧ s.tables.route.status = .loading ∧
      s.tables.route.entries = [] ∧ s.tables.routeLength ≤ 2000000 ∧ g0.inRange s.tables.routeLength = true) ∧
    (∃ f rest s, Admitted .tableEntry f rest s ∧ f.args = 2 :: m0.bytes ∧ s.tables.markers.status = .loading ∧
      s.tables.markers.entries = [] ∧ m0.inRange = true) ∧
    (∃ f rest s, Admitted .tableEntry f rest s ∧ f.args = 3 :: c0.bytes ∧ s.tables.cues.status = .loading ∧
      s.tables.cues.entries = [] ∧ c0.inRange = true) ∧
    (∃ f rest s, Admitted .tableEntry f rest s ∧ f.args = 4 :: k0.bytes ∧ s.tables.clips.status = .loading ∧
      s.tables.clips.entries = [] ∧ k0.inRange = true) ∧
    (∃ f rest s, Admitted .tableEntry f rest s ∧ f.args = [3] ∧ s.tables.cues.status ≠ .loading) ∧
    (∃ f rest s, Admitted .tableEntry f rest s ∧ f.args = [4] ∧ s.tables.clips.status = .loading ∧
      128 ≤ s.tables.clips.entries.length) :=
  ⟨admitted_with .rc (1 :: g0.bytes) loading (by decide) (by decide),
    admitted_with .rc (2 :: m0.bytes) loading (by decide) (by decide),
    admitted_with .sc (3 :: c0.bytes) loading (by decide) (by decide),
    admitted_with .sc (4 :: k0.bytes) loading (by decide) (by decide),
    admitted_with .sc [3] up (by decide) (by decide),
    admitted_with .sc [4] { loading with tables := { loading.tables with clips := ⟨.loading, List.replicate 128 k0, 0⟩ } }
      (by decide) (by decide)⟩

/-- Entries that are refused, each table at the boundary of its check: an equal key, a known identifier, 1536 actions and one
more, bytes that are no entry. -/
def refusing : State :=
  { loading with tables :=
      ⟨⟨.loading, [⟨0, 0, 600, .load, 1, 0⟩], 0⟩, 30000, ⟨.loading, [⟨11, 1000, 300⟩], 0⟩,
        ⟨.loading, [⟨101, .position 6000, false, [.notify 7]⟩], 0⟩, ⟨.loading, [⟨1, 0, 32000, none⟩], 0⟩⟩ }

theorem test_witness_entriesRefused :
    (∃ f rest s, Admitted .tableEntry f rest s ∧ f.args = 1 :: Segment.bytes ⟨1, 0, 0, .none, 0, 0⟩ ∧
      s.tables.route.status = .loading ∧ s.tables.route.entries = []) ∧
    (∃ f rest s, Admitted .tableEntry f rest s ∧ f.args = 1 :: Segment.bytes ⟨0, 0, 0, .none, 0, 0⟩ ∧
      s.tables.route.entries.getLast?.map Segment.start = some 0) ∧
    (∃ f rest s, Admitted .tableEntry f rest s ∧ f.args = 2 :: Marker.bytes ⟨11, 2000, 300⟩ ∧
      s.tables.markers.status = .loading ∧ ∃ o ∈ s.tables.markers.entries, o.id = 11) ∧
    (∃ f rest s, Admitted .tableEntry f rest s ∧ f.args = 2 :: Marker.bytes ⟨12, 1000, 300⟩ ∧
      (∀ o ∈ s.tables.markers.entries, o.id ≠ 12) ∧ s.tables.markers.entries.getLast?.map Marker.position = some 1000) ∧
    (∀ n ∈ [383, 384], ∃ f rest s, Admitted .tableEntry f rest s ∧
      f.args = 3 :: Cue.bytes ⟨9, .scene 1 0, false, [.notify 1, .notify 2, .notify 3, .notify 4]⟩ ∧
      s.tables.cues.status = .loading ∧
      s.tables.cues.entries = List.replicate n ⟨101, .position 6000, false, [.notify 1, .notify 2, .notify 3, .notify 4]⟩) ∧
    (∃ f rest s, Admitted .tableEntry f rest s ∧ f.args = 3 :: Cue.bytes ⟨101, .scene 1 0, false, [.notify 1]⟩ ∧
      ∃ o ∈ s.tables.cues.entries, o.id = 101) ∧
    (∃ f rest s, Admitted .tableEntry f rest s ∧ f.args = 3 :: Cue.bytes ⟨102, .position 6000, false, [.notify 1]⟩ ∧
      (∀ o ∈ s.tables.cues.entries, o.id ≠ 102) ∧
      s.tables.cues.entries.getLast?.map (fun l => l.trigger.below (.position 6000)) = some false) ∧
    (∃ f rest s, Admitted .tableEntry f rest s ∧ f.args = 4 :: Clip.bytes ⟨1, 0, 1, none⟩ ∧
      s.tables.clips.entries.getLast?.map Clip.number = some 1) ∧
    (∀ table ∈ [1, 2], ∃ f rest s, Admitted .tableEntry f rest s ∧ f.args = [table] ∧ s.tables.route.status = .loading ∧
      s.tables.markers.status = .loading ∧ (∀ g : Segment, g.bytes ≠ []) ∧ ∀ m : Marker, m.bytes ≠ []) ∧
    (∀ table ∈ [3, 4], ∃ f rest s, Admitted .tableEntry f rest s ∧ f.args = [table] ∧ s.tables.cues.status = .loading ∧
      s.tables.clips.status = .loading ∧ (∀ c : Cue, c.bytes ≠ []) ∧ ∀ c : Clip, c.bytes ≠ []) := by
  have hg (g : Segment) : g.bytes ≠ [] := fun h => by simpa [Segment.bytes, be3] using congrArg List.length h
  have hm (m : Marker) : m.bytes ≠ [] := fun h => by simpa [Marker.bytes, be2] using congrArg List.length h
  have hc (c : Cue) : c.bytes ≠ [] := fun h => by simpa [Cue.bytes, be2] using congrArg List.length h
  have hk (c : Clip) : c.bytes ≠ [] := fun h => by simpa [Clip.bytes, be3] using congrArg List.length h
  refine ⟨admitted_with .rc (1 :: Segment.bytes ⟨1, 0, 0, .none, 0, 0⟩) loading (by decide) (by decide),
    admitted_with .rc (1 :: Segment.bytes ⟨0, 0, 0, .none, 0, 0⟩) refusing (by decide) (by decide),
    admitted_with .rc (2 :: Marker.bytes ⟨11, 2000, 300⟩) refusing (by decide) (by decide),
    admitted_with .rc (2 :: Marker.bytes ⟨12, 1000, 300⟩) refusing (by decide) (by decide),
    fun n hn => admitted_with .sc (3 :: Cue.bytes ⟨9, .scene 1 0, false, [.notify 1, .notify 2, .notify 3, .notify 4]⟩)
      { refusing with tables := { refusing.tables with cues :=
        ⟨.loading, List.replicate n ⟨101, .position 6000, false, [.notify 1, .notify 2, .notify 3, .notify 4]⟩, 0⟩ } }
      rfl ⟨rfl, rfl, rfl⟩,
    admitted_with .sc (3 :: Cue.bytes ⟨101, .scene 1 0, false, [.notify 1]⟩) refusing (by decide) (by decide),
    admitted_with .sc (3 :: Cue.bytes ⟨102, .position 6000, false, [.notify 1]⟩) refusing (by decide) (by decide),
    admitted_with .sc (4 :: Clip.bytes ⟨1, 0, 1, none⟩) refusing (by decide) (by decide), fun t ht => ?_, fun t ht => ?_⟩
  · simp only [List.mem_cons, List.not_mem_nil, or_false] at ht
    rcases ht with rfl | rfl <;> exact admitted_with .rc [_] refusing rfl ⟨rfl, rfl, rfl, hg, hm⟩
  · simp only [List.mem_cons, List.not_mem_nil, or_false] at ht
    rcases ht with rfl | rfl <;> exact admitted_with .sc [_] refusing rfl ⟨rfl, rfl, rfl, hc, hk⟩

theorem test_witness_tableEnd :
    (∃ f rest s, Admitted .tableEnd f rest s ∧ f.args = [3, 0, 0, 0xFF, 0xFF] ∧ s.tables.cues.status = .loading) ∧
    (∃ f rest s, Admitted .tableEnd f rest s ∧ f.args = [4, 0, 0, 0xFF, 0xFF] ∧ s.tables.clips.status = .loading) ∧
    (∃ f rest s, Admitted .tableEnd f rest s ∧ f.args = [1, 0, 1, 0, 0] ∧ s.tables.route.status = .loading ∧
      s.tables.route.entries.length = 1 ∧ s.tables.route.crc = 0 ∧ s.tables.markers.status = .valid ∧
      (∃ m ∈ s.tables.markers.entries, s.tables.routeLength ≤ m.position)) ∧
    (∃ f rest s, Admitted .tableEnd f rest s ∧ f.args = [1, 0, 0, 0xFF, 0xFF] ∧ s.tables.route.status = .loading ∧
      s.tables.route.entries = []) ∧
    (∃ f rest s, Admitted .tableEnd f rest s ∧ f.args = [2, 0, 1, 0, 0] ∧ s.tables.markers.status = .loading ∧
      s.tables.markers.entries.length = 1 ∧ s.tables.markers.crc = 0 ∧ s.tables.route.status = .valid ∧
      (∃ m ∈ s.tables.markers.entries, s.tables.routeLength = m.position)) :=
  ⟨admitted_with .sc [3, 0, 0, 0xFF, 0xFF] loading (by decide) (by decide),
    admitted_with .sc [4, 0, 0, 0xFF, 0xFF] loading (by decide) (by decide),
    admitted_with .rc [1, 0, 1, 0, 0]
      { loading with tables := { loading.tables with route := ⟨.loading, [g0], 0⟩, markers := ⟨.valid, [m0], 0⟩ } }
      (by decide) (by decide),
    admitted_with .rc [1, 0, 0, 0xFF, 0xFF] loading (by decide) (by decide),
    admitted_with .rc [2, 0, 1, 0, 0]
      { loading with tables := { loading.tables with route := ⟨.valid, [g0], 0⟩, markers := ⟨.loading, [⟨1, 30000, 50⟩], 0⟩ } }
      (by decide) (by decide)⟩

theorem test_witness_entriesInRange :
    g0.inRange 2000000 = true ∧ m0.inRange = true ∧ k0.inRange = true ∧ c0.inRange = true ∧
      (Action.startVoice 3 128 8191 .fade (.grid 10000)).inRange = true ∧ (Action.stopVoice 0 5000).inRange = true ∧
      (Action.setGain 1 8191 10000).inRange = true ∧ (Action.effect 11 (.pulse 10)).inRange = true := by decide

theorem test_witness_storeRequests :
    (∃ f rest s, Admitted .storeWrite f rest s ∧ f.args = [251, 255, 255, 9] ∧ s.store.activity = .idle ∧
      ∀ v : Fin 6, s.sound.voices[v] = none) ∧
    (∃ f rest s, Admitted .storeWrite f rest s ∧ f.args = [252, 0, 0, 9]) ∧
    (∃ f rest s, Admitted .storeWrite f rest s ∧ f.args = [0, 0, 0, 9] ∧ ∃ v : Fin 6, s.sound.voices[v] ≠ none) ∧
    (∃ f rest s, Admitted .storeErase f rest s ∧ f.args = [251, 0, 0] ∧ s.store.activity = .idle ∧
      ∀ v : Fin 6, s.sound.voices[v] = none) ∧
    (∃ f rest s, Admitted .storeErase f rest s ∧ f.args = [252, 0, 0]) ∧
    (∃ f rest s, Admitted .storeErase f rest s ∧ f.args = [0, 0, 0] ∧ s.store.activity ≠ .idle) ∧
    (∃ f rest s, Admitted .storeRead f rest s ∧ f.args = [251, 255, 224, 32] ∧ s.store.activity = .idle ∧
      ∀ v : Fin 6, s.sound.voices[v] = none) ∧
    (∃ f rest s, Admitted .storeRead f rest s ∧ f.args = [0, 0, 0, 33]) ∧
    (∃ f rest s, Admitted .storeRead f rest s ∧ f.args = [0, 0, 0, 1] ∧ s.store.activity ≠ .idle) :=
  ⟨admitted_with .sc [251, 255, 255, 9] up (by decide) (by decide),
    admitted_with .sc [252, 0, 0, 9] up (by decide) rfl,
    admitted_with .sc [0, 0, 0, 9] (withVoice 5 (sounding 1 0) up) (by decide) (by decide),
    admitted_with .sc [251, 0, 0] up (by decide) (by decide), admitted_with .sc [252, 0, 0] up (by decide) rfl,
    admitted_with .sc [0, 0, 0] { up with store := { up.store with activity := .erasing 1 0 } } (by decide) (by decide),
    admitted_with .sc [251, 255, 224, 32] up (by decide) (by decide), admitted_with .sc [0, 0, 0, 33] up (by decide) rfl,
    admitted_with .sc [0, 0, 0, 1] { up with store := { up.store with activity := .erasing 1 0 } } (by decide) (by decide)⟩

theorem test_witness_storeEnds :
    (∃ s : State, MemoryCanonical s ∧ s.store.activity = .writing 16515071 [9] 3) ∧
    (∃ s : State, MemoryCanonical s ∧ s.store.activity = .writing 0 [9] 2) ∧
    (∃ s : State, s.store.activity = .erasing 251 501) ∧ (∃ s : State, s.store.activity = .erasing 0 500) ∧
    up.store.activity = .idle ∧
    (∃ (s : State) (copy : Image), s.store.activity = .saving copy 401) ∧
    (∃ (s : State) (copy : Image), s.store.activity = .saving copy 400) :=
  ⟨⟨{ up with store := { up.store with activity := .writing 16515071 [9] 3 } }, rfl, rfl⟩,
    ⟨{ up with store := { up.store with activity := .writing 0 [9] 2 } }, rfl, rfl⟩,
    ⟨{ up with store := { up.store with activity := .erasing 251 501 } }, rfl⟩,
    ⟨{ up with store := { up.store with activity := .erasing 0 500 } }, rfl⟩, rfl,
    ⟨{ up with store := { up.store with activity := .saving Image.blank 401 } }, _, rfl⟩,
    ⟨{ up with store := { up.store with activity := .saving Image.blank 400 } }, _, rfl⟩⟩

theorem test_witness_save :
    (∃ f rest s, Admitted .save f rest s ∧ f.args = [] ∧ s.store.activity ≠ .idle) ∧
    (∃ f rest s, Admitted .save f rest s ∧ f.args = [] ∧ s.store.activity = .idle ∧ ∀ v : Fin 6, s.sound.voices[v] = none) :=
  ⟨admitted_with .rc [] { up with store := { up.store with activity := .erasing 1 0 } } (by decide) (by decide),
    admitted_with .rc [] up (by decide) (by decide)⟩

theorem test_witness_params :
    (∃ f rest s, Admitted .setParam f rest s ∧ f.args = [0, 0x18, 0, 0, 0x27, 0x11] ∧
      ParamId.ofNumber 0x18 = some .steerLimit ∧ ParamId.steerLimit.range = some (1000, 10000) ∧ s.mc.mode = .offline) ∧
    (∃ f rest s, Admitted .setParam f rest s ∧ f.args = [0, 0x18, 0, 0, 0, 0] ∧ ParamId.steerLimit.anyMode = false ∧
      s.mc.mode ≠ .offline) ∧
    (∃ f rest s, Admitted .setParam f rest s ∧ f.args = [0, 0x60, 0, 0, 0, 200] ∧
      ParamId.ofNumber 0x60 = some .rcTimeout ∧ ParamId.rcTimeout.anyMode = true ∧ s.mc.mode ≠ .offline) ∧
    (∃ f rest s, Admitted .setParam f rest s ∧ f.args = [4, 0, 0, 0, 0, 0] ∧
      ParamId.ofNumber 0x400 = some .filteredLevels ∧ ParamId.filteredLevels.readOnly = true) ∧
    (∃ f rest s, Admitted .setParam f rest s ∧ f.args = [0, 0, 0, 0, 0, 0] ∧ ParamId.ofNumber 0 = none) ∧
    (∃ f rest s, Admitted .getParam f rest s ∧ f.args = [0, 0x60]) ∧
    (∃ f rest s, Admitted .getParam f rest s ∧ f.args = [0, 0]) :=
  ⟨admitted_with .rc [0, 0x18, 0, 0, 0x27, 0x11] up (by decide) (by decide),
    admitted_with .rc [0, 0x18, 0, 0, 0, 0] running (by decide) (by decide),
    admitted_with .rc [0, 0x60, 0, 0, 0, 200] running (by decide) (by decide),
    admitted_with .rc [4, 0, 0, 0, 0, 0] up (by decide) (by decide),
    admitted_with .rc [0, 0, 0, 0, 0, 0] up (by decide) (by decide),
    admitted_with .rc [0, 0x60] up (by decide) rfl, admitted_with .rc [0, 0] up (by decide) rfl⟩

/-- Enumerated parameters at the ends of what they take and one beyond, DENSITY on T31 and T32. -/
theorem test_witness_enumerated :
    (∀ v ∈ [3, 4], ∃ f rest s, Admitted .setParam f rest s ∧ f.args = [0, 0x24, 0, 0, 0, v] ∧
      ParamId.ofNumber 0x24 = some (.edgeSense 0) ∧ s.mc.mode = .run) ∧
    (∀ n ∈ [0x1F, 0x20], ∀ v ∈ [22, 23, 25, 26], ∃ f rest s, Admitted .setParam f rest s ∧ f.args = [1, n, 0, 0, 0, v] ∧
      s.mc.mode = .offline) ∧
    (ParamId.ofNumber 0x11F = some (.output 31) ∧ ParamId.ofNumber 0x120 = some (.output 32) ∧
      (ParamId.output 31).takes 22 ∧ ¬(ParamId.output 31).takes 23 ∧ (ParamId.output 32).takes 25 ∧
      ¬(ParamId.output 32).takes 26) ∧
    (∀ v ∈ [39, 40], ∃ f rest s, Admitted .setParam f rest s ∧ f.args = [2, 0x1A, 0, 0, 0, v] ∧
      ParamId.ofNumber 0x21A = some (.source 26) ∧ s.mc.mode = .offline) ∧
    (∃ f rest s, Admitted .setParam f rest s ∧ f.args = [2, 0, 255, 255, 255, 255] ∧ s.mc.mode = .offline ∧
      ParamId.ofNumber 0x200 = some (.source 0) ∧ beInt [255, 255, 255, 255] = -1 ∧ (ParamId.source 0).takes (-1)) ∧
    (∀ v ∈ [1, 2], ∃ f rest s, Admitted .setParam f rest s ∧ f.args = [3, 0, 0, 0, 0, v] ∧
      ParamId.ofNumber 0x300 = some (.activeLevel 0) ∧ s.mc.mode = .offline) ∧
    (∃ f rest s, Admitted .setParam f rest s ∧ f.args = [3, 0, 0, 0, 0, 1] ∧ s.mc.mode ≠ .offline ∧
      (ParamId.activeLevel 0).anyMode = false) :=
  ⟨fun v _ => admitted_with .rc [0, 0x24, 0, 0, 0, v] running rfl ⟨rfl, rfl, rfl⟩,
    fun n _ v _ => admitted_with .rc [1, n, 0, 0, 0, v] up rfl ⟨rfl, rfl⟩,
    ⟨rfl, rfl, ⟨by decide, .inl (by decide)⟩, fun h => absurd h.2 (by decide), ⟨by decide, .inr (by decide)⟩,
      fun h => absurd h.2 (by decide)⟩,
    fun v _ => admitted_with .rc [2, 0x1A, 0, 0, 0, v] up rfl ⟨rfl, rfl, rfl⟩,
    admitted_with .rc [2, 0, 255, 255, 255, 255] up rfl ⟨rfl, rfl, rfl, by decide, by decide, by decide⟩,
    fun v _ => admitted_with .rc [3, 0, 0, 0, 0, v] up rfl ⟨rfl, rfl, rfl⟩,
    admitted_with .rc [3, 0, 0, 0, 0, 1] running rfl ⟨rfl, by decide, rfl⟩⟩

theorem test_witness_paramModes :
    (∃ f rest s, Admitted .setParam f rest s ∧ f.args = [0, 0x20, 0, 0, 0, 1] ∧ ParamId.ofNumber 0x20 = some .seatMask ∧
      s.mc.mode = .offline ∧ s.restraint.energised ≠ []) ∧
    (∀ v ∈ [0, 1, 255], ∃ f rest s, Admitted .setParam f rest s ∧ f.args = [0, 0x20, 0, 0, 0, v] ∧ s.mc.mode = .offline ∧
      s.restraint.queue = [] ∧ s.restraint.energised = []) ∧
    (∃ f rest s, Admitted .setParam f rest s ∧ f.args = [0, 0x71, 0, 0, 0, 9] ∧
      ParamId.ofNumber 0x71 = some (.dgPrecision 0) ∧ s.mc.mode = .offline ∧ (s.density[(0 : Fin 3)]).running = true) ∧
    (∃ f rest s, Admitted .setParam f rest s ∧ f.args = [0, 0x74, 0, 0, 0, 1] ∧
      ParamId.ofNumber 0x74 = some (.dgDivider 0) ∧ s.mc.mode = .offline ∧ (s.density[(0 : Fin 3)]).running = true) ∧
    (∀ n ∈ [0, 1, 2], ∃ f rest s, Admitted .getParam f rest s ∧ f.args = [4, n]) := by
  let dg : State := { up with density := up.density.set 0 ⟨true, 0, 0, false⟩ }
  exact ⟨admitted_with .rc [0, 0x20, 0, 0, 0, 1] (energised 0 up) rfl ⟨rfl, rfl, rfl, by decide⟩,
    fun v _ => admitted_with .rc [0, 0x20, 0, 0, 0, v] up rfl ⟨rfl, rfl, rfl, rfl⟩,
    admitted_with .rc [0, 0x71, 0, 0, 0, 9] dg rfl ⟨rfl, rfl, rfl, rfl⟩,
    admitted_with .rc [0, 0x74, 0, 0, 0, 1] dg rfl ⟨rfl, rfl, rfl, rfl⟩,
    fun n _ => admitted_with .rc [4, n] up rfl rfl⟩

theorem test_witness_speedLimitAndFaultLog :
    (∃ f rest s, Admitted .setSpeedLimit f rest s ∧ f.args = [0x0B, 0xB9] ∧ s.permit.level = .run ∧
      s.tracker.position = .sync) ∧
    (∃ f rest s, Admitted .setSpeedLimit f rest s ∧ f.args = [0x0B, 0xB8] ∧ s.permit.level = .stop) ∧
    (∃ f rest s, Admitted .setSpeedLimit f rest s ∧ f.args = [0, 0] ∧ s.permit.level = .creep ∧
      s.tracker.position = .unsync) ∧
    (∃ f rest s, Admitted .readFaultLog f rest s ∧ f.args = [15]) ∧
    (∃ f rest s, Admitted .readFaultLog f rest s ∧ f.args = [16]) ∧
    (∃ f rest s, Admitted .setSpeedLimit f rest s ∧ f.args.length ≠ 2) ∧
    (∃ f rest s, Admitted .readFaultLog f rest s ∧ f.args.length ≠ 1) :=
  ⟨admitted_with .rc [0x0B, 0xB9] running (by decide) (by decide), admitted_with .rc [0x0B, 0xB8] up (by decide) (by decide),
    admitted_with .rc [0, 0] { up with permit := { up.permit with level := .creep } } (by decide) (by decide),
    admitted_with .rc [15] up (by decide) rfl, admitted_with .rc [16] up (by decide) rfl,
    admitted_with .rc [0] up (by decide) (by decide), admitted_with .rc [] up (by decide) (by decide)⟩

/-- A route for the ceiling ahead: the small one, with P in its second segment and at its end; and no confirmed position. -/
theorem test_witness_ceilingAhead :
    (∀ p ∈ [60000, 299999], ∃ s : State, s.tracker.p = p ∧ s.tracker.position = .sync ∧ s.tables.route.status = .valid ∧
      s.tables.route.entries.Pairwise (fun g h => g.start < h.start) ∧
      (∃ g more, s.tables.route.entries = g :: more ∧ g.start = 0) ∧
      (∀ g ∈ s.tables.route.entries, g.start < s.tables.routeLength ∧ g.ceiling ≤ 3000) ∧
      s.params.creepCeiling ≤ 3000 ∧ s.tracker.p < 10 * s.tables.routeLength) ∧
    up.tracker.position = .unsync := by
  refine ⟨fun p hp => ⟨{ running with tracker := { running.tracker with p := p } }, ?_⟩, rfl⟩
  simp only [List.mem_cons, List.not_mem_nil, or_false] at hp
  rcases hp with rfl | rfl <;>
    exact ⟨rfl, rfl, rfl, by decide, ⟨_, _, rfl, rfl⟩, by decide, by decide, by decide⟩

/-- Each level of the permit, formed from its terms: EMERGENCY, STOP by the mode and by a seat, CREEP by the position and by an
advance, RUN in RUN and UNLOAD; and a level that changes, to each of them, and one that does not. -/
theorem test_witness_permitLevel :
    (refreshPermit (withInput 25 false running)).permit.level = .emergency ∧
    (refreshPermit { halted with permit := up.permit }).permit.level = .emergency ∧
    (refreshPermit (boarding .ready)).permit.level = .stop ∧
    (refreshPermit (withSeat 0 .locked running)).permit.level = .stop ∧
    (refreshPermit { running with tracker := up.tracker }).permit.level = .creep ∧
    (refreshPermit { running with mc := { running.mc with mode := .unload, advance := some ⟨1, none⟩ } }).permit.level = .creep ∧
    (refreshPermit { running with permit := up.permit }).permit.level = .run ∧
    (refreshPermit (inMode .unload { running with permit := up.permit })).permit.level = .run ∧
    (refreshPermit running).permit.level = running.permit.level ∧ running.startUp.phase = .complete ∧
    State.reset.startUp.phase ≠ .complete := by decide

theorem test_witness_notices :
    (∃ f rest s, Admitted .notices f rest s ∧ f.args = []) ∧ (∃ f rest s, Admitted .notices f rest s ∧ f.args ≠ []) :=
  ⟨admitted_with .sc [] up (by decide) rfl, admitted_with .sc [1] up (by decide) (by decide)⟩

/-- A timed voice of clip 1. -/
def timed (ms : Nat) (position : Nat) : Voice := { sounding 1 position with timing := some ⟨ms, 0, true⟩ }

/-- A timed voice of clip 2, which loops from sample 10. -/
def timedLoop (position : Nat) : Voice :=
  { sounding 2 position with loopPoint := some 10, timing := some ⟨0, 0, true⟩ }

/-- The timed voice of show time 9, still WAITING. -/
def waitsFor9 : Voice := { timed 9 0 with state := .waiting }

theorem test_witness_clock :
    (∃ s : State, s.clock.pending = 1) ∧ (∃ s : State, s.clock.pending = -1) ∧ up.clock.pending = 0 ∧
    up.clock.us < 1000 ∧ up.clock.residue < 1000 ∧ (aged 4999).clock.age = 4999 ∧ (aged 4998).clock.age < 4999 ∧
    (23999 < 24000 ∧ 0 < 10000 ∧ (atTime 4294967295 up).clock.ms < 4294967296) :=
  ⟨⟨{ up with clock := { up.clock with pending := 1 } }, rfl⟩, ⟨{ up with clock := { up.clock with pending := -1 } }, rfl⟩,
    rfl, by decide, by decide, rfl, by decide, by decide⟩

theorem test_witness_sync :
    (∃ f rest s, Admitted .sync f rest s ∧ f.args = [0, 0, 0, 20, 3, 231] ∧ s.sound.voices[(0 : Fin 6)] = none) ∧
    (∃ f rest s, Admitted .sync f rest s ∧ f.args = [0, 0, 0, 20, 3, 232]) ∧
    (∃ f rest s, Admitted .sync f rest s ∧ f.args.length ≠ 6) ∧
    (∃ f rest s, Admitted .sync f rest s ∧ f.args = [0, 0, 0, 20, 3, 231] ∧
      s.sound.voices[(0 : Fin 6)] = some (timed 9 0) ∧ (timed 9 0).timing = some ⟨9, 0, true⟩ ∧
      findClip s (timed 9 0).clip ≠ none) :=
  ⟨admitted_with .sc [0, 0, 0, 20, 3, 231] up (by decide) ⟨rfl, rfl⟩, admitted_with .sc [0, 0, 0, 20, 3, 232] up (by decide) rfl,
    admitted_with .sc [] up (by decide) (by decide),
    admitted_with .sc [0, 0, 0, 20, 3, 231] (withVoice 0 (timed 9 0) (loaded up)) (by decide) ⟨rfl, rfl, rfl, by decide⟩⟩

/-- Expected positions: the clip's last sample, the loop from its first sample on, the end of a clip that does not loop; and the
gaps that are judged, around the loop and not. -/
theorem test_witness_expected :
    ExpectedAt 31 32000 none 0 ∧ ExpectedAt 999969 32000 none 31999 ∧ ExpectedPast 1000000 32000 none ∧
    ExpectedAt 2000000 64000 (some 10) 10 ∧ ExpectedAt 2000032 64000 (some 10) 11 ∧ ((-32 : Int) * 32).tdiv 1000 < 0 ∧
    positionGap 64000 (some 10) 10 63999 = 1 ∧ positionGap 64000 (some 10) 9 63999 = 63990 ∧
    positionGap 32000 none 0 160 = 160 :=
  ⟨⟨_, rfl, by decide, .inl (by decide)⟩, ⟨_, rfl, by decide, .inl (by decide)⟩, ⟨by decide, rfl⟩,
    ⟨_, rfl, by decide, .inr ⟨by decide, 10, rfl, by decide⟩⟩, ⟨_, rfl, by decide, .inr ⟨by decide, 10, rfl, by decide⟩⟩,
    by decide, by decide, by decide, by decide⟩

/-- The check of a timed voice, case by case: WAITING before its time, at it, and past the end of its clip; PLAYING ahead of its
time, within the tolerance and beyond it, around the loop, and past the end; PAUSED. -/
theorem test_witness_voiceChecks :
    waitsFor9.resync (loaded up) = (some { waitsFor9 with timing := some ⟨9, 0, false⟩ }, false) ∧
    waitsFor9.resync (loaded (atTime 9 up)) = (some { timed 9 0 with timing := some ⟨9, 0, false⟩ }, false) ∧
    waitsFor9.resync (loaded (atTime 1009 up)) = (none, false) ∧
    ((timed 9 0).resync (loaded up)).2 = true ∧ ((timed 0 0).resync (loaded (atTime 5 up))).2 = false ∧
    ((timed 0 0).resync (loaded (atTime 51 up))).2 = true ∧
    ((timedLoop 63999).resync (loaded (atTime 2000 up))) = (some { timedLoop 63999 with timing := some ⟨0, 0, false⟩ }, false) ∧
    ((timed 0 0).resync (loaded (atTime 1000 up))) = (none, true) ∧
    ((timed 0 31999).resync (loaded (atTime 1000 up))).2 = false ∧
    ({ timed 9 0 with state := .paused } : Voice).resync (loaded up) = (some { timed 9 0 with state := .paused }, false) := by
  decide

/-- The clips loaded, in RUN. -/
def staged : State := loaded (inMode .run up)

theorem test_witness_voiceStart :
    (∃ f rest s, Admitted .voiceStart f rest s ∧
      (f.args = [BitVec.ofNat 8 (3 : Fin 4).val, 1, 32, 0, BitVec.ofNat 8 Route.both.code,
        BitVec.ofNat 8 HoldBehaviour.fade.code] ++ [0]) ∧ findClip s 1 = some ⟨1, 0, 32000, none⟩ ∧ s.store.activity = .idle) ∧
    (∃ f rest s, Admitted .voiceStart f rest s ∧ f.args = [3, 1, 32, 0, 2, 2] ++ [1, 0, 99] ∧ s.clock.ms < 4294967296) ∧
    (∃ f rest s, Admitted .voiceStart f rest s ∧ f.args = [3, 1, 32, 0, 2, 2] ++ [2, 0, 9, 39, 192, 0, 1] ∧ s.clock.ms = 0) ∧
    (∃ f rest s, Admitted .voiceStart f rest s ∧ f.args = [3, 1, 32, 0, 2, 2] ++ [2, 0, 9, 39, 192, 0, 0] ∧ s.clock.ms = 0) ∧
    (∃ f rest s, Admitted .voiceStart f rest s ∧ f.args = [3, 1, 32, 0, 2, 2] ++ [2, 0, 0, 0, 0, 0, 0] ∧ s.clock.ms = 1000) ∧
    (∃ f rest s, Admitted .voiceStart f rest s ∧ f.args = [3, 2, 32, 0, 2, 2] ++ [2, 0, 0, 0, 0, 0, 0] ∧ s.clock.ms = 2000 ∧
      findClip s 2 = some ⟨2, 100, 64000, some 10⟩) ∧
    (∃ f rest s, Admitted .voiceStart f rest s ∧ f.args = [4, 1, 0, 0, 2, 2, 0]) ∧
    (∃ f rest s, Admitted .voiceStart f rest s ∧ f.args = [3, 3, 0, 0, 2, 2, 0] ∧ findClip s 3 = none) ∧
    (∃ f rest s, Admitted .voiceStart f rest s ∧ f.args = [3, 1, 0, 0, 2, 2, 0] ∧ findClip s 1 ≠ none ∧
      s.store.activity ≠ .idle) :=
  ⟨admitted_with .sc [3, 1, 32, 0, 2, 2, 0] staged (by decide) (by decide),
    admitted_with .sc [3, 1, 32, 0, 2, 2, 1, 0, 99] staged (by decide) (by decide),
    admitted_with .sc [3, 1, 32, 0, 2, 2, 2, 0, 9, 39, 192, 0, 1] staged (by decide) (by decide),
    admitted_with .sc [3, 1, 32, 0, 2, 2, 2, 0, 9, 39, 192, 0, 0] staged (by decide) (by decide),
    admitted_with .sc [3, 1, 32, 0, 2, 2, 2, 0, 0, 0, 0, 0, 0] (atTime 1000 staged) (by decide) (by decide),
    admitted_with .sc [3, 2, 32, 0, 2, 2, 2, 0, 0, 0, 0, 0, 0] (atTime 2000 staged) (by decide) (by decide),
    admitted_with .sc [4, 1, 0, 0, 2, 2, 0] staged (by decide) rfl,
    admitted_with .sc [3, 3, 0, 0, 2, 2, 0] staged (by decide) (by decide),
    admitted_with .sc [3, 1, 0, 0, 2, 2, 0] { staged with store := { staged.store with activity := .erasing 0 0 } }
      (by decide) (by decide)⟩

theorem test_witness_voiceStopAndGain :
    (∃ f rest s, Admitted .voiceStop f rest s ∧ f.args = [BitVec.ofNat 8 (3 : Fin 4).val, 0, 0] ∧
      ∃ x, s.sound.voices[(3 : Nat)] = some x ∧ x.state = .playing) ∧
    (∃ f rest s, Admitted .voiceStop f rest s ∧ f.args = [3, 0x13, 0x89] ∧
      ∃ x, s.sound.voices[(3 : Nat)] = some x ∧ x.state = .stopping) ∧
    (∃ f rest s, Admitted .voiceStop f rest s ∧ f.args = [3, 0, 1] ∧ s.sound.voices[(3 : Nat)] = none) ∧
    (∃ f rest s, Admitted .voiceStop f rest s ∧ f.args = [4, 0, 0]) ∧
    (∃ f rest s, Admitted .voiceGain f rest s ∧ f.args = [3, 0x20, 0, 0x27, 0x11] ∧
      ∃ x, s.sound.voices[(3 : Nat)] = some x ∧ x.state ≠ .stopping) ∧
    (∃ f rest s, Admitted .voiceGain f rest s ∧ f.args = [3, 0, 0, 0, 0] ∧
      ∃ x, s.sound.voices[(3 : Nat)] = some x ∧ x.state = .stopping) ∧
    (∃ f rest s, Admitted .voiceGain f rest s ∧ f.args = [4, 0, 0, 0, 0]) :=
  ⟨admitted_with .sc [3, 0, 0] (withVoice 3 (sounding 1 0) up) (by decide) ⟨rfl, _, rfl, rfl⟩,
    admitted_with .sc [3, 0x13, 0x89] (withVoice 3 { sounding 1 0 with state := .stopping } up) (by decide) ⟨rfl, _, rfl, rfl⟩,
    admitted_with .sc [3, 0, 1] up (by decide) (by decide), admitted_with .sc [4, 0, 0] up (by decide) rfl,
    admitted_with .sc [3, 0x20, 0, 0x27, 0x11] (withVoice 3 (sounding 1 0) up) (by decide) ⟨rfl, _, rfl, by decide⟩,
    admitted_with .sc [3, 0, 0, 0, 0] (withVoice 3 { sounding 1 0 with state := .stopping } up) (by decide) ⟨rfl, _, rfl, rfl⟩,
    admitted_with .sc [4, 0, 0, 0, 0] up (by decide) rfl⟩

theorem test_witness_announce :
    (∃ f rest s, Admitted .announce f rest s ∧ f.args = [0, 16, 0] ∧ s.sound.voices[(5 : Nat)] = none) ∧
    (∃ f rest s, Admitted .announce f rest s ∧ f.args = [0, 16, 0] ∧ s.sound.voices[(5 : Nat)] ≠ none) ∧
    (∃ f rest s, Admitted .announce f rest s ∧ f.args = [129, 16, 0] ∧ findClip s 129 = none) ∧
    (∃ f rest s, Admitted .announce f rest s ∧ f.args = [1, 32, 0] ∧ findClip s 1 = some ⟨1, 0, 32000, none⟩ ∧
      s.store.activity ≠ .idle) ∧
    (∃ f rest s, Admitted .announce f rest s ∧ f.args = [1, 32, 0] ∧ findClip s 1 = some ⟨1, 0, 32000, none⟩ ∧
      s.store.activity = .idle ∧ s.sound.voices[(5 : Nat)] = none) ∧
    (∃ f rest s, Admitted .announce f rest s ∧ f.args = [1, 32, 0] ∧ findClip s 1 = some ⟨1, 0, 32000, none⟩ ∧
      s.store.activity = .idle ∧ s.sound.voices[(5 : Nat)] ≠ none) ∧
    (∃ f rest s, Admitted .announce f rest s ∧ f.args.length ≠ 3) :=
  ⟨admitted_with .rc [0, 16, 0] up (by decide) (by decide),
    admitted_with .rc [0, 16, 0] (withVoice 5 (sounding 1 0) up) (by decide) (by decide),
    admitted_with .rc [129, 16, 0] staged (by decide) (by decide),
    admitted_with .rc [1, 32, 0] { staged with store := { staged.store with activity := .erasing 0 0 } } (by decide) (by decide),
    admitted_with .rc [1, 32, 0] staged (by decide) (by decide),
    admitted_with .rc [1, 32, 0] (withVoice 5 (sounding 2 0) staged) (by decide) (by decide),
    admitted_with .rc [1] up (by decide) (by decide)⟩

theorem test_witness_volumes :
    (∃ f rest s, Admitted .masterVolume f rest s ∧ f.args = []) ∧
    (∃ f rest s, Admitted .masterVolume f rest s ∧ f.args = [2, 16, 1] ∧ (2 : Byte).toNat ≤ 2) ∧
    (∃ f rest s, Admitted .masterVolume f rest s ∧ f.args = [3, 16, 0] ∧ 2 < (3 : Byte).toNat) ∧
    (∃ f rest s, Admitted .masterVolume f rest s ∧ f.args.length ≠ 0 ∧ f.args.length ≠ 3) ∧
    (∃ snd : Sound, snd.duckLevel = 4096) :=
  ⟨admitted_with .sc [] up (by decide) rfl, admitted_with .sc [2, 16, 1] up (by decide) (by decide),
    admitted_with .sc [3, 16, 0] up (by decide) (by decide), admitted_with .sc [1] up (by decide) (by decide),
    ⟨up.sound, rfl⟩⟩

/-- A voice that waits for show time 0. -/
def waiting (loop : Option Nat) : Voice :=
  { sounding 1 0 with state := .waiting, loopPoint := loop, timing := some ⟨0, 0, true⟩ }

theorem test_witness_voiceRows :
    (∃ (s : State) (v : Voice) (tm : Timing), s.sound.voices[(0 : Fin 6)] = some v ∧ v.timing = some tm ∧
      v.state = .waiting ∧ findClip s v.clip = some ⟨1, 0, 32000, none⟩ ∧ s.clock.ms = tm.ms) ∧
    (∃ (s : State) (v : Voice) (tm : Timing), s.sound.voices[(0 : Fin 6)] = some v ∧ v.timing = some tm ∧
      v.state = .waiting ∧ findClip s v.clip = some ⟨1, 0, 32000, none⟩ ∧ s.clock.ms = tm.ms + 1000 ∧ v.loopPoint = none) ∧
    (∃ (s : State) (v : Voice) (tm : Timing), s.sound.voices[(0 : Fin 6)] = some v ∧ v.timing = some tm ∧
      v.state = .waiting ∧ findClip s v.clip = some ⟨1, 0, 32000, none⟩ ∧ s.clock.ms = tm.ms + 1000 ∧
      v.loopPoint = some 16000) ∧
    (∃ (s : State) (v : Voice), s.sound.voices[(0 : Fin 6)] = some v ∧ v.state ≠ .waiting ∧ v.ramp = 0) ∧
    (∃ (s : State) (v : Voice), s.sound.voices[(0 : Fin 6)] = some v ∧ v.ramp = 1 ∧ s.sound.duckRamp = 1) ∧
    (∃ (s : State) (v : Voice), s.sound.voices[(0 : Fin 6)] = some v ∧ v.ramp = 2 ∧ s.sound.duckRamp = 2) ∧
    (∃ (s : State) (v : Voice), s.sound.voices[(4 : Fin 6)] = some v ∧ v.state = .stopping ∧ v.ramp = 0) :=
  ⟨⟨withVoice 0 (waiting none) staged, _, _, rfl, rfl, rfl, rfl, rfl⟩,
    ⟨withVoice 0 (waiting none) (atTime 1000 staged), _, _, rfl, rfl, rfl, rfl, rfl, rfl⟩,
    ⟨withVoice 0 (waiting (some 16000)) (atTime 1000 staged), _, _, rfl, rfl, rfl, rfl, rfl, rfl⟩,
    ⟨withVoice 0 (sounding 1 0) up, _, rfl, by decide, rfl⟩,
    ⟨{ withVoice 0 { sounding 1 0 with ramp := 1 } up with
        sound := { (withVoice 0 { sounding 1 0 with ramp := 1 } up).sound with duckRamp := 1 } }, _, rfl, rfl, rfl⟩,
    ⟨{ withVoice 0 { sounding 1 0 with ramp := 2 } up with
        sound := { (withVoice 0 { sounding 1 0 with ramp := 2 } up).sound with duckRamp := 2 } }, _, rfl, rfl, rfl⟩,
    ⟨withVoice 4 { sounding 1 0 with state := .stopping } up, _, rfl, rfl, rfl⟩⟩

theorem test_witness_fades :
    (∃ (s : State) (v : Voice), s.sound.voices[(0 : Fin 6)] = some v ∧ v.state = .stopping ∧ v.ramp = 1 ∧
      (after .gainRampTick s).sound.voices[(0 : Fin 6)] = none ∧ (after (.fadeEnd 0) s).sound.voices[(0 : Fin 6)] = none) ∧
    (∃ (s : State) (v : Voice), s.sound.voices[(0 : Fin 6)] = some v ∧ v.state = .stopping ∧ v.ramp = 2 ∧
      (after (.fadeEnd 0) s).sound.voices[(0 : Fin 6)] = some v) :=
  ⟨⟨withVoice 0 { sounding 1 0 with state := .stopping, ramp := 1 } up, _, rfl, rfl, rfl, by decide, by decide⟩,
    ⟨withVoice 0 { sounding 1 0 with state := .stopping, ramp := 2 } up, _, rfl, rfl, rfl, by decide⟩⟩

theorem test_witness_samples :
    (∃ (s : State) (v : Voice) (c : Clip), s.sound.voices[(0 : Fin 6)] = some v ∧ v.state = .playing ∧
      sampleIndex s v < 8388608 ∧ findClip s v.clip = some c ∧ v.position + 1 < c.length) ∧
    (∃ (s : State) (v : Voice) (c : Clip), s.sound.voices[(0 : Fin 6)] = some v ∧ v.state = .playing ∧
      sampleIndex s v < 8388608 ∧ findClip s v.clip = some c ∧ c.length = v.position + 1 ∧ v.loopPoint = none) ∧
    (∃ (s : State) (v : Voice), s.sound.voices[(0 : Fin 6)] = some v ∧ v.state = .playing ∧ 8388608 ≤ sampleIndex s v) :=
  ⟨⟨withVoice 0 (sounding 1 0) staged, _, _, rfl, rfl, by decide, rfl, by decide⟩,
    ⟨withVoice 0 (sounding 1 31999) staged, _, _, rfl, rfl, by decide, rfl, by decide, rfl⟩,
    ⟨withVoice 0 (sounding 1 8388608) staged, _, rfl, rfl, by decide⟩⟩

/-- V5 at the last sample of its clip. -/
theorem test_witness_announcementEnds :
    ∃ (s : State) (v : Voice) (c : Clip), s.sound.voices[(5 : Fin 6)] = some v ∧ v.state = .playing ∧
      findClip s v.clip = some c ∧ c.length = v.position + 1 ∧ v.loopPoint = none ∧
      (after .sampleClock s).sound.voices[(5 : Fin 6)] = none :=
  ⟨withVoice 5 (sounding 1 31999) staged, _, _, rfl, rfl, rfl, rfl, rfl, by decide⟩

theorem test_witness_generators :
    (∃ s : State, (s.density[(0 : Fin 3)]).running = true) ∧ (up.density[(0 : Fin 3)]).running = false ∧
    (∃ g : Density, g.code = 65535 ∧ g.accumulator < 2 ^ 9) :=
  ⟨⟨{ up with density := up.density.set 0 ⟨true, 0, 0, false⟩ }, by decide⟩, by decide, ⟨⟨true, 511, 65535, false⟩, by decide⟩⟩

/-- The body of a drive record. -/
def body (cycle flags : Byte) (marker : Byte) : List Byte := [cycle, flags, 0, 100, 0, 5, 0, 125, 0, marker, 0]

theorem test_witness_exchanges :
    (exchanging up).dli.outgoing ≠ none ∧ up.dli.outgoing = none ∧ (exchanging State.reset).startUp.phase ≠ .complete ∧
    (exchanging up).startUp.phase = .complete ∧
    (∃ r, DcRecord.parse (body 0 1 0 ++ [crc8 (body 0 1 0)]) = some r ∧ r.marker = 0 ∧ r.speed = 5 ∧ r.brake = true) ∧
    (∃ r, DcRecord.parse (body 0 2 11 ++ [crc8 (body 0 2 11)]) = some r ∧ r.marker = 11 ∧ r.brake = false ∧ r.dcFault = true) ∧
    (∃ (s : State) (last : DcRecord), s.dli.outgoing ≠ none ∧ s.dli.lastAccepted = some last ∧ last.cycle = 0) ∧
    (running.tables.route.status = .valid ∧ up.tables.route.status ≠ .valid ∧ running.mc.mode ≠ .offline ∧
      running.permit.reportFault = false) ∧
    (∃ s : State, s.tables.route.status = .valid ∧ s.tracker.position = .unsync ∧ s.tables.markers.status = .valid ∧
      ∃ m ∈ s.tables.markers.entries, 11 = m.id ∧ m.id ≠ 0 ∧ ∀ o ∈ s.tables.markers.entries, o.id = m.id → o = m) ∧
    up.dli.lastAccepted = none :=
  ⟨by decide, rfl, by decide, by decide, ⟨_, rfl, by decide⟩, ⟨_, rfl, by decide⟩,
    ⟨exchanging (after (.driveExchange 96 (body 0 1 0 ++ [crc8 (body 0 1 0)])) (exchanging up)), _, by decide, rfl, by decide⟩,
    by decide, ⟨loaded up, by decide⟩, rfl⟩

/-- An exchange that began before a restart, and one that began after it. -/
theorem test_witness_heldOver :
    (∃ s : State, s.dli.outgoing ≠ none ∧ s.dli.heldOver = true ∧ s.startUp.phase = .complete) ∧
    (∃ (s : State) (out : DriveRecord), s.dli.outgoing = some out ∧ s.dli.heldOver = false ∧ s.startUp.phase = .complete ∧
      s.dli.lastAccepted = none) ∧
    (∃ f rest s, Admitted .restart f rest s ∧ f.args = [] ∧ s.store.activity = .idle ∧ s.dli.outgoing ≠ none) := by
  let s : State := exchanging up
  exact ⟨⟨{ s with dli := { s.dli with heldOver := true } }, by decide, rfl, rfl⟩, ⟨s, _, rfl, rfl, rfl, rfl⟩,
    admitted_with .rc [] (withPreface .restart 0 s) (by decide) (by decide)⟩

/-- d one step beyond the window, and at it. -/
theorem test_witness_captures :
    (10 * (300 : Int) < |shortest 300000 (10 * (8000 : Int) - (76999 : Nat))| ∧ running.mc.mode ≠ .offline) ∧
    |shortest 300000 (10 * (8000 : Int) - (77000 : Nat))| ≤ 10 * (300 : Int) := by decide

/-- SYNC in RUN on 30 m with five markers, the second expected. -/
def tracking (p misses : Nat) : State :=
  { running with
    tables := { running.tables with markers :=
      ⟨.valid, [⟨11, 1000, 300⟩, ⟨12, 8000, 300⟩, ⟨13, 12000, 300⟩, ⟨14, 18000, 300⟩, ⟨15, 24000, 300⟩], 0⟩ }
    tracker := { running.tracker with p := p, highWater := p, misses := misses } }

/-- Every place of a read against the expected marker, with a miss before it and without. -/
theorem test_witness_placeRead :
    ∀ misses ∈ [0, 1], ∀ i ∈ [1, 2, 3, 4, 0], ∃ (s : State) (entries : List Marker) (e k : Nat) (m skipped next : Marker),
      s.tables.markers = ⟨.valid, entries, s.tables.markers.crc⟩ ∧ s.tracker.position = .sync ∧
      s.tracker.expected = some e ∧ s.tracker.misses = misses ∧ entries[e]? = some skipped ∧
      entries[(e + 1) % entries.length]? = some next ∧ entries[i]? = some m ∧ k = (i + entries.length - e) % entries.length ∧
      k = [4, 0, 1, 2, 3].getD i 0 := by
  intro misses _ i hi
  simp only [List.mem_cons, List.not_mem_nil, or_false] at hi
  rcases hi with rfl | rfl | rfl | rfl | rfl <;>
    exact ⟨tracking 60000 misses, _, _, _, _, _, _, rfl, rfl, rfl, rfl, rfl, rfl, rfl, rfl, rfl⟩

theorem test_witness_markerRead :
    (∃ (s : State) (entries : List Marker), s.tables.markers = ⟨.valid, entries, s.tables.markers.crc⟩ ∧
      ∀ o ∈ entries, o.id ≠ 1023) ∧
    (∀ position ∈ [PositionState.sync, .unsync], ∃ (s : State) (entries : List Marker) (m : Marker),
      s.tables.markers = ⟨.valid, entries, s.tables.markers.crc⟩ ∧ entries[(4 : Nat)]? = some m ∧ m.id = 15 ∧
      (∀ j o, entries[j]? = some o → o.id = 15 → j = 4) ∧ s.tracker.position = position ∧ s.tables.route.status = .valid) :=
  ⟨⟨tracking 0 0, _, rfl, by decide⟩, fun position _ =>
    ⟨{ tracking 0 0 with tracker := { running.tracker with position := position } }, _, _, rfl, rfl, rfl, by
      intro j o h hid
      match j, h with
      | 0, h | 1, h | 2, h | 3, h => obtain rfl := Option.some.inj h; exact absurd hid (by decide)
      | 4, _ => rfl
      | n + 5, h => exact absurd h (by simp), rfl, rfl⟩⟩

/-- P at the end of the expected marker's window, one beyond it, and beyond the window of the marker after it. -/
theorem test_witness_overdue :
    ∀ misses ∈ [0, 1], ∀ p ∈ [83000, 83001, 123001], ∃ (s : State) (entries : List Marker) (m next : Marker),
      s.tables.markers = ⟨.valid, entries, s.tables.markers.crc⟩ ∧ s.tracker.position = .sync ∧
      s.tracker.expected = some 1 ∧ entries[(1 : Nat)]? = some m ∧ entries[(1 + 1) % entries.length]? = some next ∧
      s.tracker.misses = misses ∧
      (shortest (10 * s.tables.routeLength) ((s.tracker.p : Int) - 10 * m.position) ≤ 10 * (m.window : Int) ↔ p = 83000) ∧
      (10 * (next.window : Int) < shortest (10 * s.tables.routeLength) ((s.tracker.p : Int) - 10 * next.position) ↔
        p = 123001) := by
  intro misses hm p hp
  refine ⟨tracking p misses, _, _, _, rfl, rfl, rfl, rfl, rfl, rfl, ?_⟩
  simp only [List.mem_cons, List.not_mem_nil, or_false] at hm hp
  rcases hm with rfl | rfl <;> rcases hp with rfl | rfl | rfl <;> decide

/-- H ahead of P by the rollback limit, one more, and behind it. -/
theorem test_witness_rollback :
    (∀ m ∈ [Mode.run, .unload, .hold], ∀ h ∈ [60000, 60500, (60501 : Nat)], ∃ s : State, s.mc.mode = m ∧
      shortest (10 * s.tables.routeLength) ((s.tracker.highWater : Int) - s.tracker.p) = (h : Nat) - 60000 ∧
      10 * (s.params.rollbackLimit : Int) = 500) ∧
    (∃ s : State, shortest (10 * s.tables.routeLength) ((s.tracker.highWater : Int) - s.tracker.p) = -1) := by
  let at' (m : Mode) (h : Nat) : State :=
    { tracking 60000 0 with
      params := { up.params with rollbackLimit := 50 }, mc := { running.mc with mode := m }
      tracker := { running.tracker with highWater := h } }
  refine ⟨fun m hm h hh => ⟨at' m h, ?_⟩, ⟨at' .run 59999, by decide⟩⟩
  simp only [List.mem_cons, List.not_mem_nil, or_false] at hm hh
  rcases hm with rfl | rfl | rfl <;> rcases hh with rfl | rfl | rfl <;> decide

/-- A distance that takes P to the end of the route, to 0 and below 0 in RUN. -/
theorem test_witness_integrate :
    (∃ (s : State) (sum : Int) (p : Nat), sum = s.tracker.p + 3000 ∧ (p : Int) = sum % (10 * s.tables.routeLength : Nat) ∧
      10 * (s.tables.routeLength : Int) = sum) ∧
    (∃ (s : State) (sum : Int) (p : Nat), sum = s.tracker.p + -3000 ∧ (p : Int) = sum % (10 * s.tables.routeLength : Nat) ∧
      0 = sum ∧ sum < 10 * s.tables.routeLength) ∧
    (∃ (s : State) (sum : Int) (p : Nat), sum = s.tracker.p + -3000 ∧ (p : Int) = sum % (10 * s.tables.routeLength : Nat) ∧
      sum = -1 ∧ s.mc.mode = .run ∧ s.tracker.position = .sync) ∧
    (running.tables.route.status = .valid ∧ ∃ s : State, s.tracker.position = .sync ∧
      (integrate (-3000) (advanceTravel (-3000) s)).tracker.position = .unsync) ∧
    (∃ s : State, s.tracker.position = .sync ∧ (integrate 100 (advanceTravel 100 s)).tracker.position = .sync) :=
  ⟨⟨tracking 297000 0, 300000, 0, rfl, rfl, rfl⟩, ⟨tracking 3000 0, 0, 0, rfl, rfl, rfl, by decide⟩,
    ⟨tracking 2999 0, -1, 299999, rfl, rfl, rfl, rfl, rfl⟩, ⟨rfl, tracking 2999 0, rfl, by decide⟩,
    ⟨tracking 60000 0, rfl, by decide⟩⟩

theorem test_witness_steering :
    (running.steering.state = .tracking ∧ running.tracker.position = .sync ∧
      currentSegment running = some ⟨5000, 1500, 1500, .none, 2, 2⟩) ∧
    (∃ s : State, s.steering.state = .tracking ∧ s.tracker.position = .unsync ∧ s.steering.firstPending = true) ∧
    up.steering.state ≠ .tracking :=
  ⟨by decide, ⟨{ up with steering := { up.steering with state := .tracking } }, by decide⟩, by decide⟩

/-- TRACKING with the guide absent: the guide-loss distance at its limit and one beyond it; and with the demand beyond the steer
limit: the saturation count at its limit and one beyond it; and neither. -/
theorem test_witness_steeringFaults :
    (∀ lost ∈ [4999, 5000], ∃ s : State, s.steering.state = .tracking ∧ s.mc.mode ≠ .offline ∧
      s.steering.firstPending = false ∧ s.steering.guideLoss ≤ s.params.guideLossLimit * 10 ∧
      (s.params.guideLossLimit * 10 < (steerExchange 2001 1 s).steering.guideLoss ↔ lost = 5000)) ∧
    (∃ s : State, s.steering.state = .tracking ∧ s.mc.mode ≠ .offline ∧ s.steering.firstPending = false ∧
      s.steering.saturation = s.params.saturationLimit ∧ s.steering.guideLoss ≤ s.params.guideLossLimit * 10 ∧
      s.params.saturationLimit < (steerExchange 2000 100 s).steering.saturation ∧
      (steerExchange 2000 100 s).steering.guideLoss ≤ s.params.guideLossLimit * 10) ∧
    (∃ s : State, s.steering.state = .tracking ∧ ¬s.params.guideLossLimit * 10 < (steerExchange 0 1 s).steering.guideLoss ∧
      ¬s.params.saturationLimit < (steerExchange 0 1 s).steering.saturation) := by
  let s (lost count : Nat) : State :=
    { running with
      params := { up.params with guideLossLimit := 500, kp := Vector.replicate 4 8192, steerLimit := 1000, saturationLimit := 3 }
      steering := { running.steering with guideLoss := lost, saturation := count } }
  refine ⟨fun lost hl => ⟨s lost 0, ?_⟩, ⟨s 0 3, by decide⟩, ⟨s 0 0, by decide⟩⟩
  simp only [List.mem_cons, List.not_mem_nil, or_false] at hl
  rcases hl with rfl | rfl <;> decide

theorem test_witness_supervision :
    (∃ s : State, s.permit.stationary = false ∧ s.permit.standstill = some 0 ∧ 0 + 500 = s.localMs ∧ s.mc.mode = .unload ∧
      s.mc.advance = none ∧ atStopPoint s = true) ∧
    (∃ s : State, s.permit.standstill = some 0 ∧ s.localMs = 499) ∧
    (∃ s : State, s.dli.live = true ∧ s.dli.driveTimeout + 1 = s.dli.silence ∧ s.mc.mode ≠ .offline) ∧
    (∃ s : State, s.dli.live = true ∧ s.dli.driveTimeout + 1 = s.dli.silence ∧ s.mc.mode = .offline) ∧
    (∃ s : State, s.dli.silence = s.dli.driveTimeout) ∧
    (∃ s : State, s.mc.mode ≠ .offline ∧ s.wli.rcTimeout + 1 = s.wli.rcSilence ∧ s.wli.rcReported = false) ∧
    (∃ s : State, s.wli.rcSilence = s.wli.rcTimeout) :=
  ⟨⟨{ loaded (inMode .unload up) with
        localMs := 500, permit := { up.permit with standstill := some 0 }
        tracker := { up.tracker with segment := some 2 } }, by decide⟩,
    ⟨{ up with localMs := 499, permit := { up.permit with standstill := some 0 } }, rfl, rfl⟩,
    ⟨{ running with dli := { running.dli with silence := 51 } }, by decide⟩,
    ⟨{ up with dli := { up.dli with silence := 51, live := true } }, by decide⟩,
    ⟨{ up with dli := { up.dli with silence := 50 } }, rfl⟩,
    ⟨{ running with wli := { running.wli with rcSilence := 501 } }, by decide⟩,
    ⟨{ up with wli := { up.wli with rcSilence := 500 } }, rfl⟩⟩

/-- A vehicle with a release in progress, in each mode that lets one run. -/
def releasing (m : Mode) : State :=
  let s := loaded (releasingThree m)
  { s with mc := { s.mc with berthed := m == .unload, berthReached := m == .unload || m == .hold
                             heldFrom := if m = .hold then .unload else .none } }

/-- GO_ONLINE, the first movement and DRIVE_TIMEOUT end a release; GO_OFFLINE, HOLD, STOP_NOW and a standstill report do not, and
DRIVE_TIMEOUT in OFFLINE does not. -/
theorem test_releaseEnds :
    (asked .goOnline .rc [] (releasing .offline)).restraint.energised = [] ∧
    (asked .goOffline .rc [] (releasing .load)).restraint = (releasing .load).restraint ∧
    (asked .hold .rc [] (releasing .unload)).restraint = (releasing .unload).restraint ∧
    (asked .stopNow .rc [] (releasing .load)).restraint = (releasing .load).restraint ∧
    (after (.driveExchange 96 (body 0 2 0 ++ [crc8 (body 0 2 0)])) (exchanging (releasing .load))).restraint.queue = [] ∧
    (after (.driveExchange 96 (body 0 1 0 ++ [crc8 (body 0 1 0)])) (exchanging (releasing .load))).restraint =
      (releasing .load).restraint := by decide

theorem test_witness_releaseInProgress :
    (∀ m ∈ [Mode.offline, .load, .halt, .unload, .hold], ReleaseHeld (releasing m) ∧ BerthHeld (releasing m) ∧
      (releasing m).restraint.queue ≠ [] ∧ (releasing m).permit.stationary = true ∧ (releasing m).mc.mode = m) ∧
    (∃ f rest s, Admitted .goOnline f rest s ∧ f.args = [] ∧ s.tables.route.status = .valid ∧
      s.tables.markers.status = .valid ∧ s.tables.cues.status = .valid ∧ s.tables.clips.status = .valid ∧
      s.store.activity = .idle ∧ s.restraint.energised ≠ []) ∧
    (∃ f rest s, Admitted .goOffline f rest s ∧ f.args = [] ∧ s.mc.mode = .load ∧ s.permit.stationary = true ∧
      s.restraint.energised ≠ []) ∧
    (∃ f rest s, Admitted .hold f rest s ∧ f.args = [] ∧ s.mc.mode = .unload ∧ s.restraint.energised ≠ [] ∧
      ReleaseHeld s ∧ BerthHeld s) ∧
    (∃ f rest s, Admitted .stopNow f rest s ∧ f.args = [] ∧ s.mc.mode = .load ∧ s.restraint.energised ≠ [] ∧
      ReleaseHeld s ∧ BerthHeld s) ∧
    (∃ f rest s, Admitted .stopNow f rest s ∧ f.args = [] ∧ s.mc.mode = .load ∧ s.permit.stationary = false ∧
      s.restraint.energised ≠ []) ∧
    (∀ m ∈ [Mode.offline, .load], ∃ s : State, s.dli.live = true ∧ s.dli.driveTimeout + 1 = s.dli.silence ∧ s.mc.mode = m ∧
      s.permit.stationary = true ∧ s.restraint.queue ≠ [] ∧ ReleaseHeld s) ∧
    (¬ReleaseAllowed (inMode .run (releasing .load)) ∧ ReleaseAllowed (releasing .load) ∧
      (exchanging (releasing .load)).dli.outgoing ≠ none ∧ ReleaseHeld (exchanging (releasing .load)) ∧
      BerthHeld (exchanging (releasing .load))) := by
  have kept (m : Mode) (hm : m ∈ [Mode.offline, .load, .halt, .unload, .hold]) :
      ReleaseHeld (releasing m) ∧ BerthHeld (releasing m) ∧ (releasing m).restraint.queue ≠ [] ∧
        (releasing m).permit.stationary = true ∧ (releasing m).mc.mode = m := by
    simp only [List.mem_cons, List.not_mem_nil, or_false] at hm
    rcases hm with rfl | rfl | rfl | rfl | rfl <;>
      exact ⟨releaseHeld_of (by decide), ⟨by decide, by decide⟩, by decide, rfl, rfl⟩
  refine ⟨kept, admitted_with .rc [] (releasing .offline) (by decide) (by decide),
    admitted_with .rc [] (releasing .load) (by decide) (by decide),
    admitted_with .rc [] (releasing .unload) (by decide)
      ⟨rfl, rfl, by decide, releaseHeld_of (by decide), ⟨by decide, by decide⟩⟩,
    admitted_with .rc [] (releasing .load) (by decide)
      ⟨rfl, rfl, by decide, releaseHeld_of (by decide), ⟨by decide, by decide⟩⟩,
    admitted_with .rc [] { releasing .load with permit := up.permit } (by decide) (by decide), fun m hm => ?_,
    fun h => h.run rfl, releaseCondition_iff.1 (by decide), by decide, releaseHeld_of (by decide), ⟨by decide, by decide⟩⟩
  simp only [List.mem_cons, List.not_mem_nil, or_false] at hm
  rcases hm with rfl | rfl
  · exact ⟨{ releasing .offline with dli := { up.dli with silence := 51, live := true } }, rfl, rfl, rfl, rfl, by decide,
      releaseHeld_of (by decide)⟩
  · exact ⟨{ releasing .load with dli := { up.dli with silence := 51, live := true } }, rfl, rfl, rfl, rfl, by decide,
      releaseHeld_of (by decide)⟩

/-- The speed at the ceiling plus the tolerance and one beyond it, with four exchanges counted and five. -/
theorem test_witness_overspeed :
    (∀ n ∈ [4, 5], ∃ s : State, s.permit.level = .run ∧ s.permit.overspeed = n ∧ s.params.overspeedTolerance = 50 ∧
      s.startUp.phase = .complete ∧ s.mc.mode = .run ∧ (superviseSpeed 1550 1500 s).permit.overspeed = 0 ∧
      (.overspeed ∈ (superviseSpeed 1551 1500 s).permit.active ↔ n = 5)) ∧
    up.permit.level = .stop := by
  refine ⟨fun n hn => ⟨{ running with
    params := { up.params with overspeedTolerance := 50 }, permit := { running.permit with overspeed := n } }, ?_⟩, rfl⟩
  simp only [List.mem_cons, List.not_mem_nil, or_false] at hn
  rcases hn with rfl | rfl <;> decide

/-- In scene 2, with a third cue due with the first two, and another scene's cue after them. -/
def threeCues (timer : Nat) : State :=
  let s := inScene timer 2
  { s with tables := { s.tables with cues := ⟨.valid, s.tables.cues.entries.dropLast ++
    [⟨203, .scene 2 0, false, [.notify 10]⟩, ⟨301, .scene 3 0, false, [.notify 11]⟩], 0⟩ } }

theorem test_sceneCueDue_several :
    ((after .sceneCueDue (threeCues 0)).cues.notices.map Notice.cue = [201, 203]) ∧
      (after .sceneCueDue (threeCues 0)).cues.sceneCursor = none := by decide

/-- Cues that the next advance reaches: none, the last of the table, and two before another scene's; the timer one short of a
cue, and at its end; SCENE_CUE_DUE at an offset it reaches and one it does not. -/
theorem test_witness_cues :
    (∀ timer ∈ [48, 49], ∃ (s : State) (c : Cue), s.mc.mode = .run ∧ s.tracker.position = .sync ∧ s.cues.scene ≠ 0 ∧
      s.cues.timer = timer ∧ s.cues.sceneCursor = some 3 ∧ s.tables.cues.status = .valid ∧
      s.tables.cues.entries[3]? = some c ∧ c.trigger = .scene s.cues.scene 50) ∧
    (∃ (s : State) (fired later : List Cue), s.mc.mode = .run ∧ s.tracker.position = .sync ∧ s.cues.scene ≠ 0 ∧
      s.cues.sceneCursor = some 3 ∧ s.tables.cues.status = .valid ∧ s.tables.cues.entries.drop 3 = fired ++ later ∧
      fired = [] ∧ later.map Cue.trigger = [.scene s.cues.scene 50] ∧ s.cues.timer + 1 = 49) ∧
    (∃ (s : State) (fired later : List Cue), s.mc.mode = .run ∧ s.tracker.position = .sync ∧ s.cues.scene ≠ 0 ∧
      s.cues.sceneCursor = some 3 ∧ s.tables.cues.status = .valid ∧ s.tables.cues.entries.drop 3 = fired ++ later ∧
      fired.map Cue.trigger = [.scene s.cues.scene 50] ∧ later = [] ∧ s.cues.timer + 1 = 50) ∧
    (∃ (s : State) (fired later : List Cue), s.mc.mode = .run ∧ s.tracker.position = .sync ∧ s.cues.scene ≠ 0 ∧
      s.cues.sceneCursor = some 2 ∧ s.tables.cues.status = .valid ∧ s.tables.cues.entries.drop 2 = fired ++ later ∧
      fired.map Cue.trigger = [.scene s.cues.scene 0, .scene s.cues.scene 0] ∧ later.map Cue.trigger = [.scene 3 0] ∧
      s.cues.timer = 0) ∧
    (∃ s : State, s.mc.mode = .unload ∧ s.tracker.position = .sync ∧ s.cues.scene ≠ 0 ∧ s.cues.timer = 599999 ∧
      s.cues.sceneCursor = none) ∧
    (∃ s : State, s.mc.mode = .run ∧ s.tracker.position = .sync ∧ s.cues.scene ≠ 0 ∧ s.cues.timer = 600000) ∧
    (up.mc.mode ≠ .run ∧ up.mc.mode ≠ .unload ∧ up.tracker.position = .unsync ∧ up.cues.scene = 0) ∧
    (∀ c ∈ [Channel.pulsing 0, .pulsing 1, .pulsing 2, .on, .off], (withChannel 0 c up).cues.channels[(0 : Fin 12)] = c) ∧
    (c0.runOnly = true ∧ up.permit.level ≠ .run ∧ running.permit.level = .run) ∧
    (findClip staged 1 = some ⟨1, 0, 32000, none⟩ ∧ staged.mc.mode ≠ .halt ∧ staged.store.activity = .idle ∧
      findClip staged 3 = none ∧ halted.mc.mode = .halt) :=
  ⟨fun timer _ => ⟨inScene timer 3, _, rfl, rfl, (by decide : (2 : Nat) ≠ 0), rfl, rfl, rfl, rfl, rfl⟩,
    ⟨inScene 48 3, [], _, rfl, rfl, by decide, rfl, rfl, rfl, rfl, rfl, rfl⟩,
    ⟨inScene 49 3, [⟨202, .scene 2 50, false, [.notify 9]⟩], [], rfl, rfl, by decide, rfl, rfl, rfl, rfl, rfl, rfl⟩,
    ⟨threeCues 0, [⟨201, .scene 2 0, false, [.notify 8]⟩, ⟨203, .scene 2 0, false, [.notify 10]⟩],
      [⟨301, .scene 3 0, false, [.notify 11]⟩], rfl, rfl, by decide, rfl, rfl, rfl, rfl, rfl, rfl⟩,
    ⟨inMode .unload { running with cues := { up.cues with scene := 1, timer := 599999 } }, by decide⟩,
    ⟨inScene 600000 3, by decide⟩, by decide, by decide, by decide, by decide⟩

/-- The actions on voices, with each state of the voice they act on, and a grid instant past the end of show time. -/
theorem test_witness_actions :
    (∃ (s : State) (clip : Clip), findClip s 1 = some clip ∧ s.mc.mode ≠ .halt ∧ s.store.activity = .idle ∧
      s.clock.ms = 4294967295 ∧ (4294967295 / 10000 + 1) * 10000 = 4294970000) ∧
    (∃ (s : State) (x : Voice), s.sound.voices[(0 : Nat)] = some x ∧ x.state = .playing) ∧
    (∃ (s : State) (x : Voice), s.sound.voices[(0 : Nat)] = some x ∧ x.state = .stopping) ∧
    (∃ s : State, s.sound.voices[(0 : Nat)] = none) :=
  ⟨⟨atTime 4294967295 staged, _, rfl, by decide, rfl, rfl, rfl⟩, ⟨withVoice 0 (sounding 1 0) up, _, rfl, rfl⟩,
    ⟨withVoice 0 { sounding 1 0 with state := .stopping } up, _, rfl, rfl⟩, ⟨up, rfl⟩⟩

/-- The cursor at the first cue, with P at its trigger. -/
theorem test_witness_positionCues :
    (∃ (s : State) (fired later : List Cue), s.cues.cursor = .at 0 ∧ s.tables.cues.status = .valid ∧
      s.tables.cues.entries.drop 0 = fired ++ later ∧ (∀ c ∈ fired, c.trigger = .position 6000 ∧ 10 * 6000 ≤ 60000) ∧
      ∀ c ∈ later.head?, c.trigger = .position 7000) ∧
    up.cues.cursor = .unplaced ∧ (∃ s : State, s.cues.cursor = .exhausted) ∧
    (∃ s : State, s.cues.cursor = .exhausted ∧ s.tables.cues.status = .valid ∧
      ∀ c ∈ s.tables.cues.entries, c.trigger = .position 6000) ∧
    up.cues.notices.length ≤ 16 :=
  ⟨⟨{ running with cues := { up.cues with cursor := .at 0 } }, running.tables.cues.entries.take 1,
      running.tables.cues.entries.drop 1, by decide⟩, rfl,
    ⟨{ up with cues := { up.cues with cursor := .exhausted } }, rfl⟩,
    ⟨{ up with cues := { up.cues with cursor := .exhausted }
               tables := { up.tables with cues := ⟨.valid, [⟨101, .position 6000, false, [.notify 7]⟩], 0⟩ } }, by decide⟩,
    by decide⟩

/-- The cursor at a place of the small cue table, which ends in scene cues. -/
def atCue (c : Cursor) : State := { running with cues := { up.cues with cursor := c } }

/-- A movement stops at the first scene cue; a wrap fires the cues below the route length and those at or below the new P; a
placement with P at a trigger and before every cue; a backward movement across 0. -/
theorem test_witness_cursor :
    (∃ (s : State) (fired later : List Cue), s.cues.cursor = .at 1 ∧ s.tables.cues.status = .valid ∧
      s.tables.cues.entries.drop 1 = fired ++ later ∧ (∀ c ∈ fired, c.trigger = .position 7000 ∧ 10 * 7000 ≤ 70000) ∧
      ∀ c ∈ later.head?, c.trigger = .scene 2 0) ∧
    (∃ (s : State) (ended past again later : List Cue), s.tables.cues.status = .valid ∧ s.cues.cursor = .at 1 ∧
      s.tables.cues.entries.drop 1 = ended ++ past ∧ (∀ c ∈ ended, c.trigger = .position 7000 ∧ 7000 < s.tables.routeLength) ∧
      (∀ c ∈ past.head?, c.trigger = .scene 2 0) ∧ s.tables.cues.entries = again ++ later ∧
      (∀ c ∈ again, c.trigger = .position 6000 ∧ 10 * 6000 ≤ 60000) ∧ ∀ c ∈ later.head?, c.trigger = .position 7000) ∧
    (∃ (s : State) (behind ahead : List Cue), s.tables.cues.status = .valid ∧ s.tracker.p = 60000 ∧
      s.tables.cues.entries = behind ++ ahead ∧ (∀ c ∈ behind, c.trigger = .position 6000) ∧
      ∀ c ∈ ahead.head?, c.trigger = .position 7000) ∧
    ((cueMovement 2999 299999 false false (atCue (.at 0))).cues.cursor = .exhausted ∧
      (cueMovement 60000 59999 false false (atCue (.at 0))).cues.cursor = .at 0) :=
  ⟨⟨atCue (.at 1), running.tables.cues.entries.drop 1 |>.take 1, running.tables.cues.entries.drop 2, by decide⟩,
    ⟨atCue (.at 1), running.tables.cues.entries.drop 1 |>.take 1, running.tables.cues.entries.drop 2,
      running.tables.cues.entries.take 1, running.tables.cues.entries.drop 1, by decide⟩,
    ⟨running, running.tables.cues.entries.take 1, running.tables.cues.entries.drop 1, by decide⟩, by decide⟩

/-- Entry into scene 2, whose first cue has offset 0 and whose second has not; into scene 1, which has none; with the scene
timer running and not. -/
theorem test_witness_scenes :
    (∃ before now later : List Cue, running.tables.cues.status = .valid ∧ running.tables.cues.entries = before ++ now ++ later ∧
      (∀ c ∈ before, ∃ mm, mm ∈ [6000, 7000] ∧ c.trigger = .position mm) ∧ now ≠ [] ∧
      (∀ c ∈ now, c.trigger = .scene 2 0) ∧ ∀ c ∈ later.head?, c.trigger = .scene 2 50) ∧
    (∀ c ∈ running.tables.cues.entries,
      c.trigger ∈ [.position 6000, .position 7000, .scene 2 0, .scene 2 50] ∧ c.trigger ≠ .scene 1 0) ∧
    (running.mc.mode = .run ∧ running.tracker.position = .sync) ∧
    (∃ s : State, s.tables.cues.status = .valid ∧ s.mc.mode ≠ .run ∧ s.mc.mode ≠ .unload) :=
  ⟨⟨running.tables.cues.entries.take 2, (running.tables.cues.entries.drop 2).take 1, running.tables.cues.entries.drop 3,
      by decide⟩,
    by decide,
    ⟨rfl, rfl⟩, ⟨loaded (inMode .hold up), rfl, by decide, by decide⟩⟩

/-- A step that is next, from a state in which every kept condition holds and something is in each place it speaks of. -/
theorem test_witness_invariants :
    (∃ s t : State, step s = .next t ∧ MemoryCanonical s ∧ QueuesBounded s ∧ HaltRecorded s ∧ SteeringHeld s ∧
      ReleaseHeld s ∧ BerthHeld s ∧ ClockInRange s.clock) :=
  ⟨{ halted with pending := [.showClockAdvance], steering := { up.steering with state := .tracking } }, _, rfl, rfl,
    ⟨by decide, by decide, by decide, by decide, by decide⟩, ⟨by decide, by decide⟩,
    ⟨by decide, by decide, by decide, by decide⟩, releaseHeld_of (by decide), ⟨by decide, by decide⟩,
    ⟨by decide, by decide, by decide, by decide, by decide⟩⟩

/-- Berthed in UNLOAD, and RELEASING in LOAD with the permit STOP: in both a step keeps what it says. -/
theorem test_witness_berthAndRelease :
    (∃ s t : State, step s = .next t ∧ BerthHeld s ∧ s.mc.berthed = true) ∧
    (∃ s t : State, step s = .next t ∧ ReleaseHeld s ∧ BerthHeld s ∧ s.restraint.energised = [0, 1] ∧
      s.restraint.queue = [2]) ∧
    (∃ s t : State, step s = .next t ∧ BerthHeld s ∧ s.mc.advance ≠ none) :=
  ⟨⟨{ stationary { up with mc := { up.mc with mode := .unload, berthed := true, berthReached := true } } with
        pending := [.showClockAdvance] }, _, rfl, ⟨by decide, by decide⟩, rfl⟩,
    ⟨{ releasingThree .load with pending := [.showClockAdvance] }, _, rfl, releaseHeld_of (by decide), ⟨by decide, by decide⟩, rfl,
      rfl⟩,
    ⟨{ up with mc := { up.mc with mode := .load, advance := some ⟨100, none⟩ }, pending := [.showClockAdvance] }, _, rfl, ⟨by decide, by decide⟩, by decide⟩⟩

/-- The permit at RUN, at STOP while seats are RELEASING, and EMERGENCY during start-up. -/
theorem test_witness_levels :
    (∃ s t : State, step s = .next t ∧ ReleaseHeld s ∧ BerthHeld s ∧ LevelHeld s ∧ HaltRecorded s ∧ t.permit.level = .run) ∧
    (∃ s t : State, step s = .next t ∧ ReleaseHeld s ∧ BerthHeld s ∧ LevelHeld s ∧ seatState s 0 = .releasing) ∧
    (∃ s t : State, step s = .next t ∧ ReleaseHeld s ∧ BerthHeld s ∧ LevelHeld s ∧ s.startUp.phase ≠ .complete) :=
  ⟨⟨{ running with pending := [.showClockAdvance] }, _, rfl, releaseHeld_of (by decide), ⟨by decide, by decide⟩,
      levelHeld_of (by decide), ⟨by decide, by decide⟩, rfl⟩,
    ⟨{ releasingThree .load with pending := [.showClockAdvance] }, _, rfl, releaseHeld_of (by decide), ⟨by decide, by decide⟩,
      levelHeld_of (by decide), rfl⟩,
    ⟨{ State.reset with pending := [.showClockAdvance] }, _, rfl,
      ⟨by decide, by decide, by decide, fun h => absurd h (by decide), by decide, by decide, by decide⟩,
      ⟨by decide, by decide⟩, ⟨fun _ => rfl, fun h => absurd h (by decide)⟩, by decide⟩⟩

end Sys2Proof.Tests
end

section
/-! PROOF. Berthing through the operations of the vehicle: what each keeps of `BerthHeld` (R2, R10), from the permit up to an
accepted exchange, in the order in which `Keeps` is proved. -/

namespace Sys2Proof.Machine

variable {s t u : State}

/-- A berthed vehicle, and an advance, stay where R2 and R10 allow them. -/
structure BerthKept (s t : State) : Prop where
  held : BerthHeld s → BerthHeld t

theorem BerthKept.refl (s : State) : BerthKept s s := ⟨id⟩

theorem BerthKept.trans (h : BerthKept s t) (k : BerthKept t u) : BerthKept s u := ⟨k.held ∘ h.held⟩

theorem BerthKept.ite {c : Prop} [Decidable c] (h : BerthKept s t) (k : BerthKept s u) :
    BerthKept s (if c then t else u) := by
  split
  · exact h
  · exact k

theorem BerthKept.foldl {α : Type} {f : State → α → State} (h : ∀ s a, BerthKept s (f s a)) (l : List α) (s : State) :
    BerthKept s (l.foldl f s) := by
  induction l generalizing s with
  | nil => exact .refl s
  | cons a l ih => exact (h s a).trans (ih (f s a))

/-- Berthing reads the Mode Controller and the stationary condition alone. -/
theorem BerthKept.of_mc (hm : t.mc = s.mc) (hp : t.permit.stationary = s.permit.stationary) : BerthKept s t :=
  ⟨fun h => ⟨by rw [hm, hp]; exact h.berthed, by rw [hm]; exact h.advance⟩⟩

theorem BerthKept.of_show (h : OnlyShow s t) : BerthKept s t := .of_mc h.mc (by rw [h.permit])

theorem BerthKept.setRestraint (s : State) (x : Restraint) : BerthKept s (s.setRestraint x) := .of_mc rfl rfl
theorem BerthKept.setTracker (s : State) (x : Tracker) : BerthKept s (s.setTracker x) := .of_mc rfl rfl
theorem BerthKept.setSteering (s : State) (x : Steering) : BerthKept s (s.setSteering x) := .of_mc rfl rfl
theorem BerthKept.setTerminals (s : State) (x : Terminals) : BerthKept s (s.setTerminals x) := .of_mc rfl rfl
theorem BerthKept.setPermit (s : State) (x : PermitUnit) (h : x.stationary = s.permit.stationary) :
    BerthKept s (s.setPermit x) := .of_mc rfl h

/-! ## Permit, modes and faults -/

theorem refreshPermit_berthKept (s : State) : BerthKept s (refreshPermit s) :=
  .of_mc (refreshPermit_mc s) (refreshPermit_formed s).stationary

theorem formCeilings_berthKept (s : State) : BerthKept s (formCeilings s) := .of_mc (formCeilings_mc s) rfl

theorem formAhead_berthKept (s : State) : BerthKept s (formAhead s) :=
  .of_mc (formAhead_mc s) (formAhead_formed s).stationary

theorem judgeRelease_berthKept (s : State) : BerthKept s (judgeRelease s) :=
  .of_mc (judgeRelease_mc s) (by rw [judgeRelease_permit])

theorem permitMoved_berthKept (s : State) : BerthKept s (permitMoved s) :=
  .of_mc (permitMoved_mc s) (permitMoved_formed s).stationary

/-- A mode change ends berthing, and leaves an advance in LOAD and UNLOAD only (R2). -/
theorem enterMode_berthHeld (new : Mode) (held : HeldFrom) (s : State) : BerthHeld (enterMode new held s) := by
  constructor
  · rw [enterMode_mc]
    exact nofun
  · rw [enterMode_mc]
    cases new <;> simp [ModeController.enter]

theorem recordFault_stationary (k : FaultKind) (sub : SubCause) (d : Nat) (s : State) :
    (recordFault k sub d s).permit.stationary = s.permit.stationary := by
  simp only [recordFault, modPermit_eq, State.setPermit_permit]
  split <;> rfl

theorem recordFault_berthKept (k : FaultKind) (sub : SubCause) (d : Nat) (s : State) :
    BerthKept s (recordFault k sub d s) := .of_mc (recordFault_mc ..) (recordFault_stationary ..)

theorem raiseFault_berthKept (k : FaultKind) (sub : SubCause) (d : Nat) (s : State) :
    BerthKept s (raiseFault k sub d s) := by
  have recorded := recordFault_berthKept k sub d s
  unfold raiseFault
  dsimp only
  split
  · exact recorded
  · exact recorded.trans (.setSteering _ _)
  all_goals exact ⟨fun _ => enterMode_berthHeld ..⟩

theorem rcCheck_berthKept (s : State) : BerthKept s (rcCheck s) := by
  have reported : BerthKept s (modWli s fun w => { w with rcReported := true }) := .of_mc rfl rfl
  exact .ite (reported.trans (raiseFault_berthKept ..)) (.refl s)

theorem takeFault_berthKept (k : FaultKind) (sub : SubCause) (d : Nat) (s : State) : BerthKept s (takeFault k sub d s) :=
  .ite (raiseFault_berthKept ..) ((raiseFault_berthKept ..).trans (rcCheck_berthKept _))

theorem changeMode_berthHeld (new : Mode) (held : HeldFrom) (s : State) : BerthHeld (changeMode new held s) :=
  (rcCheck_berthKept _).held (enterMode_berthHeld new held s)

theorem changeMode_berthKept (new : Mode) (held : HeldFrom) (s : State) : BerthKept s (changeMode new held s) :=
  ⟨fun _ => changeMode_berthHeld new held s⟩

/-! ## READY, berthing, advances, standstill -/

theorem evalReady_berthKept (s : State) : BerthKept s (evalReady s) := by
  unfold evalReady
  split
  · exact .ite (changeMode_berthKept ..) (.refl s)
  · exact .ite (.refl s) (changeMode_berthKept ..)
  all_goals exact .refl s

/-- Berthing is set where the vehicle is stationary in UNLOAD without an advance (R10). -/
theorem evalBerth_berthKept (s : State) : BerthKept s (evalBerth s) := by
  unfold evalBerth
  split
  · next hc =>
    obtain ⟨hm, ha, hs, -⟩ := hc
    have set : BerthKept s (modMc s fun m => { m with berthed := true, berthReached := true }) :=
      ⟨fun h => ⟨fun _ => ⟨hm, hs, rfl, ha⟩, h.advance⟩⟩
    exact set.trans (permitMoved_berthKept _)
  · exact .refl s

theorem endAdvance_berthKept (s : State) : BerthKept s (endAdvance s) := by
  have cleared : BerthKept s (modMc s fun m => { m with advance := none }) :=
    ⟨fun h => ⟨fun hb => by
      obtain ⟨hm, hs, hr, -⟩ := h.berthed hb
      exact ⟨hm, hs, hr, rfl⟩, fun ha => absurd rfl ha⟩⟩
  exact cleared.trans ((permitMoved_berthKept _).trans ((evalBerth_berthKept _).trans (evalReady_berthKept _)))

theorem becomeStationary_berthKept (s : State) : BerthKept s (becomeStationary s) := by
  have set : BerthKept s (modPermit s fun u => { u with stationary := true }) :=
    ⟨fun h => ⟨fun hb => by
      obtain ⟨hm, -, hr, ha⟩ := h.berthed hb
      exact ⟨hm, rfl, hr, ha⟩, h.advance⟩⟩
  exact set.trans ((judgeRelease_berthKept _).trans ((evalBerth_berthKept _).trans (evalReady_berthKept _)))

theorem stopStationary_berthKept (s : State) : BerthKept s (stopStationary s) := by
  have set : BerthKept s (modMc (modPermit s fun u => { u with stationary := false, standstill := none })
      fun m => { m with berthed := false }) := ⟨fun h => ⟨nofun, h.advance⟩⟩
  exact set.trans ((permitMoved_berthKept _).trans (evalReady_berthKept _))

/-- An advance is taken in LOAD and UNLOAD, and ends berthing (R11). -/
theorem startAdvance_berthKept (mm : Nat) (h : s.mc.mode = .load ∨ s.mc.mode = .unload) :
    BerthKept s (startAdvance mm s) := by
  have set : BerthKept s (modMc s fun m => { m with advance := some ⟨10 * mm, s.tracker.segment⟩, berthed := false }) :=
    ⟨fun _ => ⟨nofun, fun _ => h⟩⟩
  exact set.trans ((permitMoved_berthKept _).trans (evalReady_berthKept _))

/-! ## Seats -/

theorem seatMoved_berthKept (i : Fin 8) (old : SeatState) (s : State) : BerthKept s (seatMoved i old s) :=
  .ite (.refl s) ((refreshPermit_berthKept s).trans
    ((BerthKept.ite (takeFault_berthKept ..) (.refl _)).trans (evalReady_berthKept _)))

theorem evaluateSeat_berthKept (i : Fin 8) (s : State) : BerthKept s (evaluateSeat i s) := .setRestraint s _

theorem fillEnergised_berthKept (s : State) : BerthKept s (fillEnergised s) := .setRestraint s _

theorem appendRelease_berthKept (s : State) (i : Fin 8) : BerthKept s (appendRelease s i) :=
  (BerthKept.setRestraint s _).trans (seatMoved_berthKept ..)

theorem release_berthKept (mask : Byte) (s : State) : BerthKept s (release mask s) :=
  (BerthKept.foldl appendRelease_berthKept _ s).trans ((fillEnergised_berthKept _).trans (evalReady_berthKept _))

theorem bypassSeat_berthKept (s : State) (i : Fin 8) : BerthKept s (bypassSeat s i) :=
  (BerthKept.setRestraint s _).trans (seatMoved_berthKept ..)

theorem bypass_berthKept (mask : Byte) (s : State) : BerthKept s (bypass mask s) := .foldl bypassSeat_berthKept _ s

theorem restoreSeat_berthKept (s : State) (i : Fin 8) : BerthKept s (restoreSeat s i) := by
  have judged := (evaluateSeat_berthKept i s).trans ((refreshPermit_berthKept _).trans
    (BerthKept.ite (c := restoreOpens (evaluateSeat i s) (seatState (evaluateSeat i s) i) = true)
      (takeFault_berthKept .restraintOpen .none (i.val + 1) _) (.refl _)))
  exact .ite judged (judged.trans (evalReady_berthKept _))

theorem maskSeat_berthKept (mask : Byte) (s : State) (i : Fin 8) : BerthKept s (maskSeat mask s i) :=
  .ite (.ite ((evaluateSeat_berthKept i s).trans (seatMoved_berthKept ..)) (.refl s))
    (.ite (.refl s) ((BerthKept.setRestraint s _).trans (seatMoved_berthKept ..)))

theorem applySeatMask_berthKept (mask : Byte) (s : State) : BerthKept s (applySeatMask mask s) :=
  (BerthKept.foldl (maskSeat_berthKept mask) _ s).trans (.setRestraint _ _)

theorem enableSeats_berthKept (s : State) : BerthKept s (enableSeats s) := .foldl (maskSeat_berthKept _) _ s

theorem latchChange_berthKept (i : Fin 8) (k : Fin 3) (level : Bool) (s : State) :
    BerthKept s (latchChange i k level s) := .ite (.setRestraint s _) (.refl s)

theorem barRose_berthKept (i : Fin 8) (s : State) : BerthKept s (barRose i s) :=
  (BerthKept.setRestraint s _).trans (fillEnergised_berthKept _)

theorem seatInputChanged_berthKept (i : Fin 8) (k : Fin 3) (level : Bool) (before : Picture) (s : State) :
    BerthKept s (seatInputChanged i k level before s) := by
  have latched := latchChange_berthKept i k level s
  unfold seatInputChanged
  dsimp only
  split
  · exact latched
  · exact latched
  · exact .ite (latched.trans ((barRose_berthKept i _).trans
      ((seatMoved_berthKept ..).trans (evalReady_berthKept _)))) latched
  all_goals exact latched.trans ((BerthKept.setRestraint _ _).trans (seatMoved_berthKept ..))

theorem solenoidReport_berthKept (i : Fin 8) (s : State) : BerthKept s (solenoidReport i s) := by
  have latched : BerthKept s (if seatState s i = .disabled then s
      else modRestraint s fun r => r.latch i fun l => { l with solenoidFault := true }) :=
    .ite (.refl s) (.setRestraint s _)
  exact .ite (latched.trans (takeFault_berthKept ..)) latched

/-! ## Position -/

theorem cuesUnsync_berthKept (s : State) : BerthKept s (cuesUnsync s) := .of_mc rfl rfl

theorem becomeUnsync_berthKept (s : State) : BerthKept s (becomeUnsync s) :=
  (BerthKept.setTracker s _).trans ((cuesUnsync_berthKept _).trans ((refreshPermit_berthKept _).trans
    ((formCeilings_berthKept _).trans (evalReady_berthKept _))))

theorem positionFault_berthKept (sub : SubCause) (detail : Nat) (s : State) :
    BerthKept s (positionFault sub detail s) :=
  (BerthKept.setTracker s _).trans ((cuesUnsync_berthKept _).trans ((takeFault_berthKept ..).trans
    ((refreshPermit_berthKept _).trans ((formCeilings_berthKept _).trans (evalReady_berthKept _)))))

theorem zoneChange_berthKept (s : State) : BerthKept s (zoneChange s) :=
  .ite (changeMode_berthKept ..) (.ite ((changeMode_berthKept ..).trans (evalReady_berthKept _)) (.refl s))

theorem zoneReport_berthKept (s : State) : BerthKept s (zoneReport s) :=
  (zoneChange_berthKept s).trans ((BerthKept.ite (endAdvance_berthKept _) (.refl _)).trans (evalBerth_berthKept _))

theorem lookup_berthKept (s : State) : BerthKept s (lookup s) :=
  (BerthKept.setTracker s _).trans ((formAhead_berthKept _).trans (zoneReport_berthKept _))

theorem rollbackCheck_berthKept (s : State) : BerthKept s (rollbackCheck s) :=
  .ite (.setTracker s _) (.ite (positionFault_berthKept ..) (.refl s))

theorem movement_berthKept (before after : Nat) (forward wrap : Bool) (s : State) :
    BerthKept s (movement before after forward wrap s) :=
  (lookup_berthKept s).trans
    (.ite ((BerthKept.of_show (cueMovement_only ..)).trans (rollbackCheck_berthKept _)) (.refl _))

theorem moveTo_berthKept (p : Nat) (wrap : Bool) (s : State) : BerthKept s (moveTo p wrap s) := .setTracker s _

theorem advanceTravel_berthKept (d : Int) (s : State) : BerthKept s (advanceTravel d s) := by
  unfold advanceTravel
  split
  · exact .refl s
  · next a ha =>
    have moved : BerthKept s (modMc s fun m => { m with advance := some { a with remaining := a.remaining - d } }) := by
      refine ⟨fun h => ⟨fun hb => ?_, fun _ => h.advance (by rw [ha]; exact nofun)⟩⟩
      obtain ⟨-, -, -, hn⟩ := h.berthed hb
      exact absurd (ha.symm.trans hn) nofun
    exact .ite (moved.trans (endAdvance_berthKept _)) moved

theorem integrate_berthKept (d : Int) (s : State) : BerthKept s (integrate d s) :=
  (moveTo_berthKept _ _ s).trans ((BerthKept.ite (positionFault_berthKept ..) (.refl _)).trans (movement_berthKept ..))

theorem acquire_berthKept (i : Nat) (m : Marker) (s : State) : BerthKept s (acquire i m s) :=
  (BerthKept.setTracker s _).trans ((lookup_berthKept _).trans
    ((BerthKept.ite (.of_show (placeCursor_only _)) (.refl _)).trans
      ((refreshPermit_berthKept _).trans ((formCeilings_berthKept _).trans (evalReady_berthKept _)))))

theorem missExpected_berthKept (s : State) : BerthKept s (missExpected s) := by
  unfold missExpected
  split
  · exact .refl s
  · exact .ite ((BerthKept.setTracker s _).trans (positionFault_berthKept ..)) (.setTracker s _)

theorem correct_berthKept (i : Nat) (m : Marker) (d : Int) (s : State) : BerthKept s (correct i m d s).1 :=
  (BerthKept.setTracker s _).trans ((moveTo_berthKept ..).trans (movement_berthKept ..))

theorem capture_berthKept (i : Nat) (m : Marker) (s : State) : BerthKept s (capture i m s).1 := by
  unfold capture
  dsimp only
  split
  · exact positionFault_berthKept ..
  · exact correct_berthKept ..

theorem placeRead_berthKept (i : Nat) (m : Marker) (s : State) : BerthKept s (placeRead i m s).1 := by
  have once := missExpected_berthKept s
  have twice : BerthKept s (if isSync (missExpected s) then missExpected (missExpected s) else missExpected s) :=
    .ite (once.trans (missExpected_berthKept _)) once
  have captured (t : State) (h : BerthKept s t) : BerthKept s (if isSync t then capture i m t else (t, false)).1 := by
    split
    · exact h.trans (capture_berthKept ..)
    · exact h
  unfold placeRead
  dsimp only
  split
  · exact capture_berthKept ..
  · split
    · exact captured _ once
    · split
      · exact captured _ twice
      · exact positionFault_berthKept ..

theorem markerRead_berthKept (id : Nat) (s : State) : BerthKept s (markerRead id s).1 := by
  unfold markerRead
  repeat' split
  · exact .refl s
  · exact .setTracker s _
  · exact .refl s
  · exact placeRead_berthKept ..
  · exact acquire_berthKept ..

theorem overdueCheck_berthKept (n : Nat) (s : State) : BerthKept s (overdueCheck n s) := by
  induction n generalizing s with
  | zero => exact .refl s
  | succ n ih => exact .ite ((missExpected_berthKept s).trans (ih _)) (.refl s)

theorem trackExchange_berthKept (distance : Int) (marker : Nat) (s : State) :
    BerthKept s (trackExchange distance marker s) := by
  have travelled := (advanceTravel_berthKept (clampedDistance distance) s).trans
    (integrate_berthKept (clampedDistance distance) _)
  have read (b : Bool) (t : State) (h : BerthKept s t) :
      BerthKept s (if b then (t, false) else markerRead marker t).1 := by
    split
    · exact h
    · exact h.trans (markerRead_berthKept ..)
  exact .ite (.refl s)
    (.ite ((read _ _ travelled).trans (overdueCheck_berthKept ..)) (read _ _ travelled))

/-! ## Steering, and the Permit Unit's part of an exchange -/

theorem steeringUpdate_berthKept (g d : Int) (s : State) : BerthKept s (steeringUpdate g d s) := by
  have moved (x : Steering) (code : Nat) : BerthKept s (handCode (s.setSteering x) 0 code) := .of_mc rfl rfl
  have faulted (k : FaultKind) (b : Bool) (t : State) (h : BerthKept s t) :
      BerthKept s (if b then takeFault k .none 0 t else t) := .ite (h.trans (takeFault_berthKept ..)) h
  exact faulted _ _ _ (faulted _ _ _ (moved _ _))

theorem steerExchange_berthKept (guide distance : Int) (s : State) : BerthKept s (steerExchange guide distance s) := by
  have guided : BerthKept s (modSteering s fun c => { c with guidePresent := guideSignal guide }) := .setSteering s _
  exact .ite (guided.trans (steeringUpdate_berthKept ..)) guided

theorem superviseSpeed_berthKept (speed ceiling : Nat) (s : State) : BerthKept s (superviseSpeed speed ceiling s) := by
  have counted : BerthKept s (modPermit s fun u => { u with overspeed := min (u.overspeed + 1) 6 }) :=
    .setPermit s _ rfl
  exact .ite (.refl s) (.ite (.ite (counted.trans (takeFault_berthKept ..)) counted) (.setPermit s _ rfl))

theorem superviseStandstill_berthKept (r : DcRecord) (s : State) : BerthKept s (superviseStandstill r s) :=
  .ite (.setPermit s _ rfl) (.ite (stopStationary_berthKept s) (.setPermit s _ rfl))

theorem takeReport_berthKept (r : DcRecord) (s : State) : BerthKept s (takeReport r s) := by
  have reported : BerthKept s (modPermit s fun u =>
      { u with reportSpeed := r.speed, reportBrake := r.brake, reportFault := r.dcFault, reportCode := r.faultCode }) :=
    .setPermit s _ rfl
  exact .ite (reported.trans (takeFault_berthKept ..)) reported

/-- An accepted exchange, passed to the three blocks (R182). -/
theorem passOn_berthKept (r : DcRecord) (ceiling : Nat) (s : State) : BerthKept s (passOn r ceiling s) :=
  (trackExchange_berthKept ..).trans ((steerExchange_berthKept ..).trans ((superviseSpeed_berthKept ..).trans
    ((superviseStandstill_berthKept ..).trans (takeReport_berthKept ..))))

/-! ## Terminals -/

theorem changeInput_berthKept (i : Fin 27) (level : Bool) (s : State) : BerthKept s (changeInput i level s) := by
  have set : BerthKept s (setFiltered i level s) := .setTerminals s _
  have amp (t : State) : BerthKept t (ampReadyChanged level t) := .ite (.setSteering t _) (.refl t)
  have stop (t : State) : BerthKept t (onboardStopChanged level t) :=
    (refreshPermit_berthKept t).trans (.ite (takeFault_berthKept ..) (.refl _))
  unfold changeInput
  dsimp only
  split
  · exact set.trans (seatInputChanged_berthKept ..)
  · exact .ite (set.trans (amp _)) (.ite (set.trans (stop _)) set)

theorem applyInput_berthKept (s : State) (i : Fin 27) : BerthKept s (applyInput s i) :=
  .ite (.setTerminals s _) (changeInput_berthKept ..)

theorem applyMap_berthKept (s : State) : BerthKept s (applyMap s) :=
  (BerthKept.setTerminals s _).trans (.foldl applyInput_berthKept _ _)

end Sys2Proof.Machine
end

section
/-! PROOF. O58: HALT with its fault records, and berthing, through every request and event. -/

namespace Sys2Proof.Machine

variable {s t u : State}

/-- The HALT records and the berth are kept. -/
structure HaltBerthKept (s t : State) : Prop extends BerthKept s t where
  halt : HaltRecorded s → HaltRecorded t

theorem HaltBerthKept.refl (s : State) : HaltBerthKept s s := ⟨.refl s, id⟩

theorem HaltBerthKept.trans (h : HaltBerthKept s t) (k : HaltBerthKept t u) : HaltBerthKept s u :=
  ⟨h.toBerthKept.trans k.toBerthKept, k.halt ∘ h.halt⟩

theorem HaltBerthKept.ite {c : Prop} [Decidable c] (h : HaltBerthKept s t) (k : HaltBerthKept s u) :
    HaltBerthKept s (if c then t else u) := ⟨.ite h.toBerthKept k.toBerthKept, by split; exacts [h.halt, k.halt]⟩

theorem HaltBerthKept.of_keeps (h : Keeps s t) (b : BerthKept s t) : HaltBerthKept s t := ⟨b, h.halt⟩

theorem HaltBerthKept.of_offTerminals (h : KeepsOffTerminals s t) (b : BerthKept s t) : HaltBerthKept s t := by
  obtain ⟨x, h⟩ := h
  exact ⟨b, fun hr => h.halt (haltRecorded_of (s := s) rfl rfl rfl hr)⟩

theorem HaltBerthKept.of_held (hr : HaltRecorded t) (hb : BerthHeld t) : HaltBerthKept s t := ⟨⟨fun _ => hb⟩, fun _ => hr⟩

/-- What the two conditions read of the Mode Controller and the Permit Unit. -/
theorem HaltBerthKept.of_items (hm : t.mc.mode = s.mc.mode) (hb : t.mc.berthed = s.mc.berthed)
    (hr : t.mc.berthReached = s.mc.berthReached) (ha : t.mc.advance = s.mc.advance) (hp : t.permit = s.permit) :
    HaltBerthKept s t :=
  ⟨⟨fun h => ⟨by rw [hb, hm, hp, hr, ha]; exact h.berthed, by rw [ha, hm]; exact h.advance⟩⟩,
    haltRecorded_of hm (by rw [hp]) (by rw [hp])⟩

/-! ## What leaves the vehicle alone -/

/-- The Mode Controller and the Permit Unit are as they were. -/
structure VehicleSame (s t : State) : Prop where
  mc : t.mc = s.mc
  permit : t.permit = s.permit

theorem VehicleSame.kept (h : VehicleSame s t) : HaltBerthKept s t :=
  .of_items (by rw [h.mc]) (by rw [h.mc]) (by rw [h.mc]) (by rw [h.mc]) h.permit

theorem VehicleSame.trans (h : VehicleSame s t) (k : VehicleSame t u) : VehicleSame s u :=
  ⟨k.mc.trans h.mc, k.permit.trans h.permit⟩

theorem VehicleSame.of_show (h : OnlyShow s t) : VehicleSame s t := ⟨h.mc, h.permit⟩

@[simp] theorem refuse_next (st : Status) (s : State) : (refuse st s).next = s := rfl
@[simp] theorem done_next (data : List Byte) (s : State) : (done data s).next = s := rfl
@[simp] theorem doneOr_next (c : Bool) (data : List Byte) (s : State) : (doneOr c data s).next = s := rfl

theorem handleStatus_same (args : List Byte) (s : State) : VehicleSame s (handleStatus args s).next := by
  unfold handleStatus; split <;> exact ⟨rfl, rfl⟩

theorem handleShowStatus_same (args : List Byte) (s : State) : VehicleSame s (handleShowStatus args s).next := by
  unfold handleShowStatus; split <;> exact ⟨rfl, rfl⟩

theorem handleClearSeatEvents_same (args : List Byte) (s : State) :
    VehicleSame s (handleClearSeatEvents args s).next := by
  unfold handleClearSeatEvents; split <;> exact ⟨rfl, rfl⟩

theorem handleAnnounce_only (args : List Byte) (s : State) : OnlyShow s (handleAnnounce args s).next := by
  unfold handleAnnounce; (repeat' split) <;> rfl

theorem handleAnnounce_same (args : List Byte) (s : State) : VehicleSame s (handleAnnounce args s).next :=
  .of_show (handleAnnounce_only args s)

theorem handleReadFaultLog_same (args : List Byte) (s : State) : VehicleSame s (handleReadFaultLog args s).next := by
  unfold handleReadFaultLog; (repeat' split) <;> exact ⟨rfl, rfl⟩

theorem handleGetParam_same (args : List Byte) (s : State) : VehicleSame s (handleGetParam args s).next := by
  unfold handleGetParam; (repeat' split) <;> exact ⟨rfl, rfl⟩

theorem handleSave_same (args : List Byte) (s : State) : VehicleSame s (handleSave args s).next := by
  unfold handleSave; (repeat' split) <;> exact ⟨rfl, rfl⟩

theorem takeEntry_same {α : Type} (x : Table α) (entry : Option α) (check : Table α → Option α → Option Status)
    (bytes : List Byte) (put : Table α → State) (h : ∀ y, VehicleSame s (put y)) :
    VehicleSame s (takeEntry x entry check bytes put s).next := by
  unfold takeEntry
  repeat' split
  · exact ⟨rfl, rfl⟩
  · exact ⟨rfl, rfl⟩
  · exact h _
  · exact ⟨rfl, rfl⟩

theorem handleTableEntry_same (args : List Byte) (s : State) : VehicleSame s (handleTableEntry args s).next := by
  unfold handleTableEntry
  dsimp only
  split
  · exact takeEntry_same _ _ _ _ _ fun _ => ⟨rfl, rfl⟩
  · exact takeEntry_same _ _ _ _ _ fun _ => ⟨rfl, rfl⟩
  · exact takeEntry_same _ _ _ _ _ fun _ => ⟨rfl, rfl⟩
  · exact takeEntry_same _ _ _ _ _ fun _ => ⟨rfl, rfl⟩
  · exact ⟨rfl, rfl⟩

theorem handleNotices_same (args : List Byte) (s : State) : VehicleSame s (handleNotices args s).next := by
  unfold handleNotices; split <;> exact ⟨rfl, rfl⟩

theorem handleStoreWrite_same (args : List Byte) (s : State) : VehicleSame s (handleStoreWrite args s).next := by
  unfold handleStoreWrite; (repeat' split) <;> exact ⟨rfl, rfl⟩

theorem handleStoreErase_same (args : List Byte) (s : State) : VehicleSame s (handleStoreErase args s).next := by
  unfold handleStoreErase; dsimp only; (repeat' split) <;> exact ⟨rfl, rfl⟩

theorem handleStoreRead_same (args : List Byte) (s : State) : VehicleSame s (handleStoreRead args s).next := by
  unfold handleStoreRead; (repeat' split) <;> exact ⟨rfl, rfl⟩

theorem handleSync_same (k : Capture) (args : List Byte) (s : State) : VehicleSame s (handleSync k args s).next := by
  have resynced (c : ShowClock) : VehicleSame s (resyncAll (s.setClock c)) := by
    have h := resyncAll_only (s.setClock c)
    exact ⟨h.mc, h.permit⟩
  unfold handleSync
  dsimp only
  split
  · split
    · exact ⟨rfl, rfl⟩
    · rw [done_next]
      exact resynced _
  · exact ⟨rfl, rfl⟩

theorem handleVoiceStart_only (args : List Byte) (s : State) : OnlyShow s (handleVoiceStart args s).next := by
  unfold handleVoiceStart; dsimp only; (repeat' split) <;> rfl

theorem handleVoiceStart_same (args : List Byte) (s : State) : VehicleSame s (handleVoiceStart args s).next :=
  .of_show (handleVoiceStart_only args s)

theorem handleVoiceStop_same (args : List Byte) (s : State) : VehicleSame s (handleVoiceStop args s).next := by
  unfold handleVoiceStop; dsimp only; (repeat' split) <;> exact ⟨rfl, rfl⟩

theorem handleVoiceGain_same (args : List Byte) (s : State) : VehicleSame s (handleVoiceGain args s).next := by
  unfold handleVoiceGain; dsimp only; (repeat' split) <;> exact ⟨rfl, rfl⟩

theorem handleMasterVolume_same (args : List Byte) (s : State) : VehicleSame s (handleMasterVolume args s).next := by
  unfold handleMasterVolume
  split
  · exact ⟨rfl, rfl⟩
  · split
    · exact ⟨rfl, rfl⟩
    · rw [doneOr_next]
      exact ⟨rfl, rfl⟩
  · exact ⟨rfl, rfl⟩

theorem handCode_same (s : State) (g : Fin 3) (code : Nat) : VehicleSame s (handCode s g code) := ⟨rfl, rfl⟩

theorem sampleClock_same (s : State) : VehicleSame s (sampleClock s) := by
  have advanced := OnlyShow.foldl (f := fun t i => putVoice t i ((voiceAt s i).bind (Voice.afterSample s)))
    (fun _ _ => rfl) allVoices s
  unfold sampleClock
  exact (VehicleSame.of_show (advanced.trans (OnlyShow.setSound _ _))).trans
    ((handCode_same _ _ _).trans (handCode_same _ _ _))

/-! ## Mode changes that a request makes -/

/-- A mode change neither into HALT nor out of it. -/
theorem changeMode_haltBerth {new : Mode} (held : HeldFrom) (hn : new ≠ .halt) (ho : s.mc.mode ≠ .halt) :
    HaltBerthKept s (changeMode new held s) where
  toBerthKept := changeMode_berthKept new held s
  halt := fun h => (rcCheck_keeps _).halt (by
    have hf := enterMode_formed new held s
    have hm : (enterMode new held s).mc.mode = new := by simp [ModeController.enter]
    exact ⟨by rw [hm, hf.first, ← h.first]; simp [hn, ho], by rw [hm, hf.active, ← h.active]; simp [hn, ho]⟩)

/-- A mode change out of HALT, or into OFFLINE, once the fault set and the first-fault record are empty (R6, R15, R170). -/
theorem changeMode_cleared {new : Mode} (held : HeldFrom) (hn : new ≠ .halt) (ha : s.permit.active = [])
    (hf : s.permit.first = none) : HaltRecorded (changeMode new held s) := by
  have formed := enterMode_formed new held s
  have hm : (enterMode new held s).mc.mode = new := by simp [ModeController.enter]
  refine (rcCheck_keeps _).halt ⟨?_, ?_⟩
  · rw [hm, formed.first, hf]; simp [hn]
  · rw [hm, formed.active, ha]; simp [hn]

theorem goOnline_haltBerth (h : s.mc.mode = .offline) : HaltBerthKept s (goOnline s) := by
  have entered : HaltBerthKept s (enterMode .load .none s) :=
    ⟨⟨fun _ => enterMode_berthHeld ..⟩, fun hr => by
      have hf := enterMode_formed .load .none s
      have hm : (enterMode .load .none s).mc.mode = .load := by simp [ModeController.enter]
      exact ⟨by rw [hm, hf.first, ← hr.first, h]; simp, by rw [hm, hf.active, ← hr.active, h]; simp⟩⟩
  have stopped : HaltBerthKept s (if onboardStop (enterMode .load .none s) then
      raiseFault .onboardStop .none 0 (enterMode .load .none s) else enterMode .load .none s) :=
    .ite (entered.trans (.of_keeps (raiseFault_keeps ..) (raiseFault_berthKept ..))) entered
  exact stopped.trans ((HaltBerthKept.of_keeps (rcCheck_keeps _) (rcCheck_berthKept _)).trans
    (.of_keeps (evalReady_keeps _) (evalReady_berthKept _)))

theorem goOffline_haltBerth (s : State) : HaltBerthKept s (goOffline s) :=
  .of_held (changeMode_cleared .none nofun rfl rfl) (changeMode_berthHeld ..)

theorem recover_haltBerth (s : State) : HaltBerthKept s (recover s) := by
  have left (new : Mode) (held : HeldFrom) (hn : new ≠ .halt) :
      HaltBerthKept s (changeMode new held (clearFaults s)) :=
    .of_held (changeMode_cleared held hn rfl rfl) (changeMode_berthHeld ..)
  exact .ite ((left .load .none nofun).trans (.of_keeps (evalReady_keeps _) (evalReady_berthKept _)))
    (left .hold s.mc.heldFrom nofun)

theorem evalReady_haltBerth (s : State) : HaltBerthKept s (evalReady s) :=
  .of_keeps (evalReady_keeps s) (evalReady_berthKept s)

theorem takeFault_haltBerth (k : FaultKind) (sub : SubCause) (d : Nat) (s : State) :
    HaltBerthKept s (takeFault k sub d s) := .of_keeps (takeFault_keeps ..) (takeFault_berthKept ..)

theorem seatMoved_haltBerth (i : Fin 8) (old : SeatState) (s : State) : HaltBerthKept s (seatMoved i old s) :=
  .of_keeps (seatMoved_keeps ..) (seatMoved_berthKept ..)

theorem becomeUnsync_haltBerth (s : State) : HaltBerthKept s (becomeUnsync s) :=
  .of_keeps (becomeUnsync_keeps s) (becomeUnsync_berthKept s)

/-! ## The handlers that act on the vehicle -/

theorem handleGoOnline_kept (args : List Byte) (h : s.mc.mode = .offline) :
    HaltBerthKept s (handleGoOnline args s).next := by
  unfold handleGoOnline
  repeat' split
  · exact .refl s
  · exact .refl s
  · exact goOnline_haltBerth h

theorem handleGoOffline_kept (args : List Byte) (s : State) : HaltBerthKept s (handleGoOffline args s).next := by
  unfold handleGoOffline
  repeat' split
  · exact .refl s
  · exact .refl s
  · exact goOffline_haltBerth s
  · exact .refl s

theorem handleDispatch_kept (args : List Byte) (h : s.mc.mode = .ready) :
    HaltBerthKept s (handleDispatch args s).next := by
  have counted (n : Nat) : HaltBerthKept s (modMc s fun m => { m with dispatchCount := n }) :=
    .of_items rfl rfl rfl rfl rfl
  unfold handleDispatch
  repeat' split
  · exact .refl s
  · exact .refl s
  · exact (counted _).trans (changeMode_haltBerth .none nofun (by simp [h]))

theorem handleHold_kept (args : List Byte) (s : State) : HaltBerthKept s (handleHold args s).next := by
  unfold handleHold
  split
  · exact .refl s
  · split
    · next h => exact changeMode_haltBerth .run nofun (by simp [h])
    · next h => exact changeMode_haltBerth .unload nofun (by simp [h])
    all_goals exact .refl s

theorem handleResume_kept (args : List Byte) (h : s.mc.mode = .hold) : HaltBerthKept s (handleResume args s).next := by
  unfold handleResume
  repeat' split
  · exact .refl s
  · exact .refl s
  · exact changeMode_haltBerth .none nofun (by simp [h])
  · have entered := changeMode_haltBerth (s := s) (new := .unload) .none nofun (by simp [h])
    exact entered.trans (.of_keeps (evalBerth_keeps _) (evalBerth_berthKept _))
  · exact .refl s

theorem advanceBy_kept (mm : Nat) (h : s.mc.mode = .load ∨ s.mc.mode = .unload) : HaltBerthKept s (advanceBy mm s) :=
  .ite (.ite (.of_keeps (endAdvance_keeps s) (endAdvance_berthKept s)) (.refl s))
    (.of_keeps (startAdvance_keeps mm s) (startAdvance_berthKept mm h))

theorem handleAdvance_kept (args : List Byte) (h : s.mc.mode = .load ∨ s.mc.mode = .unload) :
    HaltBerthKept s (handleAdvance args s).next := by
  unfold handleAdvance
  repeat' split
  · exact .refl s
  · exact advanceBy_kept _ h
  · exact .refl s

theorem handleStopNow_kept (args : List Byte) (s : State) : HaltBerthKept s (handleStopNow args s).next := by
  unfold handleStopNow
  split
  · exact .refl s
  · exact takeFault_haltBerth ..

theorem handleRecover_kept (args : List Byte) (s : State) : HaltBerthKept s (handleRecover args s).next := by
  unfold handleRecover
  repeat' split
  · exact .refl s
  · exact .refl s
  · exact recover_haltBerth s

theorem handleRelease_kept (args : List Byte) (s : State) : HaltBerthKept s (handleRelease args s).next := by
  unfold handleRelease
  repeat' split
  · exact .refl s
  · exact .refl s
  · exact .refl s
  · exact .of_keeps (release_keeps _ s) (release_berthKept _ s)
  · exact .refl s

theorem handleBypass_kept (args : List Byte) (s : State) : HaltBerthKept s (handleBypass args s).next := by
  unfold handleBypass
  repeat' split
  · exact .refl s
  · exact .refl s
  · exact .of_keeps (bypass_keeps _ s) (bypass_berthKept _ s)
  · exact .refl s

theorem handleRestore_kept (args : List Byte) (s : State) : HaltBerthKept s (handleRestore args s).next := by
  unfold handleRestore
  repeat' split
  · exact .refl s
  · exact .of_keeps (.foldl restoreSeat_keeps _ s) (.foldl restoreSeat_berthKept _ s)
  · exact .refl s

theorem handleSetSpeedLimit_kept (args : List Byte) (s : State) :
    HaltBerthKept s (handleSetSpeedLimit args s).next := by
  have limited (n : Nat) : HaltBerthKept s (setSpeedLimit n s) :=
    (HaltBerthKept.of_keeps (.setPermit s { s.permit with rcLimit := n } rfl rfl rfl) (.setPermit s _ rfl)).trans
      (.of_keeps (formCeilings_keeps _) (formCeilings_berthKept _))
  unfold handleSetSpeedLimit
  split
  · exact limited _
  · exact .refl s

theorem paramWritten_kept (id : ParamId) (s : State) : HaltBerthKept s (paramWritten id s) := by
  unfold paramWritten
  split
  · exact .of_keeps (applySeatMask_keeps ..) (applySeatMask_berthKept ..)
  · exact .of_keeps (formAhead_keeps s) (formAhead_berthKept s)
  · exact .of_keeps (formAhead_keeps s) (formAhead_berthKept s)
  · exact VehicleSame.kept ⟨rfl, rfl⟩
  · exact .of_offTerminals (applyInput_keeps ..) (applyInput_berthKept ..)
  · exact .of_offTerminals (applyInput_keeps ..) (applyInput_berthKept ..)
  · exact .refl s

theorem handleSetParam_kept (args : List Byte) (s : State) : HaltBerthKept s (handleSetParam args s).next := by
  have written (id : ParamId) (p : Params) : HaltBerthKept s (paramWritten id (s.setParams p)) :=
    (VehicleSame.kept ⟨rfl, rfl⟩ : HaltBerthKept s (s.setParams p)).trans (paramWritten_kept id _)
  unfold handleSetParam
  split
  · split
    · exact .refl s
    · unfold writeParam
      repeat' split
      · exact .refl s
      · exact .refl s
      · exact .refl s
      · exact written _ _
  · exact .refl s

theorem reset_haltRecorded : HaltRecorded State.reset := ⟨by decide, by decide⟩
theorem reset_berthHeld : BerthHeld State.reset := ⟨by decide, by decide⟩

theorem hardwareReset_kept (s : State) : HaltBerthKept s (hardwareReset s) :=
  .of_held ⟨reset_haltRecorded.first, reset_haltRecorded.active⟩ ⟨reset_berthHeld.berthed, reset_berthHeld.advance⟩

theorem handleRestart_kept (args : List Byte) (s : State) : HaltBerthKept s (handleRestart args s).next := by
  have restarted : HaltBerthKept s (restart s) :=
    .of_held ⟨reset_haltRecorded.first, reset_haltRecorded.active⟩ ⟨reset_berthHeld.berthed, reset_berthHeld.advance⟩
  unfold handleRestart
  repeat' split
  · exact .refl s
  · exact .refl s
  · exact restarted

theorem handlePreface_kept (args : List Byte) (s : State) : HaltBerthKept s (handlePreface args s).next := by
  unfold handlePreface
  repeat' split
  · exact .of_items rfl rfl rfl rfl rfl
  all_goals exact .refl s

theorem handleTableBegin_kept (args : List Byte) (s : State) : HaltBerthKept s (handleTableBegin args s).next := by
  have unsynced {u : State} (h : VehicleSame s u) : HaltBerthKept s (becomeUnsync u) :=
    h.kept.trans (becomeUnsync_haltBerth u)
  unfold handleTableBegin
  dsimp only
  split
  · split
    · exact unsynced ⟨rfl, rfl⟩
    · exact .refl s
  · exact unsynced ⟨rfl, rfl⟩
  · exact VehicleSame.kept ⟨rfl, rfl⟩
  · exact VehicleSame.kept ⟨rfl, rfl⟩
  · exact .refl s

theorem pairCheck_kept (s : State) : HaltBerthKept s (pairCheck s) := by
  have emptied : HaltBerthKept s (s.setTables { s.tables with markers := Table.empty _ }) :=
    VehicleSame.kept ⟨rfl, rfl⟩
  exact .ite (emptied.trans (becomeUnsync_haltBerth _)) (.refl s)

theorem endTable_kept {α : Type} (x : Table α) (ok : Bool) (put : Table α → State)
    (h : ∀ y, HaltBerthKept s (put y)) : HaltBerthKept s (endTable x ok put s).next := by
  unfold endTable
  split
  · exact .refl s
  · exact h _

theorem handleTableEnd_kept (args : List Byte) (s : State) : HaltBerthKept s (handleTableEnd args s).next := by
  have checked (x : Tables) : HaltBerthKept s (pairCheck (s.setTables x)) :=
    (VehicleSame.kept ⟨rfl, rfl⟩ : HaltBerthKept s (s.setTables x)).trans (pairCheck_kept _)
  unfold handleTableEnd
  dsimp only
  split
  · split
    · exact endTable_kept _ _ _ fun _ => checked _
    · exact endTable_kept _ _ _ fun _ => checked _
    · exact endTable_kept _ _ _ fun _ => VehicleSame.kept ⟨rfl, rfl⟩
    · exact endTable_kept _ _ _ fun _ => VehicleSame.kept ⟨rfl, rfl⟩
  · exact .refl s

/-! ## Taking a request -/

/-- A handler keeps the two conditions in the modes that take its kind (R17). -/
def HandlerKeeps (k : Kind) (handle : Handler) : Prop :=
  ∀ args s, k.takenIn s.mc.mode = true → HaltBerthKept s (handle args s).next

theorem setSlot_kept (s : State) (src : Source) (x : Option Preface) : HaltBerthKept s (modMc s fun m => m.setSlot src x) :=
  .of_items (setSlot_mode ..) (setSlot_berthed ..) (setSlot_berthReached ..) (setSlot_advance ..) rfl

theorem askOwner_kept {k : Kind} {handle : Handler} (h : HandlerKeeps k handle) (args : List Byte) (s : State) :
    HaltBerthKept s (askOwner k handle args s).next := by
  unfold askOwner
  split
  · next hm => exact h args s hm
  · exact .refl s

theorem judgeUnicast_kept {k : Kind} {handle : Handler} (h : HandlerKeeps k handle) (f : Frame) (s : State) :
    HaltBerthKept s (judgeUnicast (some k) handle f s).next := by
  refine (setSlot_kept s f.source none).trans ?_
  unfold judgeUnicast checkAuthority checkPreface
  dsimp only
  repeat' split
  · exact .refl _
  · exact .of_items rfl rfl rfl rfl rfl
  · exact askOwner_kept h _ _
  · exact .refl _

theorem takeGroup_kept {k : Kind} {handle : Handler} (h : HandlerKeeps k handle) (f : Frame) (s : State) :
    HaltBerthKept s (takeGroup (some k) handle f s) := by
  unfold takeGroup
  dsimp only
  repeat' split
  · exact askOwner_kept h _ _
  · exact .refl s
  · exact VehicleSame.kept ⟨rfl, rfl⟩

theorem respond_kept (f : Frame) {a : Answer} (h : HaltBerthKept s a.next) : HaltBerthKept s (respond f a) :=
  h.trans (VehicleSame.kept ⟨rfl, rfl⟩)

theorem takeRequest_kept {k : Kind} {handle : Handler} (h : HandlerKeeps k handle) (s : State) :
    HaltBerthKept s (takeRequest (some k) handle s) := by
  rcases takeRequest_cases (some k) handle s with he | ⟨f, rest, -, -, he⟩
  · rw [he]; exact .refl s
  · rw [he]
    refine HaltBerthKept.trans (t := s.setWli { s.wli with queue := rest }) (VehicleSame.kept ⟨rfl, rfl⟩) ?_
    unfold takeFrame
    split
    · refine respond_kept f ?_
      split
      · exact .refl _
      · exact judgeUnicast_kept h f _
    all_goals exact .ite (.refl _) (takeGroup_kept h f _)

/-- A frame of an unknown kind changes the slots and the counts alone (R18, R19). -/
theorem takeRequest_unknown_kept (handle : Handler) (s : State) : HaltBerthKept s (takeRequest none handle s) := by
  rcases takeRequest_cases none handle s with he | ⟨f, rest, -, -, he⟩
  · rw [he]; exact .refl s
  · rw [he]
    refine HaltBerthKept.trans (t := s.setWli { s.wli with queue := rest }) (VehicleSame.kept ⟨rfl, rfl⟩) ?_
    unfold takeFrame
    split
    · refine respond_kept f ?_
      split
      · exact .refl _
      · exact setSlot_kept _ _ _
    all_goals exact .ite (.refl _) (VehicleSame.kept ⟨rfl, rfl⟩)

/-! ## Events -/

theorem loseDriveLink_kept (s : State) : HaltBerthKept s (loseDriveLink s) := by
  have dead : HaltBerthKept s (modDli s fun d => { d with live := false }) := VehicleSame.kept ⟨rfl, rfl⟩
  have stopped : HaltBerthKept s
      (if (modDli s fun d => { d with live := false }).permit.stationary
        then stopStationary (modDli s fun d => { d with live := false })
        else modPermit (modDli s fun d => { d with live := false }) fun u => { u with standstill := none }) :=
    .ite (dead.trans (.of_keeps (stopStationary_keeps _) (stopStationary_berthKept _)))
      (dead.trans (.of_keeps (.setPermit _ _ rfl rfl rfl) (.setPermit _ _ rfl)))
  exact .ite (stopped.trans (takeFault_haltBerth ..)) stopped

theorem endExchange_kept (out : DriveRecord) (edges : Nat) (bytes : List Byte) (s : State) :
    HaltBerthKept s (endExchange out edges bytes s) := by
  unfold endExchange
  dsimp only
  split
  · exact VehicleSame.kept ⟨rfl, rfl⟩
  · next r _ =>
    refine .ite (VehicleSame.kept ⟨rfl, rfl⟩) (.ite (VehicleSame.kept ⟨rfl, rfl⟩) ?_)
    exact HaltBerthKept.trans (t := (s.setDli s.dli.ended).setDli (s.dli.ended.accept r)) (VehicleSame.kept ⟨rfl, rfl⟩)
      (.of_keeps (passOn_keeps ..) (passOn_berthKept ..))

theorem completeStartUp_kept (s : State) : HaltBerthKept s (completeStartUp s) := by
  have mapped (u : State) : HaltBerthKept u (applyMap u) := .of_offTerminals (applyMap_keeps u) (applyMap_berthKept u)
  have enabled (u : State) : HaltBerthKept u (enableSeats u) :=
    .of_keeps (enableSeats_keeps u) (enableSeats_berthKept u)
  have formed (u : State) (x : StartUp) : HaltBerthKept u (formCeilings (refreshPermit (u.setStartUp x))) :=
    HaltBerthKept.trans (t := u.setStartUp x) (VehicleSame.kept ⟨rfl, rfl⟩)
      ((HaltBerthKept.of_keeps (refreshPermit_keeps _) (refreshPermit_berthKept _)).trans
        (.of_keeps (formCeilings_keeps _) (formCeilings_berthKept _)))
  refine HaltBerthKept.trans (t := modStore (s.setParams s.startUp.chosen) fun x => { x with activity := .idle })
    (VehicleSame.kept ⟨rfl, rfl⟩) ((mapped _).trans ((enabled _).trans (formed _ _)))

theorem nextSection_kept (read : Option TableId) (s : State) : HaltBerthKept s (nextSection read s) := by
  unfold nextSection
  split
  · exact VehicleSame.kept ⟨rfl, rfl⟩
  · exact completeStartUp_kept s

theorem judgeSection_kept (x : TableId) (s : State) : HaltBerthKept s (judgeSection x s) := by
  have set (x : Tables) : HaltBerthKept s (s.setTables x) := VehicleSame.kept ⟨rfl, rfl⟩
  unfold judgeSection
  dsimp only
  repeat' split
  · exact set _
  · exact .refl s
  · exact (set _).trans (pairCheck_kept _)
  · exact .refl s
  · exact set _
  · exact .refl s
  · exact set _
  · exact .refl s

theorem tick_kept (s : State) : HaltBerthKept s (tick s) :=
  HaltBerthKept.trans (t := countMillisecond s) (VehicleSame.kept ⟨rfl, rfl⟩)
    (VehicleSame.of_show (advanceScene_only _)).kept

/-! ## Every command -/

/-- Every kind's handler, in the modes that take it. -/
theorem exec_command_kept (k : Kind) (s t : State) (h : exec k.command s = .next t) : HaltBerthKept s t := by
  have taken {handle : Handler} (hk : HandlerKeeps k handle) (he : exec k.command s = requestRow k handle s) :
      HaltBerthKept s t := by
    rw [he] at h
    cases h
    exact takeRequest_kept hk s
  cases k with
  | status => exact taken (fun a u _ => (handleStatus_same a u).kept) rfl
  | goOnline => exact taken (fun a u hm => handleGoOnline_kept a (by simpa [Kind.takenIn] using hm)) rfl
  | goOffline => exact taken (fun a u _ => handleGoOffline_kept a u) rfl
  | dispatch => exact taken (fun a u hm => handleDispatch_kept a (by simpa [Kind.takenIn] using hm)) rfl
  | hold => exact taken (fun a u _ => handleHold_kept a u) rfl
  | resume => exact taken (fun a u hm => handleResume_kept a (by simpa [Kind.takenIn] using hm)) rfl
  | advance => exact taken (fun a u hm => handleAdvance_kept a (by simpa [Kind.takenIn] using hm)) rfl
  | stopNow => exact taken (fun a u _ => handleStopNow_kept a u) rfl
  | recover => exact taken (fun a u _ => handleRecover_kept a u) rfl
  | release => exact taken (fun a u _ => handleRelease_kept a u) rfl
  | bypass => exact taken (fun a u _ => handleBypass_kept a u) rfl
  | restore => exact taken (fun a u _ => handleRestore_kept a u) rfl
  | clearSeatEvents => exact taken (fun a u _ => (handleClearSeatEvents_same a u).kept) rfl
  | setSpeedLimit => exact taken (fun a u _ => handleSetSpeedLimit_kept a u) rfl
  | announce => exact taken (fun a u _ => (handleAnnounce_same a u).kept) rfl
  | readFaultLog => exact taken (fun a u _ => (handleReadFaultLog_same a u).kept) rfl
  | setParam => exact taken (fun a u _ => handleSetParam_kept a u) rfl
  | getParam => exact taken (fun a u _ => (handleGetParam_same a u).kept) rfl
  | save => exact taken (fun a u _ => (handleSave_same a u).kept) rfl
  | restart => exact taken (fun a u _ => handleRestart_kept a u) rfl
  | preface => exact taken (fun a u _ => handlePreface_kept a u) rfl
  | tableBegin => exact taken (fun a u _ => handleTableBegin_kept a u) rfl
  | tableEntry => exact taken (fun a u _ => (handleTableEntry_same a u).kept) rfl
  | tableEnd => exact taken (fun a u _ => handleTableEnd_kept a u) rfl
  | showStatus => exact taken (fun a u _ => (handleShowStatus_same a u).kept) rfl
  | notices => exact taken (fun a u _ => (handleNotices_same a u).kept) rfl
  | storeWrite => exact taken (fun a u _ => (handleStoreWrite_same a u).kept) rfl
  | storeErase => exact taken (fun a u _ => (handleStoreErase_same a u).kept) rfl
  | storeRead => exact taken (fun a u _ => (handleStoreRead_same a u).kept) rfl
  | sync => exact taken (fun a u _ => (handleSync_same _ a u).kept) rfl
  | voiceStart => exact taken (fun a u _ => (handleVoiceStart_same a u).kept) rfl
  | voiceStop => exact taken (fun a u _ => (handleVoiceStop_same a u).kept) rfl
  | voiceGain => exact taken (fun a u _ => (handleVoiceGain_same a u).kept) rfl
  | masterVolume => exact taken (fun a u _ => (handleMasterVolume_same a u).kept) rfl

/-- A row whose outcome is a state that keeps the two conditions. -/
theorem HaltBerthKept.of_next (k : HaltBerthKept s u) (h : (.next u : Host.Outcome State Fault Refusal) = .next t) :
    HaltBerthKept s t := by
  cases h
  exact k

/-- A row that does something only where its event is due. -/
theorem HaltBerthKept.whenDue {c : Prop} [Decidable c] (k : HaltBerthKept s u)
    (h : (.next (if c then u else s) : Host.Outcome State Fault Refusal) = .next t) : HaltBerthKept s t :=
  .of_next (.ite k (.refl s)) h

/-- A write of the link's or the drive link's own block. -/
theorem setWli_kept (s : State) (x : Wli) : HaltBerthKept s (s.setWli x) := VehicleSame.kept ⟨rfl, rfl⟩
theorem setDli_kept (s : State) (x : Dli) : HaltBerthKept s (s.setDli x) := VehicleSame.kept ⟨rfl, rfl⟩
theorem setSound_kept (s : State) (x : Sound) : HaltBerthKept s (s.setSound x) := VehicleSame.kept ⟨rfl, rfl⟩
theorem setClock_kept (s : State) (x : ShowClock) : HaltBerthKept s (s.setClock x) := VehicleSame.kept ⟨rfl, rfl⟩

theorem setDensity_kept (s : State) (x : Vector Density 3) : HaltBerthKept s (s.setDensity x) :=
  VehicleSame.kept ⟨rfl, rfl⟩

theorem storeFails_kept (s : State) : HaltBerthKept s (storeFails s) := VehicleSame.kept ⟨rfl, rfl⟩

theorem execStoreComplete_kept (success : Bool) (h : execStoreComplete success s = .next t) : HaltBerthKept s t := by
  have succeeded : HaltBerthKept s (storeSucceeds s) := VehicleSame.kept ⟨rfl, rfl⟩
  exact .whenDue (.ite succeeded (storeFails_kept s)) h

theorem execSaveComplete_kept (success : Bool) (h : execSaveComplete success s = .next t) : HaltBerthKept s t := by
  refine HaltBerthKept.of_next ?_ h
  split
  · exact .ite (VehicleSame.kept ⟨rfl, rfl⟩) (VehicleSame.kept ⟨rfl, rfl⟩)
  all_goals exact .refl s

theorem execSaveTimeout_kept (h : execSaveTimeout s = .next t) : HaltBerthKept s t := by
  refine HaltBerthKept.of_next ?_ h
  split
  · exact .ite (VehicleSame.kept ⟨rfl, rfl⟩) (.refl s)
  all_goals exact .refl s

theorem execStrapRead_kept (h : execStrapRead s = .next t) : HaltBerthKept s t := by
  have chosen : HaltBerthKept s (choose Params.defaults true s) := VehicleSame.kept ⟨rfl, rfl⟩
  have moved : HaltBerthKept s (setPhase .config s) := VehicleSame.kept ⟨rfl, rfl⟩
  exact .whenDue (.ite (chosen.trans (completeStartUp_kept _)) moved) h

theorem execSectionRead_kept (readable : Bool) (h : execSectionRead readable s = .next t) : HaltBerthKept s t := by
  have chosen (p : Params) (b : Bool) : HaltBerthKept s (choose p b s) := VehicleSame.kept ⟨rfl, rfl⟩
  refine HaltBerthKept.of_next ?_ h
  split
  · exact (chosen _ _).trans (nextSection_kept none _)
  · next x _ =>
    exact (HaltBerthKept.ite (c := readable = true) (judgeSection_kept x s) (.refl s)).trans (nextSection_kept _ _)
  · exact .refl s
  · exact .refl s

theorem execFramingError_kept (h : execFramingError s = .next t) : HaltBerthKept s t :=
  .of_next (.ite (.refl s) (setWli_kept s _)) h

theorem execAddressCharacter_kept (value : Byte) (periods : Nat) (h : execAddressCharacter value periods s = .next t) :
    HaltBerthKept s t := .of_next (.ite (.refl s) (setWli_kept s _)) h

theorem execDataCharacter_kept (value : Byte) (h : execDataCharacter value s = .next t) : HaltBerthKept s t :=
  .of_next (.ite (.refl s) (setWli_kept s _)) h

theorem execExchangeStart_kept (h : execExchangeStart s = .next t) : HaltBerthKept s t := by
  refine HaltBerthKept.of_next ?_ h
  split
  · exact setDli_kept s _
  · exact .refl s

theorem execDriveExchange_kept (edges : Nat) (bytes : List Byte) (h : execDriveExchange edges bytes s = .next t) :
    HaltBerthKept s t := by
  refine HaltBerthKept.of_next ?_ h
  split
  · exact .refl s
  · exact endExchange_kept ..

theorem execTerminalSample_kept (levels : BitVec 40) (h : execTerminalSample levels s = .next t) :
    HaltBerthKept s t := by
  refine HaltBerthKept.of_next ?_ h
  unfold countStrapSample
  split <;> exact VehicleSame.kept ⟨rfl, rfl⟩

theorem execVerifyTimeReached_kept (i : Fin 8) (h : execVerifyTimeReached i s = .next t) : HaltBerthKept s t :=
  .whenDue (HaltBerthKept.trans (t := modRestraint s fun r => r.modSeat i fun x => { x with state := .verified })
    (VehicleSame.kept ⟨rfl, rfl⟩) (seatMoved_haltBerth ..)) h

theorem execDisagreementTimeReached_kept (i : Fin 8) (h : execDisagreementTimeReached i s = .next t) :
    HaltBerthKept s t :=
  .whenDue (HaltBerthKept.trans (t := modRestraint s fun r =>
      (r.modSeat i fun x => { x with state := .disagree }).latch i fun l => { l with enteredDisagree := true })
    (VehicleSame.kept ⟨rfl, rfl⟩) (seatMoved_haltBerth ..)) h

theorem execPulseTimeout_kept (i : Fin 8) (h : execPulseTimeout i s = .next t) : HaltBerthKept s t :=
  .whenDue (HaltBerthKept.trans (t := fillEnergised (modRestraint s fun r =>
      ((r.leaveRelease i).modSeat i (Seat.enterEvaluation (picture s i))).latch i fun l => { l with releaseFailed := true }))
    (VehicleSame.kept ⟨rfl, rfl⟩) ((seatMoved_haltBerth ..).trans (evalReady_haltBerth _))) h

theorem execSolenoidMismatch_kept (terminal : Fin 40) (h : execSolenoidMismatch terminal s = .next t) :
    HaltBerthKept s t := by
  have reported : HaltBerthKept s (modTerminals s fun m => { m with mismatchDue := m.mismatchDue.set terminal false }) :=
    VehicleSame.kept ⟨rfl, rfl⟩
  refine HaltBerthKept.whenDue ?_ h
  split
  · exact reported.trans (.of_keeps (solenoidReport_keeps ..) (solenoidReport_berthKept ..))
  all_goals exact reported

theorem execSampleClock_kept (h : execSampleClock s = .next t) : HaltBerthKept s t := by
  unfold execSampleClock at h
  split at h
  · cases h
  · exact HaltBerthKept.of_next (sampleClock_same s).kept h

/-- Every command that does not stop the model keeps HALT with its records, and berthing. -/
theorem exec_kept (c : Instr) (s t : State) (h : exec c s = .next t) : HaltBerthKept s t := by
  cases c with
  | hardwareReset => exact .of_next (hardwareReset_kept s) h
  | strapRead => exact execStrapRead_kept h
  | sectionRead readable => exact execSectionRead_kept readable h
  | framingError => exact execFramingError_kept h
  | addressCharacter value periods => exact execAddressCharacter_kept value periods h
  | dataCharacter value => exact execDataCharacter_kept value h
  | frameTimeout quiet => exact .whenDue (setWli_kept s _) h
  | responseStart quiet => exact .whenDue (setWli_kept s _) h
  | responseSent => exact .whenDue (setWli_kept s _) h
  | linkRateApply => exact .whenDue (setWli_kept s _) h
  | storeComplete success => exact execStoreComplete_kept success h
  | storeTimeout => exact .whenDue (storeFails_kept s) h
  | saveComplete success => exact execSaveComplete_kept success h
  | saveTimeout => exact execSaveTimeout_kept h
  | prefaceLapse source => exact .whenDue (setSlot_kept s source none) h
  | exchangeStart => exact execExchangeStart_kept h
  | driveExchange edges bytes => exact execDriveExchange_kept edges bytes h
  | stationary => exact .whenDue (.of_keeps (becomeStationary_keeps s) (becomeStationary_berthKept s)) h
  | driveTimeout => exact .whenDue (loseDriveLink_kept s) h
  | rcLinkLost => exact .of_next (.of_keeps (rcCheck_keeps s) (rcCheck_berthKept s)) h
  | terminalSample levels => exact execTerminalSample_kept levels h
  | filteredChange input =>
    exact .whenDue (.of_offTerminals (changeInput_keeps ..) (changeInput_berthKept input _ s)) h
  | verifyTimeReached seat => exact execVerifyTimeReached_kept seat h
  | disagreementTimeReached seat => exact execDisagreementTimeReached_kept seat h
  | pulseTimeout seat => exact execPulseTimeout_kept seat h
  | solenoidMismatch terminal => exact execSolenoidMismatch_kept terminal h
  | ampNotReady => exact .whenDue (takeFault_haltBerth ..) h
  | showClockAdvance => exact .of_next (setClock_kept s _) h
  | syncAgeExpiry => exact .whenDue (setClock_kept s _) h
  | sceneCueDue => exact .whenDue (VehicleSame.of_show (advanceScene_only s)).kept h
  | effectPulseEnd channel => exact .whenDue (VehicleSame.of_show (OnlyShow.setCues s _)).kept h
  | voiceJoin voice => exact .whenDue (setSound_kept s _) h
  | gainRampTick => exact .of_next (setSound_kept s _) h
  | fadeEnd voice => exact .whenDue (setSound_kept s _) h
  | sampleClock => exact execSampleClock_kept h
  | generatorClock generator => exact .whenDue (setDensity_kept s _) h
  | unknownKind => exact .of_next (takeRequest_unknown_kept _ s) h
  | status => exact exec_command_kept .status s t h
  | goOnline => exact exec_command_kept .goOnline s t h
  | goOffline => exact exec_command_kept .goOffline s t h
  | dispatch => exact exec_command_kept .dispatch s t h
  | hold => exact exec_command_kept .hold s t h
  | resume => exact exec_command_kept .resume s t h
  | advance => exact exec_command_kept .advance s t h
  | stopNow => exact exec_command_kept .stopNow s t h
  | recover => exact exec_command_kept .recover s t h
  | release => exact exec_command_kept .release s t h
  | bypass => exact exec_command_kept .bypass s t h
  | restore => exact exec_command_kept .restore s t h
  | clearSeatEvents => exact exec_command_kept .clearSeatEvents s t h
  | setSpeedLimit => exact exec_command_kept .setSpeedLimit s t h
  | announce => exact exec_command_kept .announce s t h
  | readFaultLog => exact exec_command_kept .readFaultLog s t h
  | setParam => exact exec_command_kept .setParam s t h
  | getParam => exact exec_command_kept .getParam s t h
  | save => exact exec_command_kept .save s t h
  | restart => exact exec_command_kept .restart s t h
  | preface => exact exec_command_kept .preface s t h
  | tableBegin => exact exec_command_kept .tableBegin s t h
  | tableEntry => exact exec_command_kept .tableEntry s t h
  | tableEnd => exact exec_command_kept .tableEnd s t h
  | showStatus => exact exec_command_kept .showStatus s t h
  | notices => exact exec_command_kept .notices s t h
  | storeWrite => exact exec_command_kept .storeWrite s t h
  | storeErase => exact exec_command_kept .storeErase s t h
  | storeRead => exact exec_command_kept .storeRead s t h
  | sync => exact exec_command_kept .sync s t h
  | voiceStart => exact exec_command_kept .voiceStart s t h
  | voiceStop => exact exec_command_kept .voiceStop s t h
  | voiceGain => exact exec_command_kept .voiceGain s t h
  | masterVolume => exact exec_command_kept .masterVolume s t h

theorem step_kept (s t : State) (h : step s = .next t) : HaltBerthKept s t := by
  unfold step at h
  split at h
  · next c rest _ =>
    exact HaltBerthKept.trans (t := s.setPending rest) (VehicleSame.kept ⟨rfl, rfl⟩) (exec_kept c _ t h)
  · split at h
    · next c _ => exact exec_kept c s t h
    · exact .of_next (tick_kept s) h

/-- Settles O58: each half is kept by every command, by the event that is due, and by a local millisecond. -/
theorem stepsKeepHaltAndBerth : Obligations.StepsKeepHaltAndBerth :=
  ⟨fun s t h => (step_kept s t h).halt, fun s t h => (step_kept s t h).held⟩

end Sys2Proof.Machine
end

section
/-! PROOF. O7, O8 and O22: the checks that a request passes before its owning block (R18, R20), group and broadcast frames
(R19), and the preface (R20, R21). -/

namespace Sys2Proof.Machine

variable {k : Kind} {f : Frame} {rest : List Frame} {s t u : State} {handle : Handler}

/-! ## The steps of R18 on a unicast frame -/

/-- A unicast frame of an unknown kind, outside start-up. -/
theorem takeRequest_unknown (hq : s.wli.queue = f :: rest) (hu : f.addressing = .unicast)
    (ho : s.wli.outgoing.length < 2) (hs : s.startUp.phase = .complete) (hk : ∀ k : Kind, k.code ≠ f.kind.toNat) :
    takeRequest none handle s = answered f .unknown [] (taken s f rest) := by
  unfold takeRequest
  rw [hq]
  simp only [Kind.ofCode_none hk, takable, hu, ho, takeFrame]
  simp [startingUp, hs]
  rfl

/-- Steps 1 to 3 of R18: what is left to judge is the authority, in the state once the frame is taken. -/
theorem exec_asked (h : Asked k f rest s) :
    ∃ handle, exec k.command s = .next (respond f
      (checkAuthority f.source (prefaceSlot s.mc f.source) k handle f.args (taken s f rest))) := by
  obtain ⟨handle, he⟩ := exec_command k s
  exact ⟨handle, by rw [he, takeRequest_asked h]; rfl⟩

theorem prefaceMatches_iff (slot : Option Preface) (k : Kind) (args : List Byte) :
    prefaceMatches slot k args = true ↔ ∃ p, slot = some p ∧ p.kind = k ∧ p.byte = args.headD 0 := by
  cases slot with
  | none => simp [prefaceMatches]
  | some p => simp [prefaceMatches, firstByte]

theorem checkAuthority_other {src owner : Source} {slot : Option Preface} {args : List Byte}
    (ho : k.source args = some owner) (hn : owner ≠ src) :
    checkAuthority src slot k handle args s = refuse .authority s := by
  simp [checkAuthority, ho, hn]

theorem checkAuthority_unnamed {src : Source} {slot : Option Preface} {args : List Byte} (ho : k.source args = none) :
    checkAuthority src slot k handle args s = refuse .argument s := by simp [checkAuthority, ho]

theorem checkAuthority_own {src : Source} {slot : Option Preface} {args : List Byte} (ho : k.source args = some src) :
    checkAuthority src slot k handle args s = checkPreface slot k handle args s := by simp [checkAuthority, ho]

theorem checkPreface_fails {slot : Option Preface} {args : List Byte} (hp : k.isProtected = true)
    (hm : ¬prefaceMatches slot k args = true) :
    checkPreface slot k handle args s =
      refuse .preface (modMc s fun m => { m with protectionFaults := min (m.protectionFaults + 1) 255 }) := by
  simp [checkPreface, hp, Bool.eq_false_iff.2 hm]

theorem checkPreface_passes {slot : Option Preface} {args : List Byte}
    (hm : k.isProtected = true → prefaceMatches slot k args = true) :
    checkPreface slot k handle args s = askOwner k handle args s := by
  cases hp : k.isProtected
  · simp [checkPreface, hp]
  · simp [checkPreface, hp, hm hp]

theorem askOwner_refuses {args : List Byte} (hm : k.takenIn s.mc.mode = false) :
    askOwner k handle args s = refuse .mode s := by simp [askOwner, hm]

/-- Settles O7: the checks of R18 in their order, each with the steps before it passed. -/
theorem unicastChecksRefuse : Obligations.UnicastChecksRefuse := by
  refine ⟨fun f rest s hq hu ho hs hk => congrArg Host.Outcome.next (takeRequest_unknown hq hu ho hs hk), fun k f rest s ha => ?_⟩
  obtain ⟨handle, he⟩ := exec_asked ha
  rw [he]
  refine ⟨fun owner ho hn => ?_, fun ho => ?_, fun ho hp hm => ?_, fun ho hp hm => ?_⟩
  · rw [checkAuthority_other ho hn]; rfl
  · rw [checkAuthority_unnamed ho]; rfl
  · rw [checkAuthority_own ho, checkPreface_fails hp]
    · simp only [modMc_eq, taken_protectionFaults]
      rfl
    · rw [prefaceMatches_iff]
      rintro ⟨p, h1, h2⟩
      exact hm p h1 h2
  · rw [checkAuthority_own ho, checkPreface_passes fun h => (prefaceMatches_iff ..).2 (hp h),
      askOwner_refuses (by rw [taken_mode]; exact hm)]
    rfl

/-! ## Group and broadcast frames (R19) -/

/-- A group or broadcast frame is taken whatever the outgoing list holds; start-up drops it (R175, R191). -/
theorem takeRequest_shared {row : Option Kind} (hq : s.wli.queue = f :: rest) (hk : Kind.ofCode f.kind = row)
    (ha : f.addressing ≠ .unicast) :
    takeRequest row handle s =
      if startingUp s then s.setWli { s.wli with queue := rest }
      else takeGroup row handle f (s.setWli { s.wli with queue := rest }) := by
  have hstart : startingUp (s.setWli { s.wli with queue := rest }) = startingUp s := rfl
  unfold takeRequest
  rw [hq]
  dsimp only
  rw [if_pos ⟨hk, by simp [takable, ha]⟩]
  unfold takeFrame
  cases hc : f.addressing with
  | unicast => exact absurd hc ha
  | group => simp only [modWli_eq, hstart]
  | broadcast => simp only [modWli_eq, hstart]

theorem takeRequest_called (h : Called k f rest s) :
    takeRequest (some k) handle s = takeGroup (some k) handle f (s.setWli { s.wli with queue := rest }) := by
  rw [takeRequest_shared h.queue (Kind.ofCode_eq h.kind) h.shared, startingUp_false h.running]
  rfl

/-- A kind that the table of R17 does not mark, or a frame of another source, is discarded and counted. -/
theorem takeGroup_discards (h : ¬(k.byGroup = true ∧ k.source f.args = some f.source)) :
    takeGroup (some k) handle f s = modWli s fun w => { w with groupDiscards := bump w.groupDiscards } := by
  simp only [takeGroup, if_neg h]

theorem takeGroup_drops (hg : k.byGroup = true) (ho : k.source f.args = some f.source)
    (hm : k.takenIn s.mc.mode = false) : takeGroup (some k) handle f s = s := by
  simp only [takeGroup, if_pos (And.intro hg ho), askOwner_refuses hm]
  rfl

/-- A marked kind in its modes acts as its owner says, unless the owner refuses it. -/
theorem takeGroup_acts (hg : k.byGroup = true) (ho : k.source f.args = some f.source)
    (hm : k.takenIn s.mc.mode = true) :
    takeGroup (some k) handle f s =
      if (handle f.args s).status.accepted then (handle f.args s).next else s := by
  simp only [takeGroup, if_pos (And.intro hg ho), askOwner, if_pos hm]

theorem accepted_iff (st : Status) : st.accepted = true ↔ st = .done ∨ st = .clamped := by
  cases st <;> simp [Status.accepted]

/-- The requests that wait, the responses and the preface slots are as they were. -/
structure RequestsKept (s t : State) : Prop where
  queue : t.wli.queue = s.wli.queue
  outgoing : t.wli.outgoing = s.wli.outgoing
  rcSlot : t.mc.rcSlot = s.mc.rcSlot
  scSlot : t.mc.scSlot = s.mc.scSlot

theorem RequestsKept.refl (s : State) : RequestsKept s s := ⟨rfl, rfl, rfl, rfl⟩

theorem RequestsKept.of_keeps (h : Keeps s t) : RequestsKept s t :=
  ⟨h.requests, h.responses, h.slots.rcSlot, h.slots.scSlot⟩

theorem RequestsKept.of_show (h : OnlyShow s t) : RequestsKept s t :=
  ⟨by rw [h.wli], by rw [h.wli], by rw [h.mc], by rw [h.mc]⟩

theorem handleHold_requests (args : List Byte) (s : State) : RequestsKept s (handleHold args s).next := by
  unfold handleHold
  split
  · exact .refl s
  · split
    · next h => exact .of_keeps (changeMode_keeps _ _ s (by simp [h]) (by simp [h]))
    · next h => exact .of_keeps (changeMode_keeps _ _ s (by simp [h]) (by simp [h]))
    all_goals exact .refl s

theorem handleResume_requests (args : List Byte) (h : s.mc.mode = .hold) :
    RequestsKept s (handleResume args s).next := by
  have resumed (new : Mode) (hn : new ≠ .halt) : Keeps s (changeMode new .none s) :=
    changeMode_keeps new .none s (by simp [h, hn]) (by simp [h])
  unfold handleResume
  repeat' split
  · exact .refl s
  · exact .refl s
  · exact .of_keeps (resumed .run nofun)
  · exact .of_keeps ((resumed .unload nofun).trans (evalBerth_keeps _))
  · exact .refl s

theorem handleStopNow_requests (args : List Byte) (s : State) : RequestsKept s (handleStopNow args s).next := by
  unfold handleStopNow
  split
  · exact .refl s
  · exact .of_keeps (takeFault_keeps ..)

theorem handleSync_requests (c : Capture) (args : List Byte) (s : State) :
    RequestsKept s (handleSync c args s).next := by
  have resynced (x : ShowClock) : RequestsKept s (resyncAll (s.setClock x)) := by
    obtain ⟨h1, h2, h3, h4⟩ := RequestsKept.of_show (resyncAll_only (s.setClock x))
    exact ⟨h1, h2, h3, h4⟩
  unfold handleSync
  dsimp only
  split
  · split
    · exact .refl s
    · rw [done_next]
      exact resynced _
  · exact .refl s

/-- The owner of a kind that group addressing takes: one handler, for a frame `f`, whatever state the frame is found in; the
show time that SYNC compares is the frame's own capture (R107). -/
theorem exec_byGroup (f : Frame) (hg : k.byGroup = true) :
    ∃ handle : Handler, (∀ (g : Frame) (rest : List Frame) (s : State), s.wli.queue = g :: rest → g.capture = f.capture →
        exec k.command s = requestRow k handle s) ∧
      ∀ args s, k.takenIn s.mc.mode = true → RequestsKept s (handle args s).next := by
  cases k with
  | hold => exact ⟨handleHold, fun _ _ _ _ _ => rfl, fun args s _ => handleHold_requests args s⟩
  | resume =>
    exact ⟨handleResume, fun _ _ _ _ _ => rfl,
      fun args s hm => handleResume_requests args (by simpa [Kind.takenIn] using hm)⟩
  | stopNow => exact ⟨handleStopNow, fun _ _ _ _ _ => rfl, fun args s _ => handleStopNow_requests args s⟩
  | announce => exact ⟨handleAnnounce, fun _ _ _ _ _ => rfl, fun args s _ => .of_show (handleAnnounce_only args s)⟩
  | voiceStart =>
    exact ⟨handleVoiceStart, fun _ _ _ _ _ => rfl, fun args s _ => .of_show (handleVoiceStart_only args s)⟩
  | sync =>
    refine ⟨handleSync f.capture, fun g rest s hq hc => ?_, fun args s _ => handleSync_requests _ args s⟩
    have : headCapture s = f.capture := by simp [headCapture, hq, hc]
    exact congrArg (fun c => requestRow .sync (handleSync c) s) this
  | _ => simp [Kind.byGroup] at hg

/-- A group frame of a known kind, outside start-up: the requests, the responses and the slots are as they were but for the
frame itself (R19). -/
theorem exec_called_requests (h : Called k f rest s) :
    ∃ t, exec k.command s = .next t ∧ RequestsKept (s.setWli { s.wli with queue := rest }) t := by
  by_cases hg : k.byGroup = true ∧ k.source f.args = some f.source
  · obtain ⟨handle, hrow, hkept⟩ := exec_byGroup f hg.1
    refine ⟨_, hrow f rest s h.queue rfl, ?_⟩
    rw [takeRequest_called h]
    cases hm : k.takenIn (s.setWli { s.wli with queue := rest }).mc.mode
    · rw [takeGroup_drops hg.1 hg.2 hm]
      exact .refl _
    · rw [takeGroup_acts hg.1 hg.2 hm]
      split
      · exact hkept _ _ hm
      · exact .refl _
  · obtain ⟨handle, he⟩ := exec_command k s
    refine ⟨_, he, ?_⟩
    rw [takeRequest_called h, takeGroup_discards hg]
    exact ⟨rfl, rfl, rfl, rfl⟩

/-- Settles O8: what is discarded or dropped, and one handler for the frame behind the group effect and the unicast answer. -/
theorem groupFramesAreNotAnswered : Obligations.GroupFramesAreNotAnswered := by
  refine ⟨fun k f rest s h => ⟨?_, fun hn => ?_, fun hg ho hm => ?_⟩, fun f rest s hq ha hs hk => ?_,
    fun k f hg ho => ?_, fun f rest s hq ha hs => ⟨fun k hk => ?_, fun hk => ?_⟩⟩
  · obtain ⟨t, he, ht⟩ := exec_called_requests h
    exact ⟨t, he, ht.queue, ht.outgoing, ht.rcSlot, ht.scSlot⟩
  · obtain ⟨handle, he⟩ := exec_command k s
    rw [he, takeRequest_called h, takeGroup_discards hn]
    rfl
  · obtain ⟨handle, he⟩ := exec_command k s
    rw [he, takeRequest_called h, takeGroup_drops (s := s.setWli { s.wli with queue := rest }) hg ho hm]
    rfl
  · refine congrArg Host.Outcome.next ((takeRequest_shared hq (Kind.ofCode_none hk) ha).trans ?_)
    rw [startingUp_false hs]
    rfl
  · obtain ⟨handle, hrow, -⟩ := exec_byGroup f hg
    refine ⟨handle f.args, fun rest s u h hm hu => ?_, fun rest s u h hu => ?_⟩
    · subst hu
      rw [hrow f rest s h.queue rfl, requestRow, takeRequest_called h,
        takeGroup_acts (s := s.setWli { s.wli with queue := rest }) hg ho hm]
      simp only [accepted_iff]
      rfl
    · subst hu
      have answer := requestRow_admitted (handle := handle) h rfl
      rw [hrow _ rest s h.queue rfl]
      exact answer
  · obtain ⟨handle, he⟩ := exec_command k s
    rw [he, takeRequest_shared hq (Kind.ofCode_eq hk) ha, if_pos (by simp [startingUp, hs])]
    rfl
  · refine congrArg Host.Outcome.next ((takeRequest_shared hq (Kind.ofCode_none hk) ha).trans ?_)
    rw [if_pos (by simp [startingUp, hs])]
    rfl

/-! ## PREFACE (R20, R21) -/

theorem handlePreface_names {c b : Byte} (h : c.toNat = k.code) :
    handlePreface [c, b] s =
      if k.isProtected then done [] (modMc s fun m => { m with rcSlot := some ⟨k, b, s.localMs⟩ })
      else refuse .argument s := by
  simp only [handlePreface, Kind.ofCode_eq h]

theorem handlePreface_malformed {args : List Byte} (h : args.length ≠ 2 ∨ ∀ k : Kind, k.code ≠ (args.headD 0).toNat) :
    handlePreface args s = refuse .argument s := by
  unfold handlePreface
  split
  · next c b =>
    have hk := h.resolve_left (by simp)
    simp [Kind.ofCode_none (b := c) (by simpa using hk)]
  · rfl

/-- PREFACE is a request of RC (R17). -/
theorem admitted_preface_source (h : Admitted .preface f rest s) : f.source = .rc :=
  (Option.some.inj h.authority).symm

theorem prefaceLapsed_some {src : Source} {p : Preface} (h : prefaceSlot s.mc src = some p) :
    prefaceLapsed s src = decide (p.time + 500 ≤ s.localMs) := by simp [prefaceLapsed, h]

/-- PREFACE_LAPSE empties the slot of its source once it has stood for 500 ms. -/
theorem exec_prefaceLapse {src : Source} {p : Preface} (h : prefaceSlot s.mc src = some p) :
    exec (.prefaceLapse src) s =
      .next (if p.time + 500 ≤ s.localMs then s.setMc (s.mc.setSlot src none) else s) := by
  refine congrArg Host.Outcome.next ?_
  simp only [prefaceLapsed_some h, decide_eq_true_eq, modMc_eq]

theorem exec_prefaceLapse_empty {src : Source} (h : prefaceSlot s.mc src = none) :
    exec (.prefaceLapse src) s = .next s := by
  refine congrArg Host.Outcome.next ?_
  simp [prefaceLapsed, h]

/-- Settles O22: the two forms of PREFACE by its arguments, PREFACE_LAPSE by the slot of its source. -/
theorem prefaceFillsAndLapses : Obligations.PrefaceFillsAndLapses := by
  refine ⟨fun f rest s k c b h hargs hc => ?_, fun f rest s h hargs => ?_, fun s p h => exec_prefaceLapse (src := .rc) h,
    fun s p h => exec_prefaceLapse (src := .sc) h, fun s h => exec_prefaceLapse_empty (src := .rc) h,
    fun s h => exec_prefaceLapse_empty (src := .sc) h⟩
  · have named := handlePreface_names (s := taken s f rest) (b := b) hc
    rw [← hargs] at named
    refine (requestRow_admitted h named).trans ?_
    split
    · simp only [done, modMc_eq, taken_mc, admitted_preface_source h]
      rfl
    · rfl
  · exact requestRow_admitted h (handlePreface_malformed hargs)

end Sys2Proof.Machine
end

section
/-! PROOF. O3 and O56: the state after a hardware reset, block by block, and the kept conditions in it. -/

namespace Sys2Proof.Machine

/-! ## The reset values (R1 and each block's reset rule) -/

/-- Every seat is DISABLED with its timers and latches clear (R62). -/
theorem reset_seat (i : Fin 8) : State.reset.restraint.seats[i] = ⟨.disabled, 0, 0, 0, 2000, Latches.clear⟩ :=
  Vector.getElem_replicate ..

theorem reset_seatState (i : Fin 8) : seatState State.reset i = .disabled := by
  rw [seatState, reset_seat]

theorem reset_density (g : Fin 3) : State.reset.density[g] = ⟨false, 0, 32768, false⟩ := Vector.getElem_replicate ..

/-- A hardware reset takes every block but the store and the waiting commands from `State.reset`. -/
theorem hardwareReset_restraint (s : State) : (hardwareReset s).restraint = State.reset.restraint := rfl
theorem hardwareReset_density (s : State) : (hardwareReset s).density = State.reset.density := rfl

/-- The store's contents stay when no operation was in flight (log 33). -/
theorem hardwareReset_contents {s : State} (h : s.store.activity = .idle ∨ s.store.activity = .restoring) :
    (hardwareReset s).store.memory = s.store.memory ∧ (hardwareReset s).store.image = s.store.image := by
  rcases h with h | h <;> simp [hardwareReset, h, tornMemory, tornImage]

/-- Settles O3: each block of the reset state, and the store by the operation that was in flight. -/
theorem hardwareResetGivesResetValues : Obligations.HardwareResetGivesResetValues := by
  intro s
  refine ⟨hardwareReset s, rfl, rfl, rfl, rfl, rfl, rfl, rfl, rfl, rfl, fun i => ?_, rfl, rfl, rfl, rfl, rfl, rfl, rfl,
    fun g => ?_, rfl, rfl, rfl, rfl, rfl, rfl, hardwareReset_contents⟩
  · rw [hardwareReset_restraint]
    exact reset_seat i
  · rw [hardwareReset_density]
    exact reset_density g

/-! ## The kept conditions at reset -/

theorem reset_queuesBounded : QueuesBounded State.reset := ⟨by decide, by decide, by decide, by decide, by decide⟩

theorem reset_steeringHeld : SteeringHeld State.reset :=
  ⟨Nat.zero_le _, fun _ => ⟨rfl, rfl⟩, fun _ => rfl, fun _ => rfl⟩

/-- No seat is RELEASING, and none waits for a solenoid or drives one. -/
theorem reset_releaseHeld : ReleaseHeld State.reset where
  distinct := List.nodup_nil
  budget := Nat.zero_le _
  filled := fun h => absurd rfl h
  allowed := fun h => (h.elim (absurd rfl) (absurd rfl))
  releasing := fun i => by
    rw [reset_seatState]
    exact ⟨fun h => (h.elim nofun nofun), nofun⟩
  still := fun _ _ => .inr rfl
  startUp := fun _ => ⟨rfl, rfl⟩

/-- Start-up has not completed, so the permit is EMERGENCY (R154). -/
theorem reset_levelHeld : LevelHeld State.reset := ⟨fun _ => rfl, nofun⟩

theorem reset_clockInRange : ClockInRange State.reset.clock := ⟨by decide, by decide, by decide, by decide, by decide⟩

/-- Settles O56: the reset state meets each kept condition. -/
theorem invariantsHoldAtReset : Obligations.InvariantsHoldAtReset :=
  ⟨State.reset_memory_wf, reset_queuesBounded, reset_haltRecorded, reset_steeringHeld, reset_releaseHeld, reset_berthHeld,
    reset_levelHeld, reset_clockInRange⟩

end Sys2Proof.Machine
end

section
/-! PROOF. Mode changes block by block, for the requests of the Mode Controller: what the Cue and Sound Engines and the steering
hold after one (R44, R97, R129), and whether a release in progress goes on through it or ends (R79). -/

namespace Sys2Proof.Machine

variable {s t u : State} {new : Mode} {held : HeldFrom}

/-! ## The show and the steering -/

/-- No scene is entered again but by DISPATCH (R97). -/
theorem dispatchScene_idle {old : Mode} (h : ¬(old = .ready ∧ s.mc.mode = .run)) : dispatchScene old s = s :=
  if_neg fun hc => h ⟨hc.1, hc.2.1⟩

theorem enterMode_mode (new : Mode) (held : HeldFrom) (s : State) : (enterMode new held s).mc.mode = new := by
  rw [enterMode_mc]
  rfl

theorem soundModeChange_sound_congr (old new : Mode) (hs : t.sound = s.sound) (hp : t.params = s.params)
    (ht : t.tables = s.tables) (hst : t.store = s.store) :
    (soundModeChange old new t).sound = (soundModeChange old new s).sound := by
  have hclip : holdClipStart t = holdClipStart s := by
    unfold holdClipStart findClip storeIdle
    rw [hp, ht, hst]
  have hhold : (soundEnterHold t).sound = (soundEnterHold s).sound := by
    unfold soundEnterHold
    rw [hclip, hs, hp]
    split <;> rfl
  have hresume : (soundResume t).sound = (soundResume s).sound := by
    simp only [soundResume, stopVoice, putVoice, voiceAt, State.setSound_sound, State.setSound_params, hs, hp]
  have hsilence : (soundSilence t).sound = (soundSilence s).sound := by
    simp only [soundSilence, State.setSound_sound, hs]
  unfold soundModeChange
  split
  · exact hhold
  · exact hsilence
  · exact hsilence
  · split <;> assumption
  · split <;> assumption
  · exact hs
  · exact hs

theorem tellBlocks_sound (old new : Mode) (s : State) :
    (tellBlocks old new s).sound = (soundModeChange old new s).sound := by
  unfold tellBlocks
  dsimp only
  split_ifs <;>
    exact soundModeChange_sound_congr old new (by simp [steeringReact, handCode, densityStart, densityStop])
      (by simp [steeringReact, handCode, densityStart, densityStop])
      (by simp [steeringReact, handCode, densityStart, densityStop])
      (by simp [steeringReact, handCode, densityStart, densityStop])

/-- A mode change but DISPATCH leaves the scene re-entry out. -/
theorem enterMode_undispatched (h : ¬(s.mc.mode = .ready ∧ new = .run)) :
    enterMode new held s = releaseAtModeChange s.mc.mode
      (formCeilings (refreshPermit (tellBlocks s.mc.mode new (modMc s (ModeController.enter new held))))) :=
  dispatchScene_idle (by simpa [ModeController.enter] using h)

theorem enterMode_sound (h : ¬(s.mc.mode = .ready ∧ new = .run)) :
    (enterMode new held s).sound = (soundModeChange s.mc.mode new s).sound := by
  rw [enterMode_undispatched h]
  simp only [releaseAtModeChange_sound, formCeilings_sound, refreshPermit_sound, tellBlocks_sound]
  exact soundModeChange_sound_congr _ _ rfl rfl rfl rfl

theorem enterMode_cues (h : ¬(s.mc.mode = .ready ∧ new = .run)) :
    (enterMode new held s).cues = cuesModeChange new s.cues := by
  rw [enterMode_undispatched h]
  simp only [releaseAtModeChange_cues, formCeilings_cues, refreshPermit_cues, tellBlocks_cues]
  rfl

/-- GO_ONLINE takes the steering to TRACKING with a first update pending, from the time it comes (R44). -/
theorem enterMode_online_steering (ho : s.mc.mode = .offline) (hn : new ≠ .offline) :
    (enterMode new held s).steering.state = .tracking ∧ (enterMode new held s).steering.firstPending = true ∧
      (enterMode new held s).steering.reference = s.localMs := by
  have ht : (tellBlocks s.mc.mode new (modMc s (ModeController.enter new held))).steering =
      s.steering.track s.localMs := by
    unfold tellBlocks
    simp [ho, hn, Mode.online, densityStart]
  simp only [enterMode, dispatchScene_steering, releaseAtModeChange_steering, formCeilings_steering]
  rw [refreshPermit_steering, ht]
  exact ⟨rfl, rfl, rfl⟩

/-! ## Whether a release goes on: the permit (R79) -/

/-- The release condition reads the Mode Controller, the permit level and the stationary condition alone. -/
theorem releaseCondition_congr (hm : t.mc = s.mc) (hl : t.permit.level.still = s.permit.level.still)
    (hp : t.permit.stationary = s.permit.stationary) : releaseCondition t = releaseCondition s := by
  simp only [releaseCondition, hm, hl, hp]

/-- A release in HALT needs the vehicle stationary. -/
theorem releaseCondition_moving (hm : s.mc.mode = .halt) (hs : s.permit.stationary = false) :
    releaseCondition s = false := by simp [releaseCondition, hm, hs]

theorem judgeRelease_goes (h : releaseInProgress s = true → releaseCondition s = true) : judgeRelease s = s :=
  if_neg fun hc => by
    rw [h hc.1] at hc
    exact absurd hc.2 nofun

/-- OFFLINE, HOLD and HALT keep the permit at STOP or EMERGENCY (R3, R155). -/
theorem permitLevelOf_still (h : s.mc.mode = .offline ∨ s.mc.mode = .hold ∨ s.mc.mode = .halt) :
    (permitLevelOf s).still = true := by
  rw [still_iff]
  by_cases he : s.mc.mode = .halt ∨ s.terminals.filtered[(25 : Fin 27)] = true
  · exact .inr (permitLevelOf_formed.emergency he)
  · have hh : s.mc.mode ≠ .halt := fun hm => he (.inl hm)
    have hstop : s.terminals.filtered[(25 : Fin 27)] = false := Bool.eq_false_iff.2 fun ht => he (.inr ht)
    refine .inl (permitLevelOf_formed.stop hh hstop (.inl ?_))
    rcases h with h | h | h
    · exact .inl h
    · exact .inr (.inr (.inl h))
    · exact absurd h hh

theorem refreshPermit_restraint_goes
    (h : releaseInProgress s = true →
      releaseCondition (s.setPermit { s.permit with level := permitLevelOf s }) = true) :
    (refreshPermit s).restraint = s.restraint := by
  unfold refreshPermit
  dsimp only
  split
  · rfl
  · rw [judgeRelease_goes]
    · rfl
    · exact h

theorem judgeRelease_restraint_cases (s : State) :
    (judgeRelease s).restraint = s.restraint ∨ (judgeRelease s).restraint = (endRelease s).restraint := by
  unfold judgeRelease
  split
  · exact .inr rfl
  · exact .inl rfl

/-- Forming the permit leaves a release as it is, or ends it. -/
theorem refreshPermit_restraint_cases (s : State) :
    (refreshPermit s).restraint = s.restraint ∨ (refreshPermit s).restraint = (endRelease s).restraint := by
  unfold refreshPermit
  dsimp only
  split
  · exact .inl rfl
  · exact judgeRelease_restraint_cases _

/-! ## Whether a release goes on: mode changes (R79) -/

theorem endRelease_restraint_congr (hr : t.restraint = s.restraint) (ht : t.terminals = s.terminals) :
    (endRelease t).restraint = (endRelease s).restraint := by
  have hpending : releasePending t = releasePending s := by
    funext i
    simp only [releasePending, hr]
  have hpicture : picture t = picture s := by
    funext i
    simp only [picture, ht]
  simp only [endRelease, modRestraint_eq, State.setRestraint_restraint, hpending, hpicture, hr]

theorem endRelease_over (s : State) : releaseInProgress (endRelease s) = false := rfl

theorem ReleaseEnded.of_restraint (h : t.restraint = (endRelease s).restraint) : ReleaseEnded s t := by
  obtain ⟨h1, h2, h3, h4, h5⟩ := endRelease_ended s
  exact ⟨by rw [h]; exact h1, by rw [h]; exact h2, by rw [h]; exact h3, by rw [h]; exact h4, by rw [h]; exact h5⟩

theorem tellBlocks_entered (new : Mode) (held : HeldFrom) (s : State) :
    (tellBlocks s.mc.mode new (modMc s (ModeController.enter new held))).restraint = s.restraint := by
  rw [tellBlocks_restraint]
  rfl

/-- A mode change out of an online mode, to OFFLINE, HOLD or HALT, leaves a release alone whose condition the new mode meets. -/
theorem enterMode_restraint_goes (hc : s.startUp.phase = .complete) (ho : s.mc.mode ≠ .offline)
    (hn : new = .offline ∨ new = .hold ∨ new = .halt)
    (h : releaseInProgress s = true →
      releaseCondition ((s.setMc (s.mc.enter new held)).setPermit { s.permit with level := .stop }) = true) :
    (enterMode new held s).restraint = s.restraint := by
  obtain ⟨v, hv⟩ : ∃ v, v = tellBlocks s.mc.mode new (modMc s (ModeController.enter new held)) := ⟨_, rfl⟩
  have hmc : v.mc = s.mc.enter new held := by rw [hv, tellBlocks_mc]; rfl
  have hrest : v.restraint = s.restraint := by rw [hv, tellBlocks_entered]
  have hstationary : v.permit.stationary = s.permit.stationary := by rw [hv, tellBlocks_permit]; rfl
  have hphase : v.startUp.phase = .complete := by rw [hv, tellBlocks_startUp]; exact hc
  have hstill : (permitLevelOf v).still = true := permitLevelOf_still (by rw [hmc]; exact hn)
  have hprog := releaseInProgress_congr hrest
  have formed : (refreshPermit v).restraint = v.restraint := refreshPermit_restraint_goes fun hr => by
    rw [← h (hprog.symm.trans hr)]
    exact releaseCondition_congr hmc hstill hstationary
  have judged : judgeRelease (formCeilings (refreshPermit v)) = formCeilings (refreshPermit v) :=
    judgeRelease_goes fun hr => by
      have hr' := (releaseInProgress_congr ((formCeilings_restraint _).trans formed)).symm.trans hr
      rw [← h (hprog.symm.trans hr')]
      refine releaseCondition_congr (by rw [formCeilings_mc, refreshPermit_mc, hmc]; rfl) ?_ ?_
      · exact (congrArg PermitLevel.still (refreshPermit_level hphase)).trans hstill
      · exact (refreshPermit_formed v).stationary.trans hstationary
  unfold enterMode
  dsimp only
  rw [dispatchScene_restraint, ← hv]
  unfold releaseAtModeChange
  rw [if_neg (fun hcn => ho hcn.1), judged, formCeilings_restraint, formed, hrest]

/-- A mode change out of OFFLINE ends a release, and so does one to HALT while the vehicle moves. -/
theorem enterMode_restraint_ended (hp : releaseInProgress s = true)
    (h : s.mc.mode = .offline ∨ (new = .halt ∧ s.permit.stationary = false)) :
    (enterMode new held s).restraint = (endRelease s).restraint := by
  obtain ⟨v, hv⟩ : ∃ v, v = tellBlocks s.mc.mode new (modMc s (ModeController.enter new held)) := ⟨_, rfl⟩
  have hrest : v.restraint = s.restraint := by rw [hv, tellBlocks_entered]
  have hterm : v.terminals = s.terminals := by rw [hv, tellBlocks_terminals]; rfl
  have ended : (endRelease v).restraint = (endRelease s).restraint := endRelease_restraint_congr hrest hterm
  have judged (w : State) (hw : w.restraint = s.restraint) (ht : w.terminals = s.terminals)
      (hc : s.mc.mode = .offline ∨ releaseCondition w = false) :
      (releaseAtModeChange s.mc.mode w).restraint = (endRelease s).restraint := by
    have hr : releaseInProgress w = true := (releaseInProgress_congr hw).trans hp
    unfold releaseAtModeChange
    split
    · exact endRelease_restraint_congr hw ht
    · next hn =>
      have hc : releaseCondition w = false := hc.resolve_left fun ho => hn ⟨ho, hr⟩
      rw [judgeRelease, if_pos ⟨hr, hc⟩]
      exact endRelease_restraint_congr hw ht
  unfold enterMode
  dsimp only
  rw [dispatchScene_restraint, ← hv]
  rcases refreshPermit_restraint_cases v with hf | hf
  · refine judged _ ((formCeilings_restraint _).trans (hf.trans hrest)) ?_ (h.imp id fun ⟨hn, hst⟩ => ?_)
    · rw [formCeilings_terminals, refreshPermit_terminals, hterm]
    · have hm : (formCeilings (refreshPermit v)).mc.mode = .halt := by
        rw [formCeilings_mc, refreshPermit_mc, hv, tellBlocks_mc, ← hn]
        rfl
      have hs : (formCeilings (refreshPermit v)).permit.stationary = false := by
        refine (refreshPermit_formed v).stationary.trans ?_
        rw [hv, tellBlocks_permit]
        exact hst
      exact releaseCondition_moving hm hs
  · have hr : (formCeilings (refreshPermit v)).restraint = (endRelease s).restraint :=
      (formCeilings_restraint _).trans (hf.trans ended)
    have hover : releaseInProgress (formCeilings (refreshPermit v)) = false :=
      (releaseInProgress_congr hr).trans (endRelease_over s)
    unfold releaseAtModeChange
    rw [if_neg (fun hc => by rw [hover] at hc; exact absurd hc.2 nofun), judgeRelease_idle hover, hr]

/-! ## Faults, RC silence and READY beside a release -/

theorem raiseFault_idle (k : FaultKind) (sub : SubCause) (d : Nat) (h : releaseInProgress s = false) :
    (raiseFault k sub d s).restraint = s.restraint := by
  unfold raiseFault
  dsimp only
  split
  · rfl
  · rfl
  all_goals exact (enterMode_idle _ _ (s := recordFault k sub d s) h).trans (recordFault_restraint ..)

theorem rcCheck_idle (h : releaseInProgress s = false) : (rcCheck s).restraint = s.restraint := by
  unfold rcCheck
  split
  · exact raiseFault_idle _ _ _ (s := modWli s fun w => { w with rcReported := true }) h
  · rfl

theorem changeMode_idle (new : Mode) (held : HeldFrom) (h : releaseInProgress s = false) :
    (changeMode new held s).restraint = s.restraint := by
  have entered := enterMode_idle new held h
  exact (rcCheck_idle ((releaseInProgress_congr entered).trans h)).trans entered

theorem evalReady_idle (h : releaseInProgress s = false) : (evalReady s).restraint = s.restraint := by
  unfold evalReady
  split
  · split
    · exact changeMode_idle _ _ h
    · rfl
  · split
    · rfl
    · exact changeMode_idle _ _ h
  all_goals rfl

/-- A fault in an online mode leaves a release alone while the vehicle is stationary (R79). -/
theorem raiseFault_goes (k : FaultKind) (sub : SubCause) (d : Nat) (hc : s.startUp.phase = .complete)
    (h : releaseInProgress s = true → s.permit.stationary = true) : (raiseFault k sub d s).restraint = s.restraint := by
  have entered (ho : s.mc.mode ≠ .offline) (held : HeldFrom) :
      (enterMode .halt held (recordFault k sub d s)).restraint = s.restraint := by
    refine (enterMode_restraint_goes (s := recordFault k sub d s) hc ho (.inr (.inr rfl)) fun hr => ?_).trans
      (recordFault_restraint ..)
    simpa [releaseCondition, ModeController.enter, PermitLevel.still, recordFault_stationary] using h hr
  unfold raiseFault
  dsimp only
  split
  · rfl
  · rfl
  all_goals next hm => exact entered (by rw [hm]; exact nofun) _

theorem rcCheck_goes (hc : s.startUp.phase = .complete)
    (h : releaseInProgress s = true → s.permit.stationary = true) : (rcCheck s).restraint = s.restraint := by
  unfold rcCheck
  split
  · exact raiseFault_goes _ _ _ (s := modWli s fun w => { w with rcReported := true }) hc h
  · rfl

theorem raiseFault_stationary (k : FaultKind) (sub : SubCause) (d : Nat) (s : State) :
    (raiseFault k sub d s).permit.stationary = s.permit.stationary := by
  unfold raiseFault
  dsimp only
  split
  · exact recordFault_stationary ..
  · exact recordFault_stationary ..
  all_goals exact (enterMode_formed ..).stationary.trans (recordFault_stationary ..)

theorem takeFault_goes (k : FaultKind) (sub : SubCause) (d : Nat) (hc : s.startUp.phase = .complete)
    (h : releaseInProgress s = true → s.permit.stationary = true) : (takeFault k sub d s).restraint = s.restraint := by
  have raised := raiseFault_goes k sub d hc h
  unfold takeFault
  dsimp only
  split
  · exact raised
  · refine (rcCheck_goes ?_ fun hr => ?_).trans raised
    · rw [(raiseFault_keeps k sub d s).startUp]
      exact hc
    · rw [raiseFault_stationary]
      exact h ((releaseInProgress_congr raised).symm.trans hr)

/-- A fault met in HALT is a record alone (R14). -/
theorem raiseFault_halt_restraint (k : FaultKind) (sub : SubCause) (d : Nat) (h : s.mc.mode = .halt) :
    (raiseFault k sub d s).restraint = s.restraint := by
  unfold raiseFault
  simp [h, steeringReact]

theorem rcCheck_halt_restraint (h : s.mc.mode = .halt) : (rcCheck s).restraint = s.restraint := by
  unfold rcCheck
  split
  · exact raiseFault_halt_restraint _ _ _ (s := modWli s fun w => { w with rcReported := true }) h
  · rfl

/-- In HALT, RC silence moves neither voices nor cues. -/
theorem rcCheck_halt_sound (h : s.mc.mode = .halt) : (rcCheck s).sound = s.sound := by
  unfold rcCheck
  split
  · unfold raiseFault
    simp [h, steeringReact]
  · rfl

end Sys2Proof.Machine
end

section
/-! PROOF. O16: GO_OFFLINE (R6), a mode change once the faults are cleared. -/

namespace Sys2Proof.Machine

variable {s t : State} {k : Kind} {f : Frame} {rest : List Frame} {handle : Handler}

/-- An admitted request, by what its owner answers to the arguments. -/
theorem requestRow_answers {args : List Byte} {st : Status} {data : List Byte} (h : Admitted k f rest s)
    (hargs : f.args = args) (hA : handle args (taken s f rest) = ⟨st, data, t⟩) :
    requestRow k handle s = .next (answered f st data t) :=
  requestRow_admitted (A := ⟨st, data, t⟩) h (by rw [hargs]; exact hA)

/-- Entry into HALT or OFFLINE silences V0 to V4 and leaves V5 (R132). -/
theorem soundSilence_voice (s : State) (v : Fin 6) :
    (soundSilence s).sound.voices[v] = if v = 5 then s.sound.voices[v] else none :=
  Vector.getElem_ofFn ..

/-- The generators at entry into OFFLINE: stopped, and T32 to T39 with the input code 32768 (R59, R150). -/
theorem offline_density (s : State) :
    ((densityStop (handCode s 0 32768)).density[(0 : Fin 3)]).code = 32768 ∧
      ∀ g : Fin 3, ((densityStop (handCode s 0 32768)).density[g]).running = false ∧
        ((densityStop (handCode s 0 32768)).density[g]).bit = false := by
  constructor
  · simp [densityStop, handCode, Density.stop]
  · intro g
    simp [densityStop, Density.stop]

/-- The Cue Engine at entry into OFFLINE (R101, R103). -/
theorem offline_channel (e : CueEngine) (c : Fin 12) : (cuesModeChange .offline e).channels[c] = .off :=
  Vector.getElem_replicate ..

/-- What GO_OFFLINE makes of the faults and the RC speed limit before its mode change (R6). -/
def faultsRested (s : State) : State := modPermit (clearFaults s) fun u => { u with rcLimit := 3000 }

theorem goOffline_eq (s : State) : goOffline s = enterMode .offline .none (faultsRested s) := changeMode_offline ..

theorem goOffline_ground (s : State) : SameGround s (goOffline s) := by
  have rested : SameGround s (faultsRested s) := ⟨rfl, rfl, rfl, rfl, rfl, rfl, rfl, rfl, rfl, rfl⟩
  rw [goOffline_eq]
  exact rested.trans (enterMode_ground ..)

theorem goOffline_mc (s : State) : (goOffline s).mc = s.mc.enter .offline .none := by
  rw [goOffline_eq, enterMode_mc]
  rfl

theorem goOffline_formed (s : State) : PermitFormed (faultsRested s).permit (goOffline s).permit := by
  rw [goOffline_eq]
  exact enterMode_formed ..

theorem goOffline_tracker (s : State) : (goOffline s).tracker = s.tracker := by
  rw [goOffline_eq, enterMode_tracker, if_neg (fun h => h.2 rfl), if_neg nofun]
  rfl

theorem goOffline_steering (s : State) : (goOffline s).steering.state = .idle ∧ (goOffline s).steering.y = 0 := by
  obtain ⟨hstate, hy⟩ := enterMode_steering .offline .none (faultsRested s)
  rw [goOffline_eq, hstate, hy]
  simp

theorem goOffline_density (s : State) : (goOffline s).density = (densityStop (handCode s 0 32768)).density := by
  rw [goOffline_eq, enterMode_density, if_neg (fun h => h.2 rfl), if_pos rfl]
  rfl

theorem goOffline_cues (s : State) : (goOffline s).cues = cuesModeChange .offline s.cues := by
  rw [goOffline_eq, enterMode_cues (by simp)]
  rfl

theorem goOffline_sound (s : State) : (goOffline s).sound = (soundSilence s).sound := by
  rw [goOffline_eq, enterMode_sound (by simp)]
  rfl

/-- A release goes on through GO_OFFLINE (R79). -/
theorem goOffline_restraint (hc : s.startUp.phase = .complete) (ho : s.mc.mode ≠ .offline) :
    (goOffline s).restraint = s.restraint := by
  rw [goOffline_eq]
  refine enterMode_restraint_goes (s := faultsRested s) hc ho (.inl rfl) fun _ => ?_
  simp [releaseCondition, ModeController.enter, PermitLevel.still]

theorem handleGoOffline_offline (h : s.mc.mode = .offline) : handleGoOffline [] s = done [] s := by
  simp [handleGoOffline, h]

theorem handleGoOffline_moving (ho : s.mc.mode ≠ .offline) (h : s.permit.stationary = false) :
    handleGoOffline [] s = refuse .mode s := by simp [handleGoOffline, ho, h]

theorem handleGoOffline_stationary (ho : s.mc.mode ≠ .offline) (h : s.permit.stationary = true) :
    handleGoOffline [] s = done [] (goOffline s) := by simp [handleGoOffline, ho, h]

/-- Settles O16: GO_OFFLINE is one mode change after the faults are cleared. -/
theorem goOfflineRests : Obligations.GoOfflineRests := by
  intro f rest s h hargs
  have hmode : (taken s f rest).mc.mode = s.mc.mode := taken_mode
  refine ⟨fun hm => ?_, fun hm hs => ?_, fun hm hs => ⟨goOffline (taken s f rest), ?_, goOffline_ground _, ?_⟩⟩
  · exact requestRow_answers h hargs (handleGoOffline_offline (hmode.trans hm))
  · exact requestRow_answers h hargs (handleGoOffline_moving (hmode ▸ hm) hs)
  · exact requestRow_answers h hargs (handleGoOffline_stationary (hmode ▸ hm) hs)
  · have formed := goOffline_formed (taken s f rest)
    have hmc := goOffline_mc (taken s f rest)
    have hcues := goOffline_cues (taken s f rest)
    obtain ⟨hstate, hy⟩ := goOffline_steering (taken s f rest)
    obtain ⟨hcode, hgenerators⟩ := offline_density (taken s f rest)
    rw [← goOffline_density] at hcode hgenerators
    refine ⟨by rw [hmc]; rfl, by rw [hmc]; rfl, by rw [hmc]; rfl, by rw [hmc]; rfl, ?_, formed.active, formed.first,
      formed.rcLimit, formed.log, goOffline_tracker _, hstate, hy, hcode, hgenerators, fun c => ?_, by rw [hcues]; rfl,
      by rw [hcues]; rfl, by rw [hcues]; rfl, goOffline_restraint h.running (hmode ▸ hm), fun v => ?_⟩
    · rw [hmc]
      exact taken_dispatchCount
    · rw [hcues]
      exact offline_channel _ c
    · rw [goOffline_sound]
      exact soundSilence_voice _ v

end Sys2Proof.Machine
end

section
/-! PROOF. O17: DISPATCH (R8). -/

namespace Sys2Proof.Machine

variable {s : State} {f : Frame} {rest : List Frame}

/-- A mode change, with the RC silence that it may find, leaves the ground alone. -/
theorem changeMode_ground (new : Mode) (held : HeldFrom) (s : State) : SameGround s (changeMode new held s) :=
  (enterMode_ground new held s).trans (rcCheck_keeps _).toSameGround

theorem changeMode_tracker (new : Mode) (held : HeldFrom) (s : State) :
    (changeMode new held s).tracker = (enterMode new held s).tracker := rcCheck_tracker _

theorem changeMode_slots (new : Mode) (held : HeldFrom) (s : State) : SlotsKept s.mc (changeMode new held s).mc := by
  have entered : SlotsKept s.mc (enterMode new held s).mc := by
    rw [enterMode_mc]
    exact ⟨rfl, rfl, rfl, rfl⟩
  exact entered.trans (rcCheck_keeps _).slots

/-- DISPATCH counts and then changes the mode (R8). -/
def counted (s : State) : State := modMc s fun m => { m with dispatchCount := (s.mc.dispatchCount + 1) % 65536 }

theorem handleDispatch_pending (h : s.restraint.summary = true) : handleDispatch [] s = refuse .pending s := by
  simp [handleDispatch, h]

theorem handleDispatch_clear (h : s.restraint.summary = false) :
    handleDispatch [] s = done (be2 ((s.mc.dispatchCount + 1) % 65536)) (changeMode .run .none (counted s)) := by
  simp [handleDispatch, h, counted]

theorem dispatched_tracker (h : s.mc.mode = .ready) :
    (changeMode .run .none (counted s)).tracker = { s.tracker with highWater := s.tracker.p } := by
  have hm : (counted s).mc.mode = .ready := h
  rw [changeMode_tracker, enterMode_tracker, hm, if_neg nofun, if_pos ⟨rfl, rfl⟩]
  rfl

/-- Settles O17: the count and one mode change from READY into RUN. -/
theorem dispatchStartsRun : Obligations.DispatchStartsRun := by
  intro f rest s h hargs
  have hready : (taken s f rest).mc.mode = .ready := by
    rw [taken_mode]
    simpa [Kind.takenIn] using h.mode
  have count : (taken s f rest).mc.dispatchCount = s.mc.dispatchCount := taken_dispatchCount
  refine ⟨fun hs => requestRow_answers h hargs (handleDispatch_pending hs), fun hs =>
    ⟨changeMode .run .none (counted (taken s f rest)), ?_, ?_, ?_, dispatched_tracker hready, fun hcalm => ?_⟩⟩
  · rw [← count]
    exact requestRow_answers h hargs (handleDispatch_clear hs)
  · exact SameGround.trans (t := counted (taken s f rest)) ⟨rfl, rfl, rfl, rfl, rfl, rfl, rfl, rfl, rfl, rfl⟩
      (changeMode_ground ..)
  · rw [(changeMode_slots ..).dispatchCount, ← count]
    rfl
  · rw [changeMode_calm (s := counted (taken s f rest)) (by decide) hcalm, enterMode_mc, (enterMode_formed ..).log]
    exact ⟨rfl, rfl, rfl, rfl, rfl, rfl⟩

end Sys2Proof.Machine
end

section
/-! PROOF. O15: GO_ONLINE (R5, R40, R164). -/

namespace Sys2Proof.Machine

variable {s : State} {f : Frame} {rest : List Frame}

/-- Entry into LOAD, the first part of GO_ONLINE. -/
def loadEntered (s : State) : State := enterMode .load .none s

/-- Entry into LOAD, with the fault that a standing ONBOARD_STOP then is (R164). -/
def stopJudged (s : State) : State :=
  if onboardStop s then raiseFault .onboardStop .none 0 (loadEntered s) else loadEntered s

theorem goOnline_eq (s : State) : goOnline s = evalReady (rcCheck (stopJudged s)) := by
  have hterminals : onboardStop (loadEntered s) = onboardStop s :=
    congrArg (fun x : Terminals => x.filtered[(25 : Fin 27)]) (enterMode_terminals ..)
  unfold stopJudged
  rw [← hterminals]
  rfl

theorem stopJudged_keeps (s : State) : Keeps (loadEntered s) (stopJudged s) :=
  .ite (raiseFault_keeps ..) (.refl _)

theorem goOnline_keeps (s : State) : Keeps (loadEntered s) (goOnline s) := by
  rw [goOnline_eq]
  exact (stopJudged_keeps s).trans ((rcCheck_keeps _).trans (evalReady_keeps _))

theorem goOnline_ground (s : State) : SameGround s (goOnline s) :=
  (enterMode_ground ..).trans (goOnline_keeps s).toSameGround

theorem goOnline_dispatchCount (s : State) : (goOnline s).mc.dispatchCount = s.mc.dispatchCount := by
  rw [(goOnline_keeps s).slots.dispatchCount, loadEntered, enterMode_mc]
  rfl

theorem stopJudged_tracker (s : State) : (stopJudged s).tracker = (loadEntered s).tracker := by
  unfold stopJudged
  split
  · exact raiseFault_tracker ..
  · rfl

theorem goOnline_tracker (h : s.mc.mode = .offline) : (goOnline s).tracker = s.tracker.goOnline := by
  rw [goOnline_eq, evalReady_tracker, rcCheck_tracker, stopJudged_tracker, loadEntered, enterMode_tracker,
    if_pos ⟨h, by decide⟩]

theorem goOnline_density (h : s.mc.mode = .offline) : (goOnline s).density = (densityStart s).density := by
  have judged : (stopJudged s).density = (loadEntered s).density := by
    unfold stopJudged
    split
    · exact raiseFault_density ..
    · rfl
  rw [goOnline_eq, evalReady_density, rcCheck_density, judged, loadEntered, enterMode_density, if_pos ⟨h, by decide⟩]

/-- The position is unconfirmed, so READY is not met (R7, R40). -/
theorem loadEntered_not_ready (h : s.mc.mode = .offline) : evalReady (loadEntered s) = loadEntered s := by
  have hposition : (loadEntered s).tracker.position = .unsync := by
    rw [loadEntered, enterMode_tracker, if_pos ⟨h, by decide⟩]
    rfl
  have hmode : (loadEntered s).mc.mode = .load := enterMode_mode ..
  simp [evalReady, hmode, readyConditions, hposition]

/-- GO_ONLINE while RC is heard and ONBOARD_STOP does not stand is entry into LOAD alone. -/
theorem goOnline_calm (h : s.mc.mode = .offline) (hstop : onboardStop s = false)
    (hcalm : ¬(s.wli.rcTimeout < s.wli.rcSilence ∧ s.wli.rcReported = false)) : goOnline s = loadEntered s := by
  have hwli : (loadEntered s).wli = s.wli := enterMode_reported _ _ s (by decide)
  have judged : stopJudged s = loadEntered s := if_neg (by rw [hstop]; decide)
  rw [goOnline_eq, judged, rcCheck_calm (by rw [hwli]; exact hcalm), loadEntered_not_ready h]

/-- GO_ONLINE leaves the seats as its entry into LOAD does, after which no release is in progress (R79). -/
theorem goOnline_restraint (h : releaseInProgress (loadEntered s) = false) :
    (goOnline s).restraint = (loadEntered s).restraint := by
  have judged : (stopJudged s).restraint = (loadEntered s).restraint := by
    unfold stopJudged
    split
    · exact raiseFault_idle _ _ _ h
    · rfl
  have hjudged := (releaseInProgress_congr judged).trans h
  have checked := rcCheck_idle hjudged
  have hchecked := (releaseInProgress_congr checked).trans hjudged
  rw [goOnline_eq, evalReady_idle hchecked, checked, judged]

theorem goOnline_restraint_ended (h : s.mc.mode = .offline) (hp : releaseInProgress s = true) :
    (goOnline s).restraint = (endRelease s).restraint := by
  have entered : (loadEntered s).restraint = (endRelease s).restraint := enterMode_restraint_ended hp (.inl h)
  exact (goOnline_restraint ((releaseInProgress_congr entered).trans (endRelease_over s))).trans entered

theorem goOnline_restraint_idle (hp : releaseInProgress s = false) : (goOnline s).restraint = s.restraint := by
  have entered : (loadEntered s).restraint = s.restraint := enterMode_idle _ _ hp
  exact (goOnline_restraint ((releaseInProgress_congr entered).trans hp)).trans entered

/-- A standing ONBOARD_STOP is a fault of the vehicle as it comes online (R164). -/
theorem goOnline_stopped (hstop : onboardStop s = true) :
    (goOnline s).mc.mode = .halt ∧ .onboardStop ∈ (goOnline s).permit.active := by
  have hmode : (loadEntered s).mc.mode = .load := enterMode_mode ..
  have judged : stopJudged s = raiseFault .onboardStop .none 0 (loadEntered s) := if_pos hstop
  have hhalt : (stopJudged s).mc.mode = .halt := by
    rw [judged, raiseFault_mc, hmode]
    rfl
  have hactive : .onboardStop ∈ (stopJudged s).permit.active := by
    rw [judged, (raiseFault_records _ _ _ (by rw [hmode]; decide)).2.1]
    exact mem_insertKind_self ..
  have hchecked : (rcCheck (stopJudged s)).mc.mode = .halt := by rw [rcCheck_halt_mc hhalt, hhalt]
  rw [goOnline_eq, evalReady_halted (.inl hchecked)]
  exact ⟨hchecked, rcCheck_active hactive (by rw [hhalt]; decide)⟩

/-! ## The conditions of R5 -/

/-- The four tables are VALID and the store is IDLE (R5). -/
def OnlineAllowed (s : State) : Prop :=
  s.tables.route.status = .valid ∧ s.tables.markers.status = .valid ∧ s.tables.cues.status = .valid ∧
    s.tables.clips.status = .valid ∧ s.store.activity = .idle

theorem unmetConditions_any : (unmetConditions s).any id = false ↔ OnlineAllowed s := by
  simp [unmetConditions, OnlineAllowed, storeIdle]

theorem handleGoOnline_allowed (h : OnlineAllowed s) : handleGoOnline [] s = done [] (goOnline s) := by
  simp [handleGoOnline, unmetConditions_any.2 h]

theorem handleGoOnline_unmet (h : ¬OnlineAllowed s) :
    handleGoOnline [] s = ⟨.mode, be1 (bits (unmetConditions s)), s⟩ := by
  have : (unmetConditions s).any id = true := by
    rw [← Bool.not_eq_false, unmetConditions_any]
    exact h
  simp [handleGoOnline, this]

theorem bits_five (a b c d e : Bool) :
    bits [a, b, c, d, e] = a.toNat + 2 * b.toNat + 4 * c.toNat + 8 * d.toNat + 16 * e.toNat := by
  simp only [bits, List.foldr_cons, List.foldr_nil]
  omega

theorem bits_unmetConditions (s : State) : bits (unmetConditions s) =
    (if s.tables.route.status = .valid then 0 else 1) + (if s.tables.markers.status = .valid then 0 else 2) +
      (if s.tables.cues.status = .valid then 0 else 4) + (if s.tables.clips.status = .valid then 0 else 8) +
      (if s.store.activity = .idle then 0 else 16) := by
  have unmet (x : LoadStatus) : (x != .valid).toNat = if x = .valid then 0 else 1 := by cases x <;> rfl
  have busy : (!storeIdle s).toNat = if s.store.activity = .idle then 0 else 1 := by
    unfold storeIdle
    cases s.store.activity <;> rfl
  rw [unmetConditions, bits_five, unmet, unmet, unmet, unmet, busy]
  simp only [mul_ite, mul_zero, mul_one]

/-- Settles O15: GO_ONLINE is entry into LOAD, then ONBOARD_STOP and RC silence; READY is not met while unconfirmed. -/
theorem goOnlineStartsLoad : Obligations.GoOnlineStartsLoad := by
  intro f rest s h hargs
  have hoffline : (taken s f rest).mc.mode = .offline := by
    rw [taken_mode]
    simpa [Kind.takenIn] using h.mode
  refine ⟨fun hallowed => ⟨goOnline (taken s f rest), requestRow_answers h hargs (handleGoOnline_allowed hallowed),
    goOnline_ground _, goOnline_tracker hoffline, fun g => ?_, ?_, fun hstop hcalm => ?_, fun hp => ?_, fun hq he => ?_,
    fun hstop => goOnline_stopped (s := taken s f rest) hstop⟩, fun hn => ?_⟩
  · rw [goOnline_density hoffline]
    exact Vector.getElem_ofFn ..
  · rw [goOnline_dispatchCount]
    exact taken_dispatchCount
  · rw [goOnline_calm (s := taken s f rest) hoffline hstop hcalm]
    obtain ⟨hstate, hfirst, href⟩ :=
      enterMode_online_steering (new := .load) (held := .none) hoffline (by decide)
    refine ⟨enterMode_mode .., ?_, hstate, hfirst, href, (enterMode_formed ..).log⟩
    rw [loadEntered, enterMode_mc]
    rfl
  · exact .of_restraint (s := s) (goOnline_restraint_ended hoffline (releaseInProgress_iff.2 hp))
  · exact goOnline_restraint_idle (s := taken s f rest) (by simp [releaseInProgress, hq, he])
  · have answer := requestRow_answers h hargs (handleGoOnline_unmet (s := taken s f rest) hn)
    rw [bits_unmetConditions] at answer
    exact answer

end Sys2Proof.Machine
end

section
/-! PROOF. The voices at entry into HOLD and at RESUME (R130, R131), and O18: HOLD and RESUME. -/

namespace Sys2Proof.Machine

variable {s t : State} {f : Frame} {rest : List Frame}

/-! ## The voices -/

theorem stop_stopped (fade : Nat) (x : Voice) : Stopped fade x (x.stop fade) := by
  constructor
  · rintro (h | h | h)
    · simp [Voice.stop, h]
    · simp [Voice.stop, h]
    · unfold Voice.stop
      split <;> simp [h]
  · rintro (h | h) hf <;> simp [Voice.stop, h, hf, Voice.rampTo]

theorem soundEnterHold_others (s : State) :
    (soundEnterHold s).sound = { s.sound with voices := (soundEnterHold s).sound.voices } := by
  unfold soundEnterHold
  split <;> rfl

/-- A voice other than V4 follows its hold behaviour (R130). -/
theorem soundEnterHold_voice {i : Fin 6} (h : i ≠ 4 ∨ holdClipStart s = none) :
    (soundEnterHold s).sound.voices[i] = (s.sound.voices[i]).bind (Voice.enterHold s.params.holdFade) := by
  unfold soundEnterHold
  split
  · simp
  · next hc =>
    have hi : (4 : Nat) ≠ i.val := fun h4 => (h.resolve_right (by simp [hc])) (Fin.ext h4.symm)
    simp [Vector.getElem_set_ne _ _ hi]

/-- V4 starts with the hold clip (R130). -/
theorem soundEnterHold_clip {c : Clip} (h : holdClipStart s = some c) :
    (soundEnterHold s).sound.voices[(4 : Fin 6)] = some (holdVoiceStart s.params c) := by
  unfold soundEnterHold
  rw [h]
  simp

theorem enterHold_unset {x : Voice} (fade : Nat) (h : x.hold = none ∨ x.hold = some .continue) :
    x.enterHold fade = some x := by
  rcases h with h | h <;> simp [Voice.enterHold, h]

theorem enterHold_pause {x : Voice} (fade : Nat) (h : x.hold = some .pause) :
    (x.state = .playing → x.enterHold fade = some { x with state := .paused, timing := none }) ∧
      (x.state = .waiting → x.enterHold fade = some { x with state := .paused, position := 0, timing := none }) ∧
      (x.state = .paused ∨ x.state = .stopping → x.enterHold fade = some x) := by
  refine ⟨fun hs => ?_, fun hs => ?_, fun hs => ?_⟩
  · simp [Voice.enterHold, h, hs]
  · simp [Voice.enterHold, h, hs]
  · rcases hs with hs | hs <;> simp [Voice.enterHold, h, hs]

theorem enterHold_fade {x : Voice} (fade : Nat) (h : x.hold = some .fade) :
    (x.state = .playing ∨ x.state = .waiting → Stopped fade x (x.enterHold fade)) ∧
      (x.state = .paused ∨ x.state = .stopping → x.enterHold fade = some x) := by
  refine ⟨fun hs => ?_, fun hs => ?_⟩
  · have : x.enterHold fade = x.stop fade := by rcases hs with hs | hs <;> simp [Voice.enterHold, h, hs]
    rw [this]
    exact stop_stopped fade x
  · rcases hs with hs | hs <;> simp [Voice.enterHold, h, hs]

theorem holdClipStart_none
    (h : s.params.holdClip = 0 ∨ findClip s s.params.holdClip = none ∨ s.store.activity ≠ .idle) :
    holdClipStart s = none := by
  unfold holdClipStart storeIdle
  split
  · next hc =>
    obtain ⟨hclip, hidle⟩ := hc
    exact (h.resolve_left hclip).resolve_right (by simpa using hidle)
  · rfl

/-- The voices after entry into HOLD, in the words of R130. -/
theorem HoldShaped.of_sound (h : t.sound = (soundEnterHold s).sound) : HoldShaped s t := by
  have moved {i : Fin 6} {v : Option Voice} (hi : i ≠ 4) (hv : s.sound.voices[i] = v) :
      t.sound.voices[i] = v.bind (Voice.enterHold s.params.holdFade) := by
    rw [h, soundEnterHold_voice (.inl hi), hv]
  constructor
  case idle => exact fun i hi hv => moved hi hv
  case goesOn => exact fun i x hi hv hx => (moved hi hv).trans (enterHold_unset _ hx)
  case pauses =>
    intro i x hi hv hx
    rw [moved hi hv]
    exact enterHold_pause _ hx
  case fades =>
    intro i x hi hv hx
    rw [moved hi hv]
    exact enterHold_fade _ hx
  case clipStarts =>
    intro c hne hc hidle
    rw [h, soundEnterHold_clip (c := c) (by simp [holdClipStart, storeIdle, hne, hc, hidle])]
    rfl
  case noClip =>
    intro hn hx
    rw [h, soundEnterHold_voice (.inr (holdClipStart_none hn))]
    cases hv : s.sound.voices[(4 : Fin 6)] with
    | none => rfl
    | some x => exact enterHold_unset _ (.inl (hx x hv))
  case others =>
    rw [h]
    exact soundEnterHold_others s

/-- A PAUSED voice with a hold behaviour plays on (R131). -/
def Voice.wake (v : Voice) : Voice := if v.state = .paused ∧ v.hold.isSome then { v with state := .playing } else v

theorem wake_paused {x : Voice} (hs : x.state = .paused) (hh : x.hold ≠ none) :
    x.wake = { x with state := .playing } := if_pos ⟨hs, Option.isSome_iff_ne_none.2 hh⟩

theorem wake_else {x : Voice} (h : x.state ≠ .paused ∨ x.hold = none) : x.wake = x :=
  if_neg fun ⟨hs, hh⟩ => h.elim (fun hn => hn hs) (fun hn => Option.isSome_iff_ne_none.1 hh hn)

/-- The voices after RESUME: all but V4 woken, and V4 stopped with the hold fade (R131). -/
theorem soundResume_sound (s : State) :
    (soundResume s).sound = { s.sound with
      voices := (Vector.ofFn fun i : Fin 6 => (s.sound.voices[i]).map Voice.wake).set 4
        (((s.sound.voices[(4 : Fin 6)]).map Voice.wake).bind (Voice.stop s.params.holdFade)) } := by
  refine (setVoice_of_ne _ s.params _ (by decide : holdVoice ≠ announceVoice)).trans ?_
  simp [voiceAt, holdVoice]
  rfl

/-- The voices after RESUME, in the words of R131. -/
theorem ResumeShaped.of_sound (h : t.sound = (soundResume s).sound) : ResumeShaped s t := by
  rw [soundResume_sound] at h
  have moved {i : Fin 6} (hi : i ≠ 4) : t.sound.voices[i] = (s.sound.voices[i]).map Voice.wake := by
    have hn : (4 : Nat) ≠ i.val := fun h4 => hi (Fin.ext h4.symm)
    simp [h, Vector.getElem_set_ne _ _ hn]
  have stopped : t.sound.voices[(4 : Fin 6)] =
      ((s.sound.voices[(4 : Fin 6)]).map Voice.wake).bind (Voice.stop s.params.holdFade) := by simp [h]
  constructor
  case idle =>
    intro i hv
    by_cases hi : i = 4
    · rw [hi] at hv ⊢
      rw [stopped, hv]
      rfl
    · rw [moved hi, hv]
      rfl
  case wakes =>
    intro i x hi hv hs hh
    rw [moved hi, hv, Option.map_some, wake_paused hs hh]
  case goesOn =>
    intro i x hi hv hx
    rw [moved hi, hv, Option.map_some, wake_else hx]
  case holdVoice =>
    intro x hv hh
    rw [stopped, hv, Option.map_some, wake_else (.inr hh)]
    exact stop_stopped _ x
  case others => rw [h]

/-! ## Berthing (R10) -/

theorem atStopPoint_congr (h : t.tracker = s.tracker) (ht : t.tables = s.tables) : atStopPoint t = atStopPoint s := by
  simp only [atStopPoint, currentSegment, h, ht]

theorem evalBerth_mc (s : State) : (evalBerth s).mc =
    if s.mc.mode = .unload ∧ s.mc.advance = none ∧ s.permit.stationary = true ∧ atStopPoint s = true then
      { s.mc with berthed := true, berthReached := true } else s.mc := by
  unfold evalBerth
  split
  · rw [permitMoved_mc]
    rfl
  · rfl

/-- Berthing, judged in UNLOAD without an advance by a vehicle that is not berthed. -/
theorem evalBerth_judges (hm : s.mc.mode = .unload) (ha : s.mc.advance = none) (hb : s.mc.berthed = false) :
    (evalBerth s).mc = { s.mc with berthed := s.permit.stationary && atStopPoint s
                                   berthReached := s.mc.berthReached || (s.permit.stationary && atStopPoint s) } := by
  rw [evalBerth_mc]
  by_cases hc : (s.permit.stationary && atStopPoint s) = true
  · obtain ⟨hs, hp⟩ := Bool.and_eq_true_iff.1 hc
    rw [if_pos ⟨hm, ha, hs, hp⟩, hc, Bool.or_true]
  · rw [if_neg fun ⟨_, _, hs, hp⟩ => hc (Bool.and_eq_true_iff.2 ⟨hs, hp⟩), Bool.eq_false_iff.2 hc, Bool.or_false, ← hb]

theorem evalBerth_sound (s : State) : (evalBerth s).sound = s.sound := by
  unfold evalBerth
  split <;> simp [permitMoved]

/-! ## HOLD -/

/-- A release in progress in an online mode has a stationary vehicle (R79). -/
theorem release_stationary (hr : ReleaseHeld s) (hb : BerthHeld s) (ho : s.mc.mode ≠ .offline)
    (hp : releaseInProgress s = true) : s.permit.stationary = true := by
  have allowed := hr.allowed (releaseInProgress_iff.1 hp)
  cases hm : s.mc.mode with
  | offline => exact absurd hm ho
  | load => exact allowed.ground (.inl hm)
  | ready => exact allowed.ground (.inr (.inl hm))
  | run => exact absurd hm allowed.run
  | hold =>
    obtain ⟨-, -, hs⟩ := allowed.hold hm
    exact hs
  | unload =>
    obtain ⟨-, hs, -, -⟩ := hb.berthed (allowed.unload hm)
    exact hs
  | halt => exact allowed.ground (.inr (.inr hm))

/-- The mode that HOLD comes from (R13). -/
def heldAt (s : State) : HeldFrom := if s.mc.mode = .run then .run else .unload

theorem handleHold_hold (h : s.mc.mode = .hold) : handleHold [] s = done [] s := by simp [handleHold, h]

theorem handleHold_moves (h : s.mc.mode = .run ∨ s.mc.mode = .unload) :
    handleHold [] s = done [] (changeMode .hold (heldAt s) s) := by
  rcases h with h | h <;> simp [handleHold, h, heldAt]

/-- A mode change between the two online modes of a hold leaves the generators alone. -/
theorem changeMode_online_density {new : Mode} (held : HeldFrom) (ho : s.mc.mode ≠ .offline) (hn : new ≠ .offline) :
    (changeMode new held s).density = s.density := by
  refine (rcCheck_density _).trans ?_
  rw [enterMode_density, if_neg fun h => ho h.1, if_neg hn]

/-- A mode change within the online modes, but DISPATCH, leaves the Tracker alone. -/
theorem changeMode_online_tracker {new : Mode} (held : HeldFrom) (ho : s.mc.mode ≠ .offline)
    (hd : ¬(s.mc.mode = .ready ∧ new = .run)) : (changeMode new held s).tracker = s.tracker := by
  rw [changeMode_tracker, enterMode_tracker, if_neg fun h => ho h.1, if_neg hd]

/-- A release in progress in RUN or UNLOAD is one of a berthed vehicle (R79). -/
theorem release_berthed (hr : ReleaseHeld s) (hb : BerthHeld s) (h : s.mc.mode = .run ∨ s.mc.mode = .unload)
    (hp : releaseInProgress s = true) :
    s.mc.mode = .unload ∧ s.permit.stationary = true ∧ s.mc.berthReached = true := by
  have allowed := hr.allowed (releaseInProgress_iff.1 hp)
  have hm : s.mc.mode = .unload := h.resolve_left allowed.run
  obtain ⟨-, hs, hreached, -⟩ := hb.berthed (allowed.unload hm)
  exact ⟨hm, hs, hreached⟩

/-- A release of a berthed vehicle goes on through HOLD (R79). -/
theorem changeMode_hold_restraint (hc : s.startUp.phase = .complete) (ho : s.mc.mode ≠ .offline)
    (hp : releaseInProgress s = true →
      s.mc.mode = .unload ∧ s.permit.stationary = true ∧ s.mc.berthReached = true) :
    (changeMode .hold (heldAt s) s).restraint = s.restraint := by
  have entered : (enterMode .hold (heldAt s) s).restraint = s.restraint := by
    refine enterMode_restraint_goes hc ho (.inr (.inl rfl)) fun hr => ?_
    obtain ⟨hm, hs, hreached⟩ := hp hr
    simp [releaseCondition, ModeController.enter, PermitLevel.still, heldAt, hm, hs, hreached]
  refine (rcCheck_goes ?_ fun hr => ?_).trans entered
  · rw [enterMode_startUp]
    exact hc
  · obtain ⟨-, hs, -⟩ := hp ((releaseInProgress_congr entered).symm.trans hr)
    rw [(enterMode_formed ..).stationary, hs]

/-- Entry into HOLD, as the voices see it (R130). -/
theorem enterMode_hold_sound (held : HeldFrom) (hs : s.sound = t.sound) (hp : s.params = t.params)
    (ht : s.tables = t.tables) (hst : s.store = t.store) :
    (enterMode .hold held s).sound = (soundEnterHold t).sound :=
  (enterMode_sound (by simp)).trans (soundModeChange_sound_congr s.mc.mode .hold hs hp ht hst)

/-! ## RESUME -/

theorem handleResume_releasing (h : releaseInProgress s = true) : handleResume [] s = refuse .mode s := by
  simp [handleResume, h]

theorem handleResume_run (h : releaseInProgress s = false) (hf : s.mc.heldFrom = .run) :
    handleResume [] s = done [] (changeMode .run .none s) := by simp [handleResume, h, hf]

theorem handleResume_unload (h : releaseInProgress s = false) (hf : s.mc.heldFrom = .unload) :
    handleResume [] s = done [] (evalBerth (changeMode .unload .none s)) := by simp [handleResume, h, hf]

/-- Entry into RUN or UNLOAD from HOLD, as the voices see it (R131). -/
theorem enterMode_resume_sound {new : Mode} (held : HeldFrom) (hm : s.mc.mode = .hold) (hn : new = .run ∨ new = .unload) :
    (enterMode new held s).sound = (soundResume s).sound := by
  rw [enterMode_sound (by simp [hm]), hm]
  rcases hn with rfl | rfl <;> rfl

/-- Back in UNLOAD, berthing is judged at once (R10). -/
theorem resumed_unload_mc (hm : s.mc.mode = .hold) (ha : s.mc.advance = none) :
    (evalBerth (enterMode .unload .none s)).mc = { s.mc.enter .unload .none with
      berthed := s.permit.stationary && atStopPoint s
      berthReached := s.mc.berthReached || (s.permit.stationary && atStopPoint s) } := by
  have hmc : (enterMode .unload .none s).mc = s.mc.enter .unload .none := enterMode_mc ..
  have hstop : atStopPoint (enterMode .unload .none s) = atStopPoint s :=
    atStopPoint_congr (by rw [enterMode_tracker]; simp [hm]) (enterMode_tables ..)
  rw [evalBerth_judges (by rw [hmc]; rfl) (by rw [hmc]; exact ha) (by rw [hmc]; rfl), hmc, hstop,
    (enterMode_formed ..).stationary]
  simp only [ModeController.enter, hm]
  rfl

/-- HOLD from RUN or UNLOAD (R13). -/
theorem hold_answers (h : Admitted .hold f rest s) (hargs : f.args = []) (hn : s.mc.mode ≠ .hold) :
    ∃ t, exec .hold s = .next (answered f .done [] t) ∧ SameGround (taken s f rest) t ∧ t.tracker = s.tracker ∧
      t.density = s.density ∧ (ReleaseHeld s → BerthHeld s → t.restraint = s.restraint) ∧
      (¬(s.wli.rcTimeout < s.wli.rcSilence ∧ s.wli.rcReported = false) →
        t.mc.mode = .hold ∧ t.mc.heldFrom = (if s.mc.mode = .run then .run else .unload) ∧ t.mc.berthed = false ∧
          t.mc.berthReached = s.mc.berthReached ∧ t.mc.advance = none ∧ HoldShaped s t) := by
  have hm : s.mc.mode = .run ∨ s.mc.mode = .unload := by
    have := h.mode
    cases hc : s.mc.mode <;> simp_all [Kind.takenIn]
  have ho : (taken s f rest).mc.mode ≠ .offline := by
    rw [taken_mode]
    rcases hm with hm | hm <;> rw [hm] <;> decide
  refine ⟨changeMode .hold (heldAt (taken s f rest)) (taken s f rest),
    requestRow_answers h hargs (handleHold_moves (by rwa [taken_mode])), changeMode_ground ..,
    changeMode_online_tracker _ ho (by simp), changeMode_online_density _ ho (by decide), fun hr hb => ?_, fun hcalm => ?_⟩
  · refine changeMode_hold_restraint (s := taken s f rest) h.running ho fun hp => ?_
    rw [taken_mode, taken_berthReached]
    exact release_berthed hr hb hm hp
  · rw [changeMode_calm (s := taken s f rest) (by decide) hcalm, enterMode_mc]
    refine ⟨rfl, ?_, rfl, taken_berthReached, rfl, .of_sound (enterMode_hold_sound (s := taken s f rest) _ rfl rfl rfl rfl)⟩
    change heldAt (taken s f rest) = _
    rw [heldAt, taken_mode]

/-- RESUME with no release in progress (R16). -/
theorem resume_answers (h : Admitted .resume f rest s) (hargs : f.args = []) (hi : releaseInProgress s = false)
    (hf : s.mc.heldFrom ≠ .none) (ha : s.mc.advance = none) :
    ∃ t, exec .resume s = .next (answered f .done [] t) ∧ SameGround (taken s f rest) t ∧ t.tracker = s.tracker ∧
      t.density = s.density ∧
      (¬(s.wli.rcTimeout < s.wli.rcSilence ∧ s.wli.rcReported = false) → t.mc.heldFrom = .none ∧ ResumeShaped s t ∧
        (s.mc.heldFrom = .run → t.mc.mode = .run ∧ t.mc.berthed = false ∧ t.mc.berthReached = false) ∧
        (s.mc.heldFrom = .unload → t.mc.mode = .unload ∧
          t.mc.berthed = (s.permit.stationary && atStopPoint s) ∧
          t.mc.berthReached = (s.mc.berthReached || (s.permit.stationary && atStopPoint s)))) := by
  have hm : (taken s f rest).mc.mode = .hold := by
    rw [taken_mode]
    simpa [Kind.takenIn] using h.mode
  have ho : (taken s f rest).mc.mode ≠ .offline := by
    rw [hm]
    decide
  have shaped {new : Mode} (hn : new = .run ∨ new = .unload) :
      (enterMode new .none (taken s f rest)).sound = (soundResume s).sound := enterMode_resume_sound .none hm hn
  cases hfrom : s.mc.heldFrom with
  | none => exact absurd hfrom hf
  | run =>
    refine ⟨changeMode .run .none (taken s f rest),
      requestRow_answers h hargs (handleResume_run hi (taken_heldFrom.trans hfrom)), changeMode_ground ..,
      changeMode_online_tracker _ ho fun hr => absurd (hm.symm.trans hr.1) nofun, changeMode_online_density _ ho (by decide), fun hcalm => ?_⟩
    rw [changeMode_calm (s := taken s f rest) (by decide) hcalm, enterMode_mc]
    exact ⟨rfl, .of_sound (shaped (.inl rfl)), fun _ => ⟨rfl, rfl, rfl⟩, nofun⟩
  | unload =>
    refine ⟨evalBerth (changeMode .unload .none (taken s f rest)),
      requestRow_answers h hargs (handleResume_unload hi (taken_heldFrom.trans hfrom)),
      (changeMode_ground ..).trans (evalBerth_keeps _).toSameGround,
      (evalBerth_tracker _).trans (changeMode_online_tracker _ ho (by simp)),
      (evalBerth_density _).trans (changeMode_online_density _ ho (by decide)), fun hcalm => ?_⟩
    rw [changeMode_calm (s := taken s f rest) (by decide) hcalm, resumed_unload_mc hm (taken_advance.trans ha)]
    refine ⟨rfl, .of_sound ((evalBerth_sound _).trans (shaped (.inr rfl))), nofun, fun _ => ⟨rfl, rfl, ?_⟩⟩
    change ((taken s f rest).mc.berthReached || _) = _
    rw [taken_berthReached]
    rfl

/-- Settles O18: HOLD is one mode change; so is RESUME, with berthing judged after it in UNLOAD. -/
theorem holdAndResume : Obligations.HoldAndResume := by
  refine ⟨fun f rest s h hargs => ⟨fun hm => ?_, hold_answers h hargs⟩,
    fun f rest s h hargs => ⟨fun hp => ?_, fun hq he => resume_answers h hargs (by simp [releaseInProgress, hq, he])⟩⟩
  · exact requestRow_answers h hargs (handleHold_hold (taken_mode.trans hm))
  · exact requestRow_answers h hargs (handleResume_releasing (s := taken s f rest) (releaseInProgress_iff.2 hp))

end Sys2Proof.Machine
end

section
/-! PROOF. O20: STOP_NOW (R14, R79, R132, R165, R167). -/

namespace Sys2Proof.Machine

variable {s t : State} {f : Frame} {rest : List Frame} {k : FaultKind} {sub : SubCause} {d : Nat}

/-! ## A fault in OFFLINE -/

/-- In OFFLINE a fault is logged and nothing else (R167). -/
theorem takeFault_offline (h : s.mc.mode = .offline) :
    takeFault k sub d s = s.setPermit (s.permit.appendLog (faultRecordOf s k sub d)) := by
  have raised : raiseFault k sub d s = s.setPermit (s.permit.appendLog (faultRecordOf s k sub d)) := by
    simp [raiseFault, recordFault, h, Mode.online]
  unfold takeFault
  rw [raised]
  exact if_pos rfl

/-! ## A fault in HALT -/

theorem takeFault_halt (h : s.mc.mode = .halt) : takeFault k sub d s = raiseFault k sub d s := by
  have hmc : (raiseFault k sub d s).mc = s.mc := by rw [raiseFault_mc, if_pos (.inr h)]
  exact if_pos (by rw [hmc])

/-! ## A fault in another online mode: its record, the entry into HALT, and the RC silence then found -/

/-- The vehicle in HALT for a fault. -/
def halted (k : FaultKind) (sub : SubCause) (d : Nat) (s : State) : State :=
  enterMode .halt (haltHeld s.mc) (recordFault k sub d s)

theorem halted_mode : (halted k sub d s).mc.mode = .halt := enterMode_mode ..

theorem takeFault_enters (ho : s.mc.mode ≠ .offline) (hh : s.mc.mode ≠ .halt) :
    takeFault k sub d s = rcCheck (halted k sub d s) := by
  have raised : raiseFault k sub d s = halted k sub d s := raiseFault_enter k sub d ho hh
  unfold takeFault
  rw [raised]
  exact if_neg (by rw [halted_mode]; exact Ne.symm hh)

theorem takeFault_mc (ho : s.mc.mode ≠ .offline) (hh : s.mc.mode ≠ .halt) :
    (takeFault k sub d s).mc = s.mc.enter .halt (haltHeld s.mc) := by
  rw [takeFault_enters ho hh, rcCheck_halt_mc halted_mode, halted, enterMode_mc]
  rfl

/-- Entry into HALT silences V0 to V4 and leaves V5 (R132). -/
theorem takeFault_sound (ho : s.mc.mode ≠ .offline) (hh : s.mc.mode ≠ .halt) :
    (takeFault k sub d s).sound = (soundSilence s).sound := by
  rw [takeFault_enters ho hh, rcCheck_halt_sound halted_mode]
  exact enterMode_sound (s := recordFault k sub d s) (by simp)

/-- In HALT the permit is EMERGENCY (R155). -/
theorem takeFault_permit (hc : s.startUp.phase = .complete) (ho : s.mc.mode ≠ .offline) (hh : s.mc.mode ≠ .halt) :
    (takeFault k sub d s).permit.level = .emergency ∧ (takeFault k sub d s).permit.speedCeiling = 0 := by
  obtain ⟨hlevel, hceiling, -⟩ := rcCheck_halt_permit (halted_mode (k := k) (sub := sub) (d := d) (s := s))
  rw [takeFault_enters ho hh, hlevel, hceiling]
  exact enterMode_halt_permit (haltHeld s.mc) (s := recordFault k sub d s) hc

/-- A release in progress ends at the entry into HALT of a vehicle that moves (R79). -/
theorem takeFault_restraint_ended (ho : s.mc.mode ≠ .offline) (hh : s.mc.mode ≠ .halt)
    (hs : s.permit.stationary = false) (hp : releaseInProgress s = true) :
    (takeFault k sub d s).restraint = (endRelease s).restraint := by
  rw [takeFault_enters ho hh, rcCheck_halt_restraint halted_mode]
  refine (enterMode_restraint_ended (s := recordFault k sub d s) ?_ (.inr ⟨rfl, ?_⟩)).trans ?_
  · exact (releaseInProgress_congr (recordFault_restraint ..)).trans hp
  · rw [recordFault_stationary, hs]
  · exact endRelease_restraint_congr (recordFault_restraint ..) (recordFault_terminals ..)

/-! ## A fault in any online mode -/

/-- The first-fault record is the first fault's, also where RC silence is found after it (R166). -/
theorem takeFault_first (ho : s.mc.mode ≠ .offline) :
    (takeFault k sub d s).permit.first = some (s.permit.first.getD (faultRecordOf s k sub d)) := by
  obtain ⟨hfirst, -, -⟩ := raiseFault_records k sub d ho
  by_cases hh : s.mc.mode = .halt
  · rw [takeFault_halt hh, hfirst]
  · have raised : raiseFault k sub d s = halted k sub d s := raiseFault_enter k sub d ho hh
    rw [raised] at hfirst
    obtain ⟨-, -, hkept⟩ := rcCheck_halt_permit (halted_mode (k := k) (sub := sub) (d := d) (s := s))
    rw [takeFault_enters ho hh, hkept (by rw [hfirst]; rfl), hfirst]

/-- The fault alone is logged where it finds the vehicle in HALT or RC heard. -/
theorem takeFault_log (ho : s.mc.mode ≠ .offline)
    (h : s.mc.mode = .halt ∨ ¬(s.wli.rcTimeout < s.wli.rcSilence ∧ s.wli.rcReported = false)) :
    (takeFault k sub d s).permit.log = (s.permit.appendLog (faultRecordOf s k sub d)).log := by
  by_cases hh : s.mc.mode = .halt
  · rw [takeFault_halt hh, raiseFault_log]
  · have hwli : (halted k sub d s).wli = s.wli := enterMode_reported _ _ _ (by decide)
    rw [takeFault_enters ho hh, rcCheck_calm (by rw [hwli]; exact h.resolve_left hh), halted, (enterMode_formed ..).log,
      recordFault_log]

/-- A release goes on through a fault: in HALT nothing is entered, and elsewhere the vehicle is stationary (R79). -/
theorem takeFault_restraint (hc : s.startUp.phase = .complete)
    (hp : s.mc.mode ≠ .halt → releaseInProgress s = true → s.permit.stationary = true) :
    (takeFault k sub d s).restraint = s.restraint := by
  by_cases hh : s.mc.mode = .halt
  · rw [takeFault_halt hh, raiseFault_halt_restraint k sub d hh]
  · exact takeFault_goes k sub d hc (hp hh)

/-! ## STOP_NOW -/

theorem handleStopNow_eq (s : State) : handleStopNow [] s = done [] (takeFault .rcStop .none 0 s) := by
  simp [handleStopNow]

theorem faultRecordOf_taken (k : FaultKind) (sub : SubCause) (d : Nat) :
    faultRecordOf (taken s f rest) k sub d = faultRecordOf s k sub d := by
  unfold faultRecordOf
  rw [taken_mode]
  rfl

theorem haltHeld_taken : haltHeld (taken s f rest).mc = haltHeld s.mc := by
  unfold haltHeld
  rw [taken_mode, taken_heldFrom]

/-- Settles O20: STOP_NOW is the fault RC_STOP, in OFFLINE, in HALT and in another online mode. -/
theorem stopNowHalts : Obligations.StopNowHalts := by
  intro f rest s h hargs
  have answer := requestRow_answers h hargs (handleStopNow_eq (taken s f rest))
  have hmode : (taken s f rest).mc.mode = s.mc.mode := taken_mode
  have hrecord := faultRecordOf_taken (s := s) (f := f) (rest := rest) .rcStop .none 0
  refine ⟨fun hm => answer.trans ?_, fun hm => ⟨takeFault .rcStop .none 0 (taken s f rest), answer,
    (takeFault_keeps ..).toSameGround, takeFault_tracker .., ?_, ?_, ?_, ?_, fun hr hb => ?_, fun hh hs hp => ?_,
    fun hh => ?_, fun hcalm => ?_⟩⟩
  · rw [takeFault_offline (hmode.trans hm), hrecord]
    rfl
  · rw [takeFault_mode, hmode, if_neg hm]
  · exact takeFault_active _ _ _ (hmode ▸ hm)
  · exact (takeFault_keeps ..).slots.dispatchCount.trans taken_dispatchCount
  · rw [takeFault_first (hmode ▸ hm), hrecord]
    rfl
  · exact takeFault_restraint (s := taken s f rest) h.running fun _ hp => release_stationary (s := s) hr hb hm hp
  · exact .of_restraint (s := s) (takeFault_restraint_ended (s := taken s f rest) (hmode ▸ hm) (hmode ▸ hh) hs
      (releaseInProgress_iff.2 hp))
  · have ho' : (taken s f rest).mc.mode ≠ .offline := hmode ▸ hm
    have hh' : (taken s f rest).mc.mode ≠ .halt := hmode ▸ hh
    obtain ⟨hlevel, hceiling⟩ := takeFault_permit (k := .rcStop) (sub := .none) (d := 0) (s := taken s f rest) h.running ho' hh'
    refine ⟨fun v => ?_, hlevel, hceiling, ?_⟩
    · rw [takeFault_sound ho' hh']
      exact soundSilence_voice _ v
    · rw [takeFault_mc ho' hh', haltHeld_taken]
      refine ⟨rfl, taken_berthReached, rfl, ?_⟩
      change haltHeld s.mc = _
      cases hc : s.mc.mode <;> simp_all [haltHeld]
  · rw [takeFault_log (hmode ▸ hm) (by rw [hmode]; exact hcalm), hrecord]
    rfl

end Sys2Proof.Machine
end

section
/-! PROOF. O21: RECOVER (R15, R169, R170). -/

namespace Sys2Proof.Machine

variable {s t : State} {f : Frame} {rest : List Frame}

/-! ## The persisting conditions (R169) -/

theorem causeBit_not (code : Nat) (b : Bool) : causeBit code (!b) = if b then 0 else 2 ^ (code - 1) := by
  cases b <;> rfl

theorem recoverCauses_eq (s : State) : recoverCauses s =
    (if allReady s then 0 else 1) + (if .guideLost ∈ s.permit.active ∧ s.steering.guidePresent = false then 8 else 0) +
      (if ampReady s then 0 else 32) + (if s.dli.live then 0 else 128) + (if s.permit.reportFault then 256 else 0) +
      (if onboardStop s then 1024 else 0) + (if s.permit.stationary then 0 else 4096) := by
  have guide : causeBit 4 (s.permit.active.contains .guideLost && !s.steering.guidePresent) =
      if .guideLost ∈ s.permit.active ∧ s.steering.guidePresent = false then 8 else 0 := by simp [causeBit]
  rw [recoverCauses, guide, causeBit_not, causeBit_not, causeBit_not, causeBit_not]
  rfl

/-- No condition of R169 persists. -/
structure CausesGone (s : State) : Prop where
  seats : allReady s = true
  guide : .guideLost ∈ s.permit.active → s.steering.guidePresent = true
  amp : ampReady s = true
  drive : s.dli.live = true
  report : s.permit.reportFault = false
  stop : onboardStop s = false
  stationary : s.permit.stationary = true

theorem recoverCauses_zero : recoverCauses s = 0 ↔ CausesGone s := by
  rw [recoverCauses_eq]
  constructor
  · intro h
    simp only [Nat.add_eq_zero_iff, ite_eq_left_iff, ite_eq_right_iff] at h
    obtain ⟨⟨⟨⟨⟨⟨h1, h2⟩, h3⟩, h4⟩, h5⟩, h6⟩, h7⟩ := h
    exact ⟨by simpa using h1, fun hg => by simpa [hg] using h2, by simpa using h3, by simpa using h4, by simpa using h5,
      by simpa using h6, by simpa using h7⟩
  · intro ⟨h1, h2, h3, h4, h5, h6, h7⟩
    have hguide : ¬(.guideLost ∈ s.permit.active ∧ s.steering.guidePresent = false) := fun ⟨hg, hn⟩ =>
      absurd (hn.symm.trans (h2 hg)) nofun
    simp [h1, hguide, h3, h4, h5, h6, h7]

theorem handleRecover_caused (h : ¬CausesGone s) :
    handleRecover [] s = ⟨.cause, be2 (recoverCauses s), s⟩ := by
  simp [handleRecover, mt recoverCauses_zero.1 h]

theorem handleRecover_clear (h : CausesGone s) : handleRecover [] s = done [] (recover s) := by
  simp [handleRecover, recoverCauses_zero.2 h]

/-! ## Out of HALT (R15) -/

theorem recover_held (h : s.mc.heldFrom ≠ .none) : recover s = changeMode .hold s.mc.heldFrom (clearFaults s) := if_neg h

theorem recover_load (h : s.mc.heldFrom = .none) : recover s = evalReady (changeMode .load .none (clearFaults s)) := if_pos h

theorem clearFaults_ground (s : State) : SameGround s (clearFaults s) := ⟨rfl, rfl, rfl, rfl, rfl, rfl, rfl, rfl, rfl, rfl⟩

theorem recover_ground (s : State) : SameGround s (recover s) := by
  by_cases h : s.mc.heldFrom = .none
  · rw [recover_load h]
    exact (clearFaults_ground s).trans ((changeMode_ground ..).trans (evalReady_keeps _).toSameGround)
  · rw [recover_held h]
    exact (clearFaults_ground s).trans (changeMode_ground ..)

theorem recover_tracker (hm : s.mc.mode = .halt) : (recover s).tracker = s.tracker := by
  have moved (new : Mode) (held : HeldFrom) : (changeMode new held (clearFaults s)).tracker = s.tracker :=
    changeMode_online_tracker (s := clearFaults s) held (fun ho => absurd (hm.symm.trans ho) nofun)
      fun hr => absurd (hm.symm.trans hr.1) nofun
  by_cases h : s.mc.heldFrom = .none
  · rw [recover_load h, evalReady_tracker, moved]
  · rw [recover_held h, moved]

/-- The READY evaluation of a vehicle in LOAD leaves no held-from mode (R2). -/
theorem evalReady_heldFrom (hm : s.mc.mode = .load) (hh : s.mc.heldFrom = .none)
    (hcalm : ¬(s.wli.rcTimeout < s.wli.rcSilence ∧ s.wli.rcReported = false)) : (evalReady s).mc.heldFrom = .none := by
  unfold evalReady
  rw [hm]
  dsimp only
  split
  · rw [changeMode_calm (by decide) hcalm, enterMode_mc]
    rfl
  · exact hh

theorem RcHeard.of_calm (h : ¬(s.wli.rcTimeout < s.wli.rcSilence ∧ s.wli.rcReported = false)) : RcHeard s := by
  by_cases hs : s.wli.rcTimeout < s.wli.rcSilence
  · exact .inr (Bool.of_not_eq_false fun hr => h ⟨hs, hr⟩)
  · exact .inl (Nat.le_of_not_lt hs)

/-- RECOVER into HOLD, while RC is heard. -/
theorem recover_hold (h : s.mc.heldFrom ≠ .none)
    (hcalm : ¬(s.wli.rcTimeout < s.wli.rcSilence ∧ s.wli.rcReported = false)) :
    recover s = enterMode .hold s.mc.heldFrom (clearFaults s) := by
  rw [recover_held h, changeMode_calm (s := clearFaults s) (by decide) hcalm]

/-- RECOVER into LOAD, while RC is heard: the READY conditions decide between LOAD and READY (R7). -/
theorem recover_decided (h : s.mc.heldFrom = .none)
    (hcalm : ¬(s.wli.rcTimeout < s.wli.rcSilence ∧ s.wli.rcReported = false)) :
    ReadyDecided (recover s) ∧ (recover s).mc.heldFrom = .none ∧ NoFaultTaken (clearFaults s) (recover s) := by
  obtain ⟨u, hu⟩ : ∃ u, u = enterMode .load .none (clearFaults s) := ⟨_, rfl⟩
  have hrecover : recover s = evalReady u := by
    rw [recover_load h, changeMode_calm (s := clearFaults s) (by decide) hcalm, hu]
  have hwli : u.wli = s.wli := by
    rw [hu]
    exact enterMode_reported _ _ _ (by decide)
  have hmc : u.mc = s.mc.enter .load .none := by
    rw [hu]
    exact enterMode_mc ..
  have formed : PermitFormed (clearFaults s).permit u.permit := by
    rw [hu]
    exact enterMode_formed ..
  have hload : u.mc.mode = .load := by rw [hmc]; rfl
  have calm : ¬(u.wli.rcTimeout < u.wli.rcSilence ∧ u.wli.rcReported = false) := by rwa [hwli]
  obtain ⟨hlog, hactive, hfirst⟩ := evalReady_quiet (RcHeard.of_calm calm)
  rw [hrecover]
  exact ⟨evalReady_decided (.inl hload) (.of_calm calm), evalReady_heldFrom hload (by rw [hmc]; rfl) calm,
    hlog.trans formed.log, hactive.trans formed.active, hfirst.trans formed.first⟩

/-- Settles O21: the persisting conditions are bits of the response; RECOVER is entry into HOLD, or into LOAD and READY. -/
theorem recoverLeavesHalt : Obligations.RecoverLeavesHalt := by
  intro f rest s h hargs
  have hhalt : (taken s f rest).mc.mode = .halt := by
    rw [taken_mode]
    simpa [Kind.takenIn] using h.mode
  have hheld : (taken s f rest).mc.heldFrom = s.mc.heldFrom := taken_heldFrom
  refine ⟨fun hcause => ?_, fun h1 h2 h3 h4 h5 h6 h7 => ⟨recover (taken s f rest),
    requestRow_answers h hargs (handleRecover_clear ⟨h1, h2, h3, h4, h5, h6, h7⟩), recover_ground _,
    recover_tracker hhalt, fun hcalm => ?_⟩⟩
  · have hcause : ¬CausesGone (taken s f rest) := by
      intro ⟨h1, h2, h3, h4, h5, h6, h7⟩
      rcases hcause with hc | ⟨hg, hc⟩ | hc | hc | hc | hc | hc
      · exact absurd (hc.symm.trans h1) nofun
      · exact absurd (hc.symm.trans (h2 hg)) nofun
      · exact absurd (hc.symm.trans h3) nofun
      · exact absurd (hc.symm.trans h4) nofun
      · exact absurd (hc.symm.trans h5) nofun
      · exact absurd (hc.symm.trans h6) nofun
      · exact absurd (hc.symm.trans h7) nofun
    have answer := requestRow_answers h hargs (handleRecover_caused hcause)
    rw [recoverCauses_eq] at answer
    exact answer
  · by_cases hfrom : s.mc.heldFrom = .none
    · obtain ⟨hdecided, hnone, hlog, hactive, hfirst⟩ :=
        recover_decided (s := taken s f rest) (hheld.trans hfrom) hcalm
      exact ⟨hactive, hfirst, hlog, fun hn => absurd hfrom hn, fun _ => ⟨hdecided, hnone⟩⟩
    · rw [recover_hold (s := taken s f rest) (hheld ▸ hfrom) hcalm]
      have formed := enterMode_formed .hold (taken s f rest).mc.heldFrom (clearFaults (taken s f rest))
      refine ⟨formed.active, formed.first, formed.log, fun _ => ?_, fun hn => absurd hn hfrom⟩
      rw [enterMode_mc]
      exact ⟨rfl, hheld, taken_berthReached (rest := rest), .of_sound (enterMode_hold_sound _ rfl rfl rfl rfl)⟩

end Sys2Proof.Machine
end

section
/-! PROOF. O19: ADVANCE, the ends of an advance, and the zones that change the mode (R9 to R12). -/

namespace Sys2Proof.Machine

variable {s t : State} {f : Frame} {rest : List Frame} {g : Segment} {a : Advance} {mm : Nat}

/-! ## Berthing judged twice -/

/-- What berthing waits for (R10). -/
def BerthMet (s : State) : Prop :=
  s.mc.mode = .unload ∧ s.mc.advance = none ∧ s.permit.stationary = true ∧ atStopPoint s = true

theorem evalBerth_unmet (h : ¬BerthMet s) : evalBerth s = s := if_neg h

theorem evalBerth_mc_met (h : BerthMet s) : (evalBerth s).mc = { s.mc with berthed := true, berthReached := true } :=
  (evalBerth_mc s).trans (if_pos h)

theorem evalBerth_mode (s : State) : (evalBerth s).mc.mode = s.mc.mode := by
  rw [evalBerth_mc]
  split <;> rfl

theorem evalBerth_advance (s : State) : (evalBerth s).mc.advance = s.mc.advance := by
  rw [evalBerth_mc]
  split <;> rfl

/-- Berthing judged again changes nothing more. -/
theorem evalBerth_again (s : State) : (evalBerth (evalBerth s)).mc = (evalBerth s).mc := by
  by_cases h : BerthMet s
  · obtain ⟨hm, ha, hs, hp⟩ := h
    have met : BerthMet (evalBerth s) := by
      refine ⟨(evalBerth_mode s).trans hm, (evalBerth_advance s).trans ha, (evalBerth_formed s).stationary.trans hs, ?_⟩
      rw [atStopPoint_congr (evalBerth_tracker s) (evalBerth_keeps s).tables, hp]
    rw [evalBerth_mc_met met, evalBerth_mc_met ⟨hm, ha, hs, hp⟩]
  · rw [evalBerth_unmet h, evalBerth_unmet h]

/-! ## The READY evaluation beside an advance -/

theorem evalReady_unload (h : s.mc.mode = .unload) : evalReady s = s := by simp [evalReady, h]

/-- An advance stands against READY (R7). -/
theorem evalReady_advancing (hm : s.mc.mode = .load ∨ s.mc.mode = .unload) (ha : s.mc.advance ≠ none) :
    evalReady s = s := by
  have hr : readyConditions s = false := Bool.eq_false_iff.2 fun h => ha (readyConditions_iff.1 h).advance
  rcases hm with hm | hm <;> simp [evalReady, hm, hr]

theorem enter_advance_none (new : Mode) (held : HeldFrom) {m : ModeController} (h : m.advance = none) :
    (m.enter new held).advance = none := by cases new <;> simp [ModeController.enter, h]

theorem rcCheck_advance_none (h : s.mc.advance = none) : (rcCheck s).mc.advance = none := by
  unfold rcCheck
  split
  · rw [raiseFault_mc]
    split
    · exact h
    · exact enter_advance_none _ _ h
  · exact h

theorem changeMode_advance_none (new : Mode) (held : HeldFrom) (h : s.mc.advance = none) :
    (changeMode new held s).mc.advance = none :=
  rcCheck_advance_none (by rw [enterMode_mc]; exact enter_advance_none new held h)

theorem evalReady_advance_none (h : s.mc.advance = none) : (evalReady s).mc.advance = none := by
  unfold evalReady
  split
  · split
    · exact changeMode_advance_none _ _ h
    · exact h
  · split
    · exact h
    · exact changeMode_advance_none _ _ h
  all_goals exact h

/-! ## The end of an advance (R12) -/

/-- The vehicle without its advance. -/
def unadvanced (s : State) : State := modMc s fun m => { m with advance := none }

theorem endAdvance_advance (s : State) : (endAdvance s).mc.advance = none := by
  refine evalReady_advance_none ((evalBerth_advance _).trans ?_)
  rw [permitMoved_mc]
  rfl

theorem endAdvance_tracker (s : State) : (endAdvance s).tracker = s.tracker := by
  refine (evalReady_tracker _).trans ((evalBerth_tracker _).trans ((permitMoved_tracker _).trans ?_))
  rfl

theorem endAdvance_unload (h : s.mc.mode = .unload) : endAdvance s = evalBerth (permitMoved (unadvanced s)) :=
  evalReady_unload ((evalBerth_mode _).trans (by rw [permitMoved_mc]; exact h))

/-- The end of an advance in UNLOAD judges berthing. -/
theorem endAdvance_unload_mc (hm : s.mc.mode = .unload) (hb : s.mc.berthed = false) :
    (endAdvance s).mc = { s.mc with
      advance := none
      berthed := s.permit.stationary && atStopPoint s
      berthReached := s.mc.berthReached || (s.permit.stationary && atStopPoint s) } := by
  have hmc : (permitMoved (unadvanced s)).mc = (unadvanced s).mc := permitMoved_mc _
  have hstop : atStopPoint (permitMoved (unadvanced s)) = atStopPoint s :=
    atStopPoint_congr (permitMoved_tracker _) (permitMoved_keeps _).tables
  rw [endAdvance_unload hm, evalBerth_judges (by rw [hmc]; exact hm) (by rw [hmc]; rfl) (by rw [hmc]; exact hb), hmc,
    hstop, (permitMoved_formed _).stationary]
  rfl

/-- The end of an advance in LOAD, while RC is heard, leaves LOAD or READY (R7). -/
theorem endAdvance_load (hm : s.mc.mode = .load)
    (hcalm : ¬(s.wli.rcTimeout < s.wli.rcSilence ∧ s.wli.rcReported = false)) :
    (endAdvance s).mc.mode = .load ∨ (endAdvance s).mc.mode = .ready := by
  have hwli : (permitMoved (unadvanced s)).wli = s.wli := by simp [permitMoved, unadvanced]
  have hload : (permitMoved (unadvanced s)).mc.mode = .load := by
    rw [permitMoved_mc]
    exact hm
  have judged : endAdvance s = evalReady (permitMoved (unadvanced s)) :=
    congrArg evalReady (evalBerth_unmet fun ⟨hu, _⟩ => absurd (hload.symm.trans hu) nofun)
  have decided := evalReady_decided (.inl hload) (RcHeard.of_calm (by rw [hwli]; exact hcalm))
  rw [← judged] at decided
  by_cases hr : ReadyMet (endAdvance s)
  · exact .inr (decided.ready hr)
  · exact .inl (decided.load hr)

/-! ## ADVANCE (R11) -/

/-- The vehicle with an advance of `mm` from where it is. -/
def advancing (mm : Nat) (s : State) : State :=
  modMc s fun m => { m with advance := some ⟨10 * mm, s.tracker.segment⟩, berthed := false }

theorem startAdvance_eq (hm : s.mc.mode = .load ∨ s.mc.mode = .unload) :
    startAdvance mm s = permitMoved (advancing mm s) :=
  evalReady_advancing (s := permitMoved (advancing mm s)) (by rw [permitMoved_mc]; exact hm)
    (by rw [permitMoved_mc]; exact nofun)

theorem handleAdvance_releasing (hi lo : Byte) (h : releaseInProgress s = true) :
    handleAdvance [hi, lo] s = refuse .mode s := by simp [handleAdvance, h]

/-- ADVANCE clamps its distance (R11). -/
theorem handleAdvance_eq (hi lo : Byte) (h : releaseInProgress s = false) :
    handleAdvance [hi, lo] s = doneOr (decide (20000 < 256 * hi.toNat + lo.toNat))
      (be2 (min (256 * hi.toNat + lo.toNat) 20000)) (advanceBy (min (256 * hi.toNat + lo.toNat) 20000) s) := by
  simp [handleAdvance, h, beNat_two]

theorem handleAdvance_starts (hi lo : Byte) (h : releaseInProgress s = false) (hd : 0 < 256 * hi.toNat + lo.toNat) :
    handleAdvance [hi, lo] s = ⟨if 20000 < 256 * hi.toNat + lo.toNat then .clamped else .done,
      be2 (min (256 * hi.toNat + lo.toNat) 20000), startAdvance (min (256 * hi.toNat + lo.toNat) 20000) s⟩ := by
  have hne : min (256 * hi.toNat + lo.toNat) 20000 ≠ 0 := by omega
  rw [handleAdvance_eq hi lo h, advanceBy, if_neg hne]
  simp [doneOr]

theorem handleAdvance_zero_none (h : releaseInProgress s = false) (ha : s.mc.advance = none) :
    handleAdvance [0, 0] s = done [0, 0] s := by
  rw [handleAdvance_eq 0 0 h]
  simp [advanceBy, ha, doneOr, done, be2]

theorem handleAdvance_zero_some (h : releaseInProgress s = false) (ha : s.mc.advance ≠ none) :
    handleAdvance [0, 0] s = done [0, 0] (endAdvance s) := by
  rw [handleAdvance_eq 0 0 h]
  simp [advanceBy, Option.isSome_iff_ne_none.2 ha, doneOr, done, be2]

/-- ADVANCE in LOAD and UNLOAD: refused beside a release, an advance started, none to end, or one ended (R11, R12). -/
theorem advance_answers (hi lo : Byte) (h : Admitted .advance f rest s) (hargs : f.args = [hi, lo]) :
    (s.restraint.queue ≠ [] ∨ s.restraint.energised ≠ [] →
      exec .advance s = .next (answered f .mode [] (taken s f rest))) ∧
    (s.restraint.queue = [] → s.restraint.energised = [] → 0 < 256 * hi.toNat + lo.toNat →
      ∃ t, exec .advance s = .next (answered f (if 20000 < 256 * hi.toNat + lo.toNat then .clamped else .done)
          (be2 (min (256 * hi.toNat + lo.toNat) 20000)) t) ∧
        SameGround (taken s f rest) t ∧ t.tracker = s.tracker ∧ t.density = s.density ∧ t.mc.mode = s.mc.mode ∧
        t.mc.advance = some ⟨10 * (min (256 * hi.toNat + lo.toNat) 20000 : Nat), s.tracker.segment⟩ ∧
        t.mc.berthed = false ∧ t.mc.berthReached = s.mc.berthReached) ∧
    (s.restraint.queue = [] → s.restraint.energised = [] → hi = 0 → lo = 0 → s.mc.advance = none →
      exec .advance s = .next (answered f .done [0, 0] (taken s f rest))) ∧
    (s.restraint.queue = [] → s.restraint.energised = [] → hi = 0 → lo = 0 → s.mc.advance ≠ none →
      ∃ t, exec .advance s = .next (answered f .done [0, 0] t) ∧ SameGround (taken s f rest) t ∧ t.mc.advance = none ∧
        t.tracker = s.tracker ∧
        (s.mc.mode = .unload → s.mc.berthed = false → t.mc.mode = .unload ∧
          t.mc.berthed = (s.permit.stationary && atStopPoint s) ∧
          t.mc.berthReached = (s.mc.berthReached || (s.permit.stationary && atStopPoint s)))) := by
  have hm : (taken s f rest).mc.mode = .load ∨ (taken s f rest).mc.mode = .unload := by
    rw [taken_mode]
    simpa [Kind.takenIn] using h.mode
  have still (hq : s.restraint.queue = []) (he : s.restraint.energised = []) :
      releaseInProgress (taken s f rest) = false := by simp [releaseInProgress, hq, he]
  refine ⟨fun hp => ?_, fun hq he hd => ?_, fun hq he h0 h1 ha => ?_, fun hq he h0 h1 ha => ?_⟩
  · exact requestRow_answers h hargs (handleAdvance_releasing hi lo (releaseInProgress_iff.2 hp))
  · refine ⟨_, requestRow_answers h hargs (handleAdvance_starts hi lo (still hq he) hd),
      (startAdvance_keeps ..).toSameGround, ?_⟩
    rw [startAdvance_eq hm, permitMoved_tracker, permitMoved_density, permitMoved_mc]
    exact ⟨rfl, rfl, taken_mode, rfl, rfl, taken_berthReached⟩
  · subst h0 h1
    exact requestRow_answers h hargs (handleAdvance_zero_none (still hq he) (taken_advance.trans ha))
  · subst h0 h1
    refine ⟨endAdvance (taken s f rest),
      requestRow_answers h hargs (handleAdvance_zero_some (still hq he) (by rwa [taken_advance])),
      (endAdvance_keeps _).toSameGround, endAdvance_advance _, endAdvance_tracker _, fun hu hb => ?_⟩
    rw [endAdvance_unload_mc (taken_mode.trans hu) (taken_berthed.trans hb)]
    refine ⟨taken_mode.trans hu, rfl, ?_⟩
    change ((taken s f rest).mc.berthReached || _) = _
    rw [taken_berthReached]
    rfl

/-! ## An exchange's distance (R12) -/

theorem advanceTravel_none (d : Int) (h : s.mc.advance = none) : advanceTravel d s = s := by
  unfold advanceTravel
  rw [h]

/-- The vehicle once an exchange has taken its distance from the advance. -/
def travelled (a : Advance) (d : Int) (s : State) : State :=
  { s with mc := { s.mc with advance := some { a with remaining := a.remaining - d } } }

theorem advanceTravel_goes {d : Int} (h : s.mc.advance = some a) (hd : d < a.remaining) :
    advanceTravel d s = travelled a d s := by
  unfold advanceTravel
  rw [h]
  exact if_neg (by omega)

theorem advanceTravel_ends {d : Int} (h : s.mc.advance = some a) (hd : a.remaining ≤ d) :
    advanceTravel d s = endAdvance (travelled a d s) := by
  unfold advanceTravel
  rw [h]
  exact if_pos (by omega)

/-- An exchange takes its distance from an advance, and ends one that is used up (R12). -/
theorem advanceTravel_answers (s : State) (d : Int) : (s.mc.advance = none → advanceTravel d s = s) ∧
    ∀ a, s.mc.advance = some a →
      (d < a.remaining →
        advanceTravel d s = { s with mc := { s.mc with advance := some { a with remaining := a.remaining - d } } }) ∧
      (a.remaining ≤ d → SameGround s (advanceTravel d s) ∧ (advanceTravel d s).mc.advance = none ∧
        (advanceTravel d s).tracker = s.tracker ∧
        (s.mc.mode = .unload → s.mc.berthed = false → (advanceTravel d s).mc.mode = .unload ∧
          (advanceTravel d s).mc.berthed = (s.permit.stationary && atStopPoint s))) := by
  refine ⟨advanceTravel_none d, fun a ha => ⟨advanceTravel_goes ha, fun hd => ?_⟩⟩
  have moved : SameGround s (travelled a d s) := ⟨rfl, rfl, rfl, rfl, rfl, rfl, rfl, rfl, rfl, rfl⟩
  rw [advanceTravel_ends ha hd]
  refine ⟨moved.trans (endAdvance_keeps _).toSameGround, endAdvance_advance _, endAdvance_tracker _, fun hm hb => ?_⟩
  rw [endAdvance_unload_mc (s := travelled a d s) hm hb]
  exact ⟨hm, rfl⟩

/-! ## The zone reports (R9, R12) -/

theorem atStopPoint_of (h : currentSegment s = some g) : atStopPoint s = (g.ceiling == 0) := by simp [atStopPoint, h]

theorem currentSegment_congr (h : t.tracker = s.tracker) (ht : t.tables = s.tables) :
    currentSegment t = currentSegment s := by simp only [currentSegment, h, ht]

theorem advanceEndsHere_none (h : s.mc.advance = none) : advanceEndsHere s = false := by simp [advanceEndsHere, h]

theorem advanceEndsHere_some (h : s.mc.advance = some a) (hg : currentSegment s = some g) :
    advanceEndsHere s = true ↔ g.ceiling = 0 ∧ a.startSegment ≠ s.tracker.segment := by
  simp [advanceEndsHere, h, atStopPoint_of hg]

theorem zoneReport_goes (h : advanceEndsHere (zoneChange s) = false) : zoneReport s = evalBerth (zoneChange s) := by
  simp [zoneReport, h]

theorem zoneReport_ends (h : advanceEndsHere (zoneChange s) = true) :
    zoneReport s = evalBerth (endAdvance (zoneChange s)) := by simp [zoneReport, h]

/-- A zone UNLOAD takes RUN to UNLOAD (R9). -/
theorem zoneChange_unload (hg : currentSegment s = some g) (hm : s.mc.mode = .run) (hz : g.zone = .unload)
    (hcalm : ¬(s.wli.rcTimeout < s.wli.rcSilence ∧ s.wli.rcReported = false)) :
    zoneChange s = enterMode .unload .none s := by
  rw [← changeMode_calm (by decide) hcalm]
  simp [zoneChange, hg, hm, hz]

/-- A zone LOAD takes UNLOAD with an advance to LOAD, and the advance stands against READY (R12). -/
theorem zoneChange_load (hg : currentSegment s = some g) (hm : s.mc.mode = .unload) (hz : g.zone = .load)
    (ha : s.mc.advance = some a) (hcalm : ¬(s.wli.rcTimeout < s.wli.rcSilence ∧ s.wli.rcReported = false)) :
    zoneChange s = enterMode .load .none s := by
  have changed : zoneChange s = evalReady (enterMode .load .none s) := by
    rw [← changeMode_calm (by decide) hcalm]
    simp [zoneChange, hg, hm, hz, ha]
  rw [changed]
  refine evalReady_advancing (.inl (enterMode_mode ..)) ?_
  rw [enterMode_mc]
  change s.mc.advance ≠ none
  rw [ha]
  exact nofun

theorem zoneChange_stays (hg : currentSegment s = some g) (hr : ¬(s.mc.mode = .run ∧ g.zone = .unload))
    (hu : ¬(s.mc.mode = .unload ∧ g.zone = .load ∧ s.mc.advance ≠ none)) : zoneChange s = s := by
  have hz : ((currentSegment s).map (·.zone)).getD .none = g.zone := by rw [hg]; rfl
  unfold zoneChange
  rw [hz]
  exact (if_neg hr).trans (if_neg fun ⟨h1, h2, h3⟩ => hu ⟨h1, h2, Option.isSome_iff_ne_none.1 h3⟩)

/-- A mode change within RUN, UNLOAD and LOAD leaves the position alone. -/
theorem enterMode_zone_tracker {new : Mode} (held : HeldFrom) (hm : s.mc.mode = .run ∨ s.mc.mode = .unload) :
    (enterMode new held s).tracker = s.tracker := by
  rw [enterMode_tracker]
  rcases hm with hm | hm <;> simp [hm]

/-- A lookup in a zone UNLOAD in RUN: the mode change, then berthing (R9, R10). -/
theorem zoneReport_unload (hg : currentSegment s = some g) (hm : s.mc.mode = .run) (hz : g.zone = .unload)
    (ha : s.mc.advance = none) (hcalm : ¬(s.wli.rcTimeout < s.wli.rcSilence ∧ s.wli.rcReported = false)) :
    SameGround s (zoneReport s) ∧ (zoneReport s).tracker = s.tracker ∧ (zoneReport s).mc.mode = .unload ∧
      (zoneReport s).mc.heldFrom = .none ∧ (zoneReport s).mc.berthed = (s.permit.stationary && g.ceiling == 0) ∧
      (zoneReport s).mc.berthReached = (s.permit.stationary && g.ceiling == 0) := by
  have htracker : (enterMode .unload .none s).tracker = s.tracker := enterMode_zone_tracker .none (.inl hm)
  have hmc : (enterMode .unload .none s).mc = s.mc.enter .unload .none := enterMode_mc ..
  have hadvance : (enterMode .unload .none s).mc.advance = none := by
    rw [hmc]
    exact ha
  have hstop : atStopPoint (enterMode .unload .none s) = (g.ceiling == 0) :=
    (atStopPoint_congr htracker (enterMode_tables ..)).trans (atStopPoint_of hg)
  have changed := zoneChange_unload hg hm hz hcalm
  have reported : zoneReport s = evalBerth (enterMode .unload .none s) := by
    rw [zoneReport_goes (by rw [changed]; exact advanceEndsHere_none hadvance), changed]
  have judged := evalBerth_judges (enterMode_mode ..) hadvance (by rw [hmc]; rfl)
  rw [hstop, (enterMode_formed ..).stationary, hmc] at judged
  rw [reported, judged]
  refine ⟨(enterMode_ground ..).trans (evalBerth_keeps _).toSameGround, (evalBerth_tracker _).trans htracker, rfl, rfl,
    rfl, ?_⟩
  simp [ModeController.enter, hm]

/-- A lookup in a zone LOAD in UNLOAD with an advance: the mode change, then the end of the advance at a stop point (R12). -/
theorem zoneReport_load (hg : currentSegment s = some g) (hm : s.mc.mode = .unload) (hz : g.zone = .load)
    (ha : s.mc.advance = some a) (hcalm : ¬(s.wli.rcTimeout < s.wli.rcSilence ∧ s.wli.rcReported = false)) :
    SameGround s (zoneReport s) ∧ (zoneReport s).tracker = s.tracker ∧
      (g.ceiling ≠ 0 ∨ a.startSegment = s.tracker.segment →
        (zoneReport s).mc.mode = .load ∧ (zoneReport s).mc.advance = some a) ∧
      (g.ceiling = 0 → a.startSegment ≠ s.tracker.segment →
        ((zoneReport s).mc.mode = .load ∨ (zoneReport s).mc.mode = .ready) ∧ (zoneReport s).mc.advance = none) := by
  have changed := zoneChange_load hg hm hz ha hcalm
  obtain ⟨v, hv⟩ : ∃ v, v = enterMode .load .none s := ⟨_, rfl⟩
  rw [← hv] at changed
  have htracker : v.tracker = s.tracker := by rw [hv, enterMode_zone_tracker .none (.inr hm)]
  have hground : SameGround s v := by
    rw [hv]
    exact enterMode_ground ..
  have hload : v.mc.mode = .load := by rw [hv, enterMode_mode]
  have hadvance : v.mc.advance = some a := by
    rw [hv, enterMode_mc]
    exact ha
  have hwli : v.wli = s.wli := by rw [hv, enterMode_reported _ _ _ (by decide)]
  have hends : advanceEndsHere v = true ↔ g.ceiling = 0 ∧ a.startSegment ≠ s.tracker.segment := by
    rw [advanceEndsHere_some hadvance ((currentSegment_congr htracker hground.tables).trans hg), htracker]
  have unberthed {w : State} (h : w.mc.mode = .load ∨ w.mc.mode = .ready) : evalBerth w = w :=
    evalBerth_unmet fun ⟨hu, _⟩ => by rcases h with h | h <;> exact absurd (h.symm.trans hu) nofun
  by_cases he : advanceEndsHere v = true
  · have hmodes := endAdvance_load hload (by rw [hwli]; exact hcalm)
    have reported : zoneReport s = endAdvance v := by
      rw [zoneReport_ends (by rw [changed]; exact he), changed, unberthed hmodes]
    obtain ⟨hceiling, hstart⟩ := hends.1 he
    rw [reported]
    exact ⟨hground.trans (endAdvance_keeps v).toSameGround, (endAdvance_tracker v).trans htracker,
      fun hn => absurd hstart (not_not.2 (hn.resolve_left (not_not.2 hceiling))),
      fun _ _ => ⟨hmodes, endAdvance_advance v⟩⟩
  · have reported : zoneReport s = v := by
      rw [zoneReport_goes (by rw [changed]; exact Bool.eq_false_iff.2 he), changed, unberthed (.inl hload)]
    rw [reported]
    exact ⟨hground, htracker, fun _ => ⟨hload, hadvance⟩, fun hc hs => absurd (hends.2 ⟨hc, hs⟩) he⟩

/-- A lookup whose zone changes no mode: the end of an advance at a stop point, then berthing (R10, R12). -/
theorem zoneReport_stays (hg : currentSegment s = some g) (hr : ¬(s.mc.mode = .run ∧ g.zone = .unload))
    (hu : ¬(s.mc.mode = .unload ∧ g.zone = .load ∧ s.mc.advance ≠ none)) :
    (∀ a, s.mc.advance = some a → g.ceiling = 0 → a.startSegment ≠ s.tracker.segment →
      SameGround s (zoneReport s) ∧ (zoneReport s).tracker = s.tracker ∧ (zoneReport s).mc.advance = none ∧
        (s.mc.mode = .unload → s.mc.berthed = false →
          (zoneReport s).mc.mode = .unload ∧ (zoneReport s).mc.berthed = s.permit.stationary)) ∧
    ((∀ a, s.mc.advance = some a → g.ceiling ≠ 0 ∨ a.startSegment = s.tracker.segment) →
      (s.mc.mode ≠ .unload ∨ s.mc.advance ≠ none ∨ s.permit.stationary = false ∨ g.ceiling ≠ 0 → zoneReport s = s) ∧
      (s.mc.mode = .unload → s.mc.advance = none → s.permit.stationary = true → g.ceiling = 0 →
        SameGround s (zoneReport s) ∧ (zoneReport s).mc = { s.mc with berthed := true, berthReached := true })) := by
  have changed := zoneChange_stays hg hr hu
  refine ⟨fun a ha hc hs => ?_, fun hn => ?_⟩
  · have reported : zoneReport s = evalBerth (endAdvance s) := by
      rw [zoneReport_ends (by rw [changed]; exact (advanceEndsHere_some ha hg).2 ⟨hc, hs⟩), changed]
    rw [reported]
    refine ⟨(endAdvance_keeps s).toSameGround.trans (evalBerth_keeps _).toSameGround,
      (evalBerth_tracker _).trans (endAdvance_tracker s), (evalBerth_advance _).trans (endAdvance_advance s),
      fun hm hb => ?_⟩
    have again : (evalBerth (endAdvance s)).mc = (endAdvance s).mc := by
      rw [endAdvance_unload hm]
      exact evalBerth_again _
    rw [again, endAdvance_unload_mc hm hb]
    refine ⟨hm, ?_⟩
    simp [atStopPoint_of hg, hc]
  · have hends : advanceEndsHere s = false := by
      cases ha : s.mc.advance with
      | none => exact advanceEndsHere_none ha
      | some a =>
        refine Bool.eq_false_iff.2 fun he => ?_
        obtain ⟨hc, hs⟩ := (advanceEndsHere_some ha hg).1 he
        exact (hn a ha).elim (fun h => h hc) fun h => hs h
    have reported : zoneReport s = evalBerth s := by
      rw [zoneReport_goes (by rw [changed]; exact hends), changed]
    rw [reported]
    refine ⟨fun h => evalBerth_unmet fun ⟨hm, ha, hs, hp⟩ => ?_, fun hm ha hs hc =>
      ⟨(evalBerth_keeps s).toSameGround, evalBerth_mc_met ⟨hm, ha, hs, by simp [atStopPoint_of hg, hc]⟩⟩⟩
    rw [atStopPoint_of hg, beq_iff_eq] at hp
    rcases h with h | h | h | h
    · exact h hm
    · exact h ha
    · exact absurd (h.symm.trans hs) nofun
    · exact h hp

/-- Settles O19: ADVANCE, an exchange's distance, and the zone reports, each by the parts it is made of. -/
theorem advanceIsTaken : Obligations.AdvanceIsTaken :=
  ⟨fun _ _ _ hi lo => advance_answers hi lo, advanceTravel_answers, fun _ _ => zoneReport_unload,
    fun _ _ _ => zoneReport_load, fun _ _ => zoneReport_stays⟩

end Sys2Proof.Machine
end

section
/-! PROOF. The position cursor through the READY evaluation, and a position that becomes unconfirmed (R39, R91). -/

namespace Sys2Proof.Machine

variable {s : State}

/-- The READY evaluation's mode changes leave the position cursor where it is (R91). -/
theorem enterMode_platform_cursor {new : Mode} (held : HeldFrom) (s : State) (h : new = .load ∨ new = .ready) :
    (enterMode new held s).cues.cursor = s.cues.cursor := by
  have hm (t : State) : t.mc = s.mc.enter new held → dispatchScene s.mc.mode t = t := by
    intro ht
    have : t.mc.mode ≠ .run := by rw [ht]; rcases h with rfl | rfl <;> exact nofun
    exact if_neg fun hc => this hc.2.1
  simp only [enterMode]
  rw [hm _ (by simp)]
  simp only [releaseAtModeChange_cues, formCeilings_cues, refreshPermit_cues, tellBlocks_cues]
  rcases h with rfl | rfl <;> rfl

theorem rcCheck_cursor (s : State) : (rcCheck s).cues.cursor = s.cues.cursor := by
  unfold rcCheck
  split
  · exact raiseFault_cursor ..
  · rfl

theorem evalReady_cursor (s : State) : (evalReady s).cues.cursor = s.cues.cursor := by
  have moved (new : Mode) (h : new = .load ∨ new = .ready) : (changeMode new .none s).cues.cursor = s.cues.cursor :=
    (rcCheck_cursor _).trans (enterMode_platform_cursor _ s h)
  unfold evalReady
  split
  · split
    · exact moved _ (.inr rfl)
    · rfl
  · split
    · rfl
    · exact moved _ (.inl rfl)
  all_goals rfl

theorem becomeUnsync_tracker (s : State) :
    (becomeUnsync s).tracker = { s.tracker with position := .unsync, expected := none, misses := 0 } := by
  rw [becomeUnsync, evalReady_tracker, formCeilings_tracker, refreshPermit_tracker]
  rfl

theorem becomeUnsync_cursor (s : State) : (becomeUnsync s).cues.cursor = .unplaced := by
  rw [becomeUnsync, evalReady_cursor, formCeilings_cues, refreshPermit_cues]
  rfl

/-- In OFFLINE no mode change follows, so the voices go on. -/
theorem becomeUnsync_sound (h : s.mc.mode = .offline) : (becomeUnsync s).sound = s.sound := by
  have halted : becomeUnsync s = formCeilings (refreshPermit (cuesUnsync (modTracker s fun t =>
      { t with position := .unsync, expected := none, misses := 0 }))) :=
    evalReady_halted (.inr (by rw [formCeilings_mc, refreshPermit_mc]; exact h))
  rw [halted, formCeilings_sound, refreshPermit_sound]
  rfl

end Sys2Proof.Machine
end

section
/-! PROOF. O30: TABLE_BEGIN (R23, R26, R42, R118). -/

namespace Sys2Proof.Machine

variable {s : State} {f : Frame} {rest : List Frame}

/-- The route table begun with its length, before the Position Tracker hears of it (R26). -/
def routeBegun (len : Nat) (s : State) : State :=
  s.setTables { s.tables with route := Table.begun _, routeLength := len }

theorem routeLengthInRange_iff {len : Nat} : routeLengthInRange len = true ↔ 10000 ≤ len ∧ len ≤ 2000000 := by
  simp [routeLengthInRange]

theorem handleTableBegin_route {a b c : Byte} (h : routeLengthInRange (beNat [a, b, c]) = true) :
    handleTableBegin [1, a, b, c] s = done [] (routeEmptied (routeBegun (beNat [a, b, c]) s)) := if_pos h

theorem handleTableBegin_length {a b c : Byte} (h : routeLengthInRange (beNat [a, b, c]) = false) :
    handleTableBegin [1, a, b, c] s = refuse .argument s := if_neg (by rw [h]; exact nofun)

theorem handleTableBegin_marker : handleTableBegin [2] s =
    done [] (becomeUnsync (s.setTables { s.tables with markers := Table.begun _ })) := rfl

theorem handleTableBegin_cue : handleTableBegin [3] s =
    done [] (s.setTables { s.tables with cues := Table.begun _ }) := rfl

theorem handleTableBegin_clip : handleTableBegin [4] s =
    done [] (clipsEmptied (s.setTables { s.tables with clips := Table.begun _ })) := rfl

/-- The emptied route reaches the Position Tracker and the blocks that hear of UNSYNC, not the ground (R31, R42). -/
theorem routeEmptied_ground (s : State) : SameGround s (routeEmptied s) :=
  (Keeps.setTracker s _).toSameGround.trans (becomeUnsync_keeps _).toSameGround

/-- V5 leaving its state for IDLE ends the ducking (R118, R134). -/
theorem clipsEmptied_duck (h : s.sound.voices[(5 : Fin 6)] ≠ none) : (clipsEmptied s).sound.duckTarget = 4096 := by
  obtain ⟨x, hx⟩ := Option.ne_none_iff_exists'.1 h
  have hv : s.sound.voices[announceVoice] = some x := hx
  simp [clipsEmptied, putVoice, Sound.setVoice, hv, Sound.duckTo]

/-- Settles O30: each table by its own branch; the effects on position and voices by the block that hears of them. -/
theorem tableBeginEmpties : Obligations.TableBeginEmpties := by
  have offline {f rest s} (h : Admitted .tableBegin f rest s) : (taken s f rest).mc.mode = .offline := by
    rw [taken_mode]
    simpa [Kind.takenIn] using h.mode
  refine ⟨fun f rest s a b c h hargs => ?_, fun f rest s h hargs => ?_, fun f rest s h hargs => ?_,
    fun f rest s h hargs => ?_⟩
  · rw [← beNat_three]
    refine ⟨fun hlo hhi => ⟨_, requestRow_answers h hargs (handleTableBegin_route (routeLengthInRange_iff.2 ⟨hlo, hhi⟩)),
      routeEmptied_ground _, becomeUnsync_tracker _, becomeUnsync_cursor _, becomeUnsync_sound (offline h)⟩, fun hout => ?_⟩
    refine requestRow_answers h hargs (handleTableBegin_length (Bool.eq_false_iff.2 fun hin => ?_))
    have := routeLengthInRange_iff.1 hin
    omega
  · exact ⟨_, requestRow_answers h hargs handleTableBegin_marker, (becomeUnsync_keeps _).toSameGround,
      becomeUnsync_tracker _, becomeUnsync_cursor _, becomeUnsync_sound (offline h)⟩
  · exact requestRow_answers h hargs handleTableBegin_cue
  · exact ⟨_, requestRow_answers h hargs handleTableBegin_clip, rfl, putVoice_voice_self _ _ _,
      fun v hv => putVoice_voice_ne _ _ hv.symm, fun hp => clipsEmptied_duck hp, rfl⟩

end Sys2Proof.Machine
end

section
/-! PROOF. O32: TABLE_END (R25), with the pair check of route and markers (R28). -/

namespace Sys2Proof.Machine

variable {s : State} {f : Frame} {rest : List Frame}

/-! ## One table -/

section
variable {α : Type} {t : Table α} {count crc : Nat} {put : Table α → State}

theorem Table.agrees_iff : t.agrees count crc = true ↔ t.entries.length = count ∧ t.crc.toNat = crc := by
  simp [Table.agrees]

/-- Without a pair to check, the agreement of count and CRC alone decides (R25). -/
theorem endTable_agrees (hl : t.status = .loading) (h : t.entries.length = count ∧ t.crc.toNat = crc) :
    endTable t (t.agrees count crc) put s =
      ⟨.done, [2] ++ be2 t.entries.length ++ be2 t.crc.toNat, put { t with status := .valid }⟩ := by
  rw [Table.agrees_iff.2 h]
  exact if_neg (not_not.2 hl)

theorem endTable_disagrees (hl : t.status = .loading) (h : ¬(t.entries.length = count ∧ t.crc.toNat = crc)) :
    endTable t (t.agrees count crc) put s =
      ⟨.done, [0] ++ be2 t.entries.length ++ be2 t.crc.toNat, put ⟨.invalid, [], 0xFFFF⟩⟩ := by
  rw [Bool.eq_false_iff.2 fun ha => h (Table.agrees_iff.1 ha)]
  exact if_neg (not_not.2 hl)

end

/-! ## The pair check (R28) -/

theorem pairFails_iff {t : Tables} : pairFails t = true ↔
    t.route.status = .valid ∧ t.markers.status = .valid ∧ ∃ m ∈ t.markers.entries, t.routeLength ≤ m.position := by
  simp [pairFails, and_assoc]

theorem pairCheck_passes (h : pairFails s.tables = false) : pairCheck s = s := if_neg (by rw [h]; exact nofun)

theorem pairCheck_fails (h : pairFails s.tables = true) :
    pairCheck s = becomeUnsync (s.setTables { s.tables with markers := ⟨.invalid, [], 0xFFFF⟩ }) := if_pos h

theorem pairCheck_tables (s : State) : (pairCheck s).tables =
    if pairFails s.tables then { s.tables with markers := ⟨.invalid, [], 0xFFFF⟩ } else s.tables := by
  split
  · next h => rw [pairCheck_fails h, (becomeUnsync_keeps _).tables, State.setTables_tables]
  · next h => rw [pairCheck_passes (Bool.eq_false_iff.2 h)]

theorem pairCheck_others (s : State) : (pairCheck s).tables.route = s.tables.route ∧
    (pairCheck s).tables.routeLength = s.tables.routeLength ∧ (pairCheck s).tables.cues = s.tables.cues ∧
    (pairCheck s).tables.clips = s.tables.clips := by
  rw [pairCheck_tables]
  split <;> exact ⟨rfl, rfl, rfl, rfl⟩

theorem pairCheck_spoils (h : pairFails s.tables = true) :
    (pairCheck s).tables.markers = ⟨.invalid, [], 0xFFFF⟩ ∧ (pairCheck s).tracker.position = .unsync := by
  refine ⟨by rw [pairCheck_tables, if_pos h], ?_⟩
  rw [pairCheck_fails h, becomeUnsync_tracker]

/-! ## The tables' ends -/

/-- The state once the route's end is judged, before the pair check. -/
def routeClosed (ok : Bool) (s : State) : State :=
  s.setTables { s.tables with route := s.tables.route.close ok, routeLength := if ok then s.tables.routeLength else 0 }

/-- The state once the markers' end is judged, before the pair check. -/
def markersClosed (ok : Bool) (s : State) : State :=
  s.setTables { s.tables with markers := s.tables.markers.close ok }

/-- A route is loaded when its count and CRC agree and it has an entry (R25). -/
def Table.routeLoaded (t : Table Segment) (count crc : Nat) : Bool := t.agrees count crc && !t.entries.isEmpty

theorem Table.routeLoaded_iff {t : Table Segment} {count crc : Nat} : t.routeLoaded count crc = true ↔
    t.entries.length = count ∧ t.crc.toNat = crc ∧ t.entries ≠ [] := by
  simp [Table.routeLoaded, Table.agrees_iff, and_assoc]

/-- A loaded route against the marker table (R28). -/
theorem pairFails_routeClosed : pairFails (routeClosed true s).tables = true ↔
    s.tables.markers.status = .valid ∧ ∃ m ∈ s.tables.markers.entries, s.tables.routeLength ≤ m.position := by
  simp [pairFails_iff, routeClosed, Table.close]

/-- Loaded markers against the route table (R28). -/
theorem pairFails_markersClosed : pairFails (markersClosed true s).tables = true ↔
    s.tables.route.status = .valid ∧ ∃ m ∈ s.tables.markers.entries, s.tables.routeLength ≤ m.position := by
  simp [pairFails_iff, markersClosed, Table.close]

theorem pairCheck_routeClosed (h : s.tables.markers.status ≠ .valid ∨
    ∀ m ∈ s.tables.markers.entries, m.position < s.tables.routeLength) :
    pairCheck (routeClosed true s) = routeClosed true s :=
  pairCheck_passes (Bool.eq_false_iff.2 fun hf => by
    obtain ⟨hv, m, hm, hle⟩ := pairFails_routeClosed.1 hf
    exact h.elim (· hv) fun h => absurd (h m hm) (not_lt.2 hle))

theorem pairCheck_markersClosed (h : s.tables.route.status ≠ .valid ∨
    ∀ m ∈ s.tables.markers.entries, m.position < s.tables.routeLength) :
    pairCheck (markersClosed true s) = markersClosed true s :=
  pairCheck_passes (Bool.eq_false_iff.2 fun hf => by
    obtain ⟨hv, m, hm, hle⟩ := pairFails_markersClosed.1 hf
    exact h.elim (· hv) fun h => absurd (h m hm) (not_lt.2 hle))

/-- A route that is not loaded is INVALID, so there is no pair to check. -/
theorem pairCheck_routeEmptied (s : State) : pairCheck (routeClosed false s) = routeClosed false s :=
  pairCheck_passes rfl

theorem pairCheck_markersEmptied (s : State) : pairCheck (markersClosed false s) = markersClosed false s :=
  pairCheck_passes (by simp [pairFails, markersClosed, Table.close, Table.empty])

variable {n1 n0 c1 c0 : Byte}

theorem handleTableEnd_cue : handleTableEnd [3, n1, n0, c1, c0] s =
    endTable s.tables.cues (s.tables.cues.agrees (beNat [n1, n0]) (beNat [c1, c0]))
      (fun x => s.setTables { s.tables with cues := x }) s := rfl

theorem handleTableEnd_clip : handleTableEnd [4, n1, n0, c1, c0] s =
    endTable s.tables.clips (s.tables.clips.agrees (beNat [n1, n0]) (beNat [c1, c0]))
      (fun x => s.setTables { s.tables with clips := x }) s := rfl

theorem handleTableEnd_route {ok : Bool} (hl : s.tables.route.status = .loading)
    (h : s.tables.route.routeLoaded (beNat [n1, n0]) (beNat [c1, c0]) = ok) :
    handleTableEnd [1, n1, n0, c1, c0] s =
      ⟨.done, be1 (s.tables.route.close ok).status.code ++ be2 s.tables.route.entries.length ++
        be2 s.tables.route.crc.toNat, pairCheck (routeClosed ok s)⟩ := by
  subst h
  exact if_neg (not_not.2 hl)

theorem handleTableEnd_marker {ok : Bool} (hl : s.tables.markers.status = .loading)
    (h : s.tables.markers.agrees (beNat [n1, n0]) (beNat [c1, c0]) = ok) :
    handleTableEnd [2, n1, n0, c1, c0] s =
      ⟨.done, be1 (s.tables.markers.close ok).status.code ++ be2 s.tables.markers.entries.length ++
        be2 s.tables.markers.crc.toNat, pairCheck (markersClosed ok s)⟩ := by
  subst h
  exact if_neg (not_not.2 hl)

/-- Settles O32: each table by the agreement of its count and CRC, route and markers then by the pair check. -/
theorem tableEndCloses : Obligations.TableEndCloses := by
  refine ⟨fun f rest s n1 n0 c1 c0 h hargs hl => ?_, fun f rest s n1 n0 c1 c0 h hargs hl => ?_,
    fun f rest s n1 n0 c1 c0 h hargs hl => ?_, fun f rest s n1 n0 c1 c0 h hargs hl => ?_⟩ <;> simp only [← beNat_two]
  · split
    · next ok => exact requestRow_answers h hargs (handleTableEnd_cue.trans (endTable_agrees hl ok))
    · next bad => exact requestRow_answers h hargs (handleTableEnd_cue.trans (endTable_disagrees hl bad))
  · split
    · next ok => exact requestRow_answers h hargs (handleTableEnd_clip.trans (endTable_agrees hl ok))
    · next bad => exact requestRow_answers h hargs (handleTableEnd_clip.trans (endTable_disagrees hl bad))
  · cases hok : s.tables.route.routeLoaded (beNat [n1, n0]) (beNat [c1, c0]) with
    | true =>
      obtain ⟨hn, hc, he⟩ := Table.routeLoaded_iff.1 hok
      obtain ⟨hroute, hlength, hcues, hclips⟩ := pairCheck_others (routeClosed true (taken s f rest))
      refine ⟨_, _, requestRow_answers h hargs (handleTableEnd_route hl hok), rfl, hcues, hclips,
        fun _ _ _ => ⟨rfl, hroute, hlength, fun hv hm => pairCheck_spoils (pairFails_routeClosed.2 ⟨hv, hm⟩), fun hv => ?_⟩,
        fun hbad => absurd hbad (by simp [hn, hc, he])⟩
      rw [pairCheck_routeClosed (s := taken s f rest) hv]
      exact ⟨rfl, rfl⟩
    | false =>
      have answer := requestRow_answers h hargs (handleTableEnd_route hl hok)
      rw [pairCheck_routeEmptied] at answer
      exact ⟨_, _, answer, rfl, rfl, rfl,
        fun hn hc he => absurd hok (by rw [Table.routeLoaded_iff.2 ⟨hn, hc, he⟩]; exact nofun),
        fun _ => ⟨rfl, rfl, rfl, rfl, rfl⟩⟩
  · cases hok : s.tables.markers.agrees (beNat [n1, n0]) (beNat [c1, c0]) with
    | true =>
      obtain ⟨hn, hc⟩ := Table.agrees_iff.1 hok
      obtain ⟨hroute, -, hcues, hclips⟩ := pairCheck_others (markersClosed true (taken s f rest))
      refine ⟨_, _, requestRow_answers h hargs (handleTableEnd_marker hl hok), rfl, hroute, hcues, hclips,
        fun _ _ => ⟨rfl, fun hv => ?_, fun hv hm => ?_⟩, fun hbad => absurd hbad (by simp [hn, hc])⟩
      · rw [pairCheck_markersClosed (s := taken s f rest) hv]
        rfl
      · exact (pairCheck_spoils (pairFails_markersClosed (s := taken s f rest).2 ⟨hv, hm⟩)).1
    | false =>
      have answer := requestRow_answers h hargs (handleTableEnd_marker hl hok)
      rw [pairCheck_markersEmptied] at answer
      exact ⟨_, _, answer, rfl, rfl, rfl, rfl,
        fun hn hc => absurd hok (by rw [Table.agrees_iff.2 ⟨hn, hc⟩]; exact nofun), fun _ => ⟨rfl, rfl, rfl⟩⟩

end Sys2Proof.Machine
end

section
/-! PROOF. O31 fails: a zone byte of no zone is read as NONE. In the last equation of `Zone.ofCode` the name `none` is the zone
NONE, so a route entry whose zone byte is 3 or more is appended where R26 refuses it ARGUMENT. -/

namespace Sys2Proof.Machine

/-- A route entry at 0 whose zone byte is 3, a code of no zone. -/
def zonelessBytes : List Byte := [0, 0, 0, 0, 0, 0, 0, 3, 0, 0]

/-- The TABLE_ENTRY that carries it. -/
def zonelessEntry : Frame :=
  { address := 1, addressing := .unicast, capture := ⟨0, 0, 0, 0⟩, source := .rc, tag := 0,
    kind := BitVec.ofNat 8 Kind.tableEntry.code, args := 1 :: zonelessBytes }

/-- The part in OFFLINE, its route table LOADING and empty on a route of 30 m, with that entry at the head of the queue. -/
def zonelessAsked : State :=
  { State.reset with
    startUp := ⟨.complete, Params.defaults⟩
    tables := ⟨Table.begun _, 30000, Table.empty _, Table.empty _, Table.empty _⟩
    wli := { State.reset.wli with queue := [zonelessEntry] } }

theorem zonelessEntry_admitted : Admitted .tableEntry zonelessEntry [] zonelessAsked where
  queue := rfl
  kind := rfl
  unicast := rfl
  room := by decide
  running := rfl
  authority := rfl
  preface := nofun
  mode := rfl

/-- No route entry has these bytes: the eighth byte of an entry is the code of a zone (R26, R186). -/
theorem Segment.bytes_ne_zoneless (g : Segment) : g.bytes ≠ zonelessBytes := by
  intro h
  have code : some (BitVec.ofNat 8 g.zone.code) = some 3 := congrArg (fun bytes : List Byte => bytes[7]?) h
  cases hz : g.zone <;> rw [hz] at code <;> exact absurd code (by decide)

/-- The code 3 is read as NONE, so the bytes are read as a segment. -/
theorem Segment.parse_zoneless : Segment.parse 30000 zonelessBytes = some ⟨0, 0, 0, .none, 0, 0⟩ := by
  have hzone : Zone.ofCode 3 = some Zone.none := rfl
  simp [Segment.parse, zonelessBytes, hzone, runIndex, beNat, beInt, Segment.inRange]

theorem handleTableEntry_route {bytes : List Byte} {s : State} : handleTableEntry (1 :: bytes) s =
    takeEntry s.tables.route (Segment.parse s.tables.routeLength bytes) checkSegment bytes
      (fun x => s.setTables { s.tables with route := x }) s := rfl

theorem takeEntry_push {α : Type} {t : Table α} {entry : α} {check : Table α → Option α → Option Status}
    {bytes : List Byte} {put : Table α → State} {s : State} (hl : t.status = .loading)
    (hc : check t (some entry) = none) :
    takeEntry t (some entry) check bytes put s = done [] (put (t.push entry bytes)) := by
  simp [takeEntry, hl, hc]

/-- The model appends that segment. -/
theorem handleTableEntry_zoneless : ∃ t,
    handleTableEntry zonelessEntry.args (taken zonelessAsked zonelessEntry []) = done [] t ∧
      t.tables.route.entries = [⟨0, 0, 0, .none, 0, 0⟩] := by
  have parsed : Segment.parse (taken zonelessAsked zonelessEntry []).tables.routeLength zonelessBytes = _ :=
    Segment.parse_zoneless
  have appended := handleTableEntry_route (bytes := zonelessBytes) (s := taken zonelessAsked zonelessEntry [])
  rw [parsed, takeEntry_push rfl rfl] at appended
  exact ⟨_, appended, rfl⟩

/-- A request has one response: two answers to it give the same status. -/
theorem answered_status {f : Frame} {st st' : Status} {data data' : List Byte} {t t' : State}
    (h : answered f st data t = answered f st' data' t') : st = st' := by
  have last := congrArg (fun u : State => u.wli.outgoing.getLast?.map Response.status) h
  simpa [answered] using last

/-- Refutes O31: bytes that no route entry in range has are answered DONE, not ARGUMENT. -/
theorem not_tableEntryAppends : ¬Obligations.TableEntryAppends := by
  rintro ⟨-, -, -, -, -, -, -, -, -, -, notEntries⟩
  obtain ⟨notSegment, -, -, -⟩ := notEntries zonelessEntry [] zonelessAsked zonelessBytes zonelessEntry_admitted
  have refused := notSegment rfl rfl (by decide) fun g _ => g.bytes_ne_zoneless
  obtain ⟨t, appended, -⟩ := handleTableEntry_zoneless
  have answer : exec .tableEntry zonelessAsked = _ := requestRow_admitted zonelessEntry_admitted appended
  exact absurd (answered_status (Host.Outcome.next.inj (answer.symm.trans refused))) nofun

end Sys2Proof.Machine
end

section
/-! PROOF. The movements of an exchange for O51: what a lookup and a movement leave of the tracker, and the position faults
found in them (R30, R32, R38, R39). -/

namespace Sys2Proof.Machine

variable {s t u : State}

/-! ## Lookups (R32) -/

theorem zoneChange_tracker (s : State) : (zoneChange s).tracker = s.tracker := by
  have changed {new : Mode} (held : HeldFrom) (hm : s.mc.mode = .run ∨ s.mc.mode = .unload) :
      (changeMode new held s).tracker = s.tracker := (changeMode_tracker ..).trans (enterMode_zone_tracker held hm)
  unfold zoneChange
  dsimp only
  split
  · next h => exact changed _ (.inl h.1)
  · split
    · next h => exact (evalReady_tracker _).trans (changed _ (.inr h.1))
    · rfl

theorem zoneReport_tracker (s : State) : (zoneReport s).tracker = s.tracker := by
  have changed := zoneChange_tracker s
  refine (evalBerth_tracker _).trans ?_
  split
  · exact (endAdvance_tracker _).trans changed
  · exact changed

/-- A lookup writes the segment alone of the tracker's items. -/
theorem lookup_tracker (s : State) : (lookup s).tracker = { s.tracker with segment := segmentAt s } := by
  rw [lookup, zoneReport_tracker, formAhead_tracker]
  rfl

/-- In HALT, where no advance is present, the zone moves nothing. -/
theorem zoneReport_halt (hm : s.mc.mode = .halt) (ha : s.mc.advance = none) : zoneReport s = s := by
  have changed : zoneChange s = s := by simp [zoneChange, hm]
  rw [zoneReport_goes (by rw [changed]; exact advanceEndsHere_none ha), changed]
  exact evalBerth_unmet fun ⟨hu, _⟩ => absurd (hm.symm.trans hu) nofun

theorem lookup_halt (hm : s.mc.mode = .halt) (ha : s.mc.advance = none) :
    lookup s = formAhead (modTracker s fun t => { t with segment := segmentAt s }) :=
  zoneReport_halt (by rw [formAhead_mc]; exact hm) (by rw [formAhead_mc]; exact ha)

/-! ## Position faults (R39) -/

theorem positionFault_tracker (sub : SubCause) (detail : Nat) (s : State) :
    (positionFault sub detail s).tracker = { s.tracker with position := .unsync, expected := none, misses := 0 } :=
  (positionFault_faulted sub detail s).tracker

theorem PositionFaulted.unsync {sub : SubCause} {detail : Nat} (h : PositionFaulted sub detail s t) : isSync t = false := by
  simp [isSync, h.tracker]

/-- The fault is the same whatever the misses and the expected marker were. -/
theorem PositionFaulted.of_missed {sub : SubCause} {detail misses : Nat} {expected : Option Nat}
    (h : PositionFaulted sub detail { s with tracker := { s.tracker with misses := misses, expected := expected } } t) :
    PositionFaulted sub detail s t := ⟨h.tracker, h.cursor, h.logged, h.halts⟩

/-- From RUN a position fault leaves no advance behind (R2, R14). -/
theorem positionFault_run_advance (sub : SubCause) (detail : Nat) (h : s.mc.mode = .run) :
    (positionFault sub detail s).mc.advance = none := by
  have entered (v : State) (hv : v.mc.mode = .run) : (takeFault .position sub detail v).mc.advance = none := by
    rw [takeFault_mc (by rw [hv]; decide) (by rw [hv]; decide)]
    rfl
  exact evalReady_advance_none (by rw [formCeilings_mc, refreshPermit_mc]; exact entered _ h)

/-! ## The rollback check (R38) -/

theorem rollbackCheck_forward (h : rollback s < 0) :
    rollbackCheck s = { s with tracker := { s.tracker with highWater := s.tracker.p } } := if_pos h

theorem rollbackCheck_fault (hm : s.mc.mode = .run ∨ s.mc.mode = .unload)
    (h : 10 * (s.params.rollbackLimit : Int) < rollback s) : rollbackCheck s = positionFault .rollback 0 s := by
  unfold rollbackCheck
  rw [if_neg (by omega), if_pos ⟨hm, h⟩]

theorem rollbackCheck_within (h0 : 0 ≤ rollback s)
    (h : ¬((s.mc.mode = .run ∨ s.mc.mode = .unload) ∧ 10 * (s.params.rollbackLimit : Int) < rollback s)) :
    rollbackCheck s = s := by
  unfold rollbackCheck
  rw [if_neg (by omega), if_neg h]

/-! ## Movements (R32) -/

/-- P and the last correction stay, and no miss is counted. -/
structure PositionKept (a b : Tracker) : Prop where
  p : b.p = a.p
  lastCorrection : b.lastCorrection = a.lastCorrection
  misses : a.misses = 0 → b.misses = 0

theorem PositionKept.refl (a : Tracker) : PositionKept a a := ⟨rfl, rfl, id⟩

theorem PositionKept.trans {a b c : Tracker} (h : PositionKept a b) (k : PositionKept b c) : PositionKept a c :=
  ⟨k.p.trans h.p, k.lastCorrection.trans h.lastCorrection, k.misses ∘ h.misses⟩

theorem lookup_positionKept (s : State) : PositionKept s.tracker (lookup s).tracker := by
  rw [lookup_tracker]
  exact ⟨rfl, rfl, id⟩

theorem positionFault_positionKept (sub : SubCause) (detail : Nat) (s : State) :
    PositionKept s.tracker (positionFault sub detail s).tracker := by
  rw [positionFault_tracker]
  exact ⟨rfl, rfl, fun _ => rfl⟩

theorem rollbackCheck_positionKept (s : State) : PositionKept s.tracker (rollbackCheck s).tracker := by
  unfold rollbackCheck
  dsimp only
  split
  · exact ⟨rfl, rfl, id⟩
  · split
    · exact positionFault_positionKept ..
    · exact .refl _

theorem movement_sync (before after : Nat) (forward wrap : Bool) (h : (lookup s).tracker.position = .sync) :
    movement before after forward wrap s = rollbackCheck (cueMovement before after forward wrap (lookup s)) :=
  if_pos (by simp [isSync, h])

theorem movement_unsync (before after : Nat) (forward wrap : Bool) (h : (lookup s).tracker.position = .unsync) :
    movement before after forward wrap s = lookup s :=
  if_neg (by simp [isSync, h])

theorem movement_positionKept (before after : Nat) (forward wrap : Bool) (s : State) :
    PositionKept s.tracker (movement before after forward wrap s).tracker := by
  have looked := lookup_positionKept s
  cases h : (lookup s).tracker.position with
  | sync =>
    rw [movement_sync _ _ _ _ h]
    have checked := rollbackCheck_positionKept (cueMovement before after forward wrap (lookup s))
    rw [(cueMovement_only ..).tracker] at checked
    exact looked.trans checked
  | unsync =>
    rw [movement_unsync _ _ _ _ h]
    exact looked

/-- The parts of a movement, in the words of O51. -/
theorem movement_parts (s : State) (before after : Nat) (forward wrap : Bool) : ∃ t,
    t = zoneReport (formAhead { s with tracker := { s.tracker with segment := segmentAt s } }) ∧
    (t.tracker.position = .sync →
      movement before after forward wrap s = rollbackCheck (cueMovement before after forward wrap t)) ∧
    (t.tracker.position = .unsync → movement before after forward wrap s = t) :=
  ⟨lookup s, rfl, movement_sync _ _ _ _, movement_unsync _ _ _ _⟩

/-! ## Integration (R30) -/

theorem backwardWrapFaults_iff {sum : Int} :
    backwardWrapFaults s sum = true ↔ sum < 0 ∧ s.mc.mode = .run ∧ s.tracker.position = .sync := by
  simp [backwardWrapFaults, isSync, and_assoc]

/-- Without a backward wrap in RUN the distance is added and the movement follows. -/
theorem integrate_moves {d sum : Int} {p : Nat} (hsum : sum = s.tracker.p + d)
    (hp : (p : Int) = sum % (10 * s.tables.routeLength : Nat))
    (h : ¬(sum < 0 ∧ s.mc.mode = .run ∧ s.tracker.position = .sync)) :
    integrate d s =
      movement s.tracker.p p (decide (0 < d)) (decide ((routeLen s : Int) ≤ sum))
        (moveTo p (decide ((routeLen s : Int) ≤ sum)) s) := by
  have hafter : (sum % (routeLen s : Int)).toNat = p := by rw [routeLen, ← hp, Int.toNat_natCast]
  unfold integrate
  dsimp only
  rw [← hsum, hafter, if_neg fun hf => h (backwardWrapFaults_iff.1 hf)]

/-- A backward wrap in RUN: the fault first, then the lookup alone (log 18). -/
theorem integrate_faults {d sum : Int} {p : Nat} (hsum : sum = s.tracker.p + d)
    (hp : (p : Int) = sum % (10 * s.tables.routeLength : Nat)) (hneg : sum < 0) (hm : s.mc.mode = .run)
    (hs : s.tracker.position = .sync) : integrate d s = lookup (positionFault .rollback 0 (moveTo p false s)) := by
  have hafter : (sum % (routeLen s : Int)).toNat = p := by rw [routeLen, ← hp, Int.toNat_natCast]
  have hwrap : decide ((routeLen s : Int) ≤ sum) = false := decide_eq_false (by omega)
  unfold integrate
  dsimp only
  rw [← hsum, hafter, hwrap, if_pos (backwardWrapFaults_iff.2 ⟨hneg, hm, hs⟩)]
  exact movement_unsync _ _ _ _ (by rw [lookup_tracker, positionFault_tracker])

end Sys2Proof.Machine
end

section
/-! PROOF. Marker reads for O51: captures, misses, the placing of a read, acquisitions and the overdue check (R33 to R37). -/

namespace Sys2Proof.Machine

variable {s t : State} {entries : List Marker} {i e n : Nat} {m next : Marker} {d : Int}

/-! ## The marker table in use (R27) -/

/-- The marker table is VALID with these entries. -/
def MarkersLoaded (entries : List Marker) (s : State) : Prop := s.tables.markers = ⟨.valid, entries, s.tables.markers.crc⟩

theorem MarkersLoaded.inUse (h : MarkersLoaded entries s) : s.tables.markers.inUse = entries := by
  unfold Table.inUse
  rw [show s.tables.markers = _ from h]
  rfl

theorem MarkersLoaded.count (h : MarkersLoaded entries s) : markerCount s = entries.length := by rw [markerCount, h.inUse]

theorem MarkersLoaded.at (h : MarkersLoaded entries s) (i : Nat) : markerAt s i = entries[i]? := by rw [markerAt, h.inUse]

/-- The marker after the last is the first (R27). -/
theorem MarkersLoaded.after (h : MarkersLoaded entries s) (hi : entries[i]? = some m) :
    markerAfter s i = (i + 1) % entries.length := by
  obtain ⟨hlt, -⟩ := List.getElem?_eq_some_iff.1 hi
  unfold markerAfter
  rw [h.count]
  split
  · next hin => rw [Nat.mod_eq_of_lt hin]
  · next hout => rw [show i + 1 = entries.length by omega, Nat.mod_self]

/-! ## Captures (R36) -/

theorem capture_beyond (hd : d = shortest (10 * s.tables.routeLength) (10 * (m.position : Int) - s.tracker.p))
    (h : 10 * (m.window : Int) < |d|) : capture i m s = (positionFault .discrepancy m.id s, false) := by
  subst hd
  exact if_pos h

theorem capture_within (hd : d = shortest (10 * s.tables.routeLength) (10 * (m.position : Int) - s.tracker.p))
    (h : |d| ≤ 10 * (m.window : Int)) : capture i m s = correct i m d s := by
  subst hd
  exact if_neg (not_lt.2 h)

/-- The correction as it is recorded, before the movement. -/
def corrected (i : Nat) (m : Marker) (d : Int) (s : State) : State :=
  moveTo (10 * m.position) (decide (0 < d ∧ (routeLen s : Int) ≤ s.tracker.p + d))
    (modTracker s fun t => { t with lastCorrection := d, misses := 0, expected := some (markerAfter s i) })

/-- P is at the marker, and the movement that follows keeps it there. -/
theorem correct_positionKept (i : Nat) (m : Marker) (d : Int) (s : State) :
    PositionKept (corrected i m d s).tracker (correct i m d s).1.tracker := movement_positionKept ..

/-! ## Misses (R37) -/

/-- One miss counted, with the marker after it expected. -/
def missedOnce (n : Nat) (s : State) : State := { s with tracker := { s.tracker with misses := 1, expected := some n } }

theorem missExpected_first (he : s.tracker.expected = some e) (hm : s.tracker.misses = 0) :
    missExpected s = missedOnce (markerAfter s e) s := by
  simp [missExpected, missedOnce, State.setTracker, he, hm]

/-- The second is a position fault that names the marker. -/
theorem missExpected_again (he : s.tracker.expected = some e) (ha : markerAt s e = some m) (hm : 1 ≤ s.tracker.misses) :
    PositionFaulted .missed m.id s (missExpected s) := by
  have faults : missExpected s = positionFault .missed m.id
      { s with tracker := { s.tracker with misses := s.tracker.misses + 1, expected := some (markerAfter s e) } } := by
    simp only [missExpected, he, ha]
    exact if_pos (Nat.succ_le_succ hm)
  rw [faults]
  exact (positionFault_faulted ..).of_missed

/-- Two misses from none: the fault names the second marker. -/
theorem missExpected_twice (hl : MarkersLoaded entries s) (he : s.tracker.expected = some e) (hm : s.tracker.misses = 0)
    (hn : markerAfter s e = n) (hnext : entries[n]? = some next) :
    PositionFaulted .missed next.id s (missExpected (missExpected s)) := by
  have again : PositionFaulted .missed next.id (missedOnce n s) (missExpected (missedOnce n s)) :=
    missExpected_again rfl ((hl.at n).trans hnext) (le_refl 1)
  rw [missExpected_first he hm, hn]
  exact again.of_missed

/-! ## A read while SYNC (R35) -/

/-- How far a read lies past the expected marker. -/
def readPlace (s : State) (i : Nat) : Nat := (i + markerCount s - s.tracker.expected.getD i) % markerCount s

theorem placeRead_expected (h : readPlace s i = 0) : placeRead i m s = capture i m s := if_pos h

/-- What a read comes to once the markers before it are missed: a capture, unless a miss was a fault. -/
def placedAfter (i : Nat) (m : Marker) (t : State) : State × Bool := if isSync t then capture i m t else (t, false)

theorem placedAfter_faulted {sub : SubCause} {detail : Nat} (h : PositionFaulted sub detail s t) :
    placedAfter i m t = (t, false) := if_neg (by rw [h.unsync]; exact nofun)

theorem placeRead_one (h : readPlace s i = 1) : placeRead i m s = placedAfter i m (missExpected s) := by
  unfold readPlace at h
  simp [placeRead, h, placedAfter]

/-- The marker after the expected one is missed too, unless the first miss was a fault. -/
def secondMiss (s : State) : State := if isSync (missExpected s) then missExpected (missExpected s) else missExpected s

theorem placeRead_two (h : readPlace s i = 2) : placeRead i m s = placedAfter i m (secondMiss s) := by
  unfold readPlace at h
  unfold placeRead
  dsimp only
  rw [if_neg (by omega), if_neg (by omega), if_pos h]
  rfl

theorem placeRead_order (h : 3 ≤ readPlace s i) : placeRead i m s = (positionFault .order m.id s, false) := by
  unfold placeRead
  unfold readPlace at h
  dsimp only
  rw [if_neg (by omega), if_neg (by omega), if_neg (by omega)]

/-- A fault at the first skipped marker ends the placing. -/
theorem placeRead_faulted {sub : SubCause} {detail : Nat} (h : PositionFaulted sub detail s (missExpected s))
    (hk : readPlace s i = 1 ∨ readPlace s i = 2) : placeRead i m s = (missExpected s, false) := by
  rcases hk with hk | hk
  · rw [placeRead_one hk, placedAfter_faulted h]
  · have second : secondMiss s = missExpected s := if_neg (by rw [h.unsync]; exact nofun)
    rw [placeRead_two hk, second, placedAfter_faulted h]

/-! ## Marker reads (R33) -/

theorem markerRead_zero (s : State) : markerRead 0 s = (s, false) := rfl

theorem markerRead_unknown {id : Nat} (hl : MarkersLoaded entries s) (hid : id ≠ 0) (h : ∀ o ∈ entries, o.id ≠ id) :
    markerRead id s =
      ({ s with tracker := { s.tracker with unknownMarkers := min (s.tracker.unknownMarkers + 1) 65535 } }, false) := by
  have absent : s.tables.markers.inUse.findIdx? (fun m => m.id == id) = none := by
    rw [hl.inUse, List.findIdx?_eq_none_iff]
    simpa using h
  simp only [markerRead, if_neg hid, absent]
  rfl

theorem markerRead_known {id : Nat} (hl : MarkersLoaded entries s) (hid : id ≠ 0) (hi : entries[i]? = some m)
    (hm : m.id = id) (hu : ∀ j o, entries[j]? = some o → o.id = id → j = i) :
    markerRead id s = if isSync s then placeRead i m s else (acquire i m s, false) := by
  have found : s.tables.markers.inUse.findIdx? (fun m => m.id == id) = some i := by
    obtain ⟨hlt, hget⟩ := List.getElem?_eq_some_iff.1 hi
    rw [hl.inUse, List.findIdx?_eq_some_iff_getElem]
    refine ⟨hlt, by simp [hget, hm], fun j hj => ?_⟩
    have other : (entries[j]'(hj.trans hlt)).id ≠ id := fun h =>
      absurd (hu j _ (List.getElem?_eq_getElem (hj.trans hlt)) h) (Nat.ne_of_lt hj)
    simpa using other
  simp only [markerRead, if_neg hid, found, hl.at, hi]

/-! ## Acquisition (R34, R91) -/

/-- The tracker's items as the marker sets them. -/
def acquired (i : Nat) (m : Marker) (s : State) : State :=
  modTracker s fun t =>
    { t with
      p := 10 * m.position, position := .sync, highWater := 10 * m.position, expected := some (markerAfter s i), misses := 0
      lastCorrection := shortest (routeLen s) (10 * (m.position : Int) - s.tracker.p) }

/-- The position cursor is placed in an online mode. -/
def cursorPlaced (s : State) : State := if s.mc.mode.online then placeCursor s else s

theorem acquire_eq (i : Nat) (m : Marker) (s : State) :
    acquire i m s = evalReady (formCeilings (refreshPermit (cursorPlaced (lookup (acquired i m s))))) := rfl

theorem cursorPlaced_only (s : State) : OnlyShow s (cursorPlaced s) := by
  unfold cursorPlaced
  split
  · exact placeCursor_only s
  · exact .refl s

theorem acquire_tracker (i : Nat) (m : Marker) (s : State) :
    (acquire i m s).tracker = { (acquired i m s).tracker with segment := segmentAt (acquired i m s) } := by
  rw [acquire_eq, evalReady_tracker, formCeilings_tracker, refreshPermit_tracker, (cursorPlaced_only _).tracker,
    lookup_tracker]

/-- The segment is the last that starts at or below the marker (R32). -/
theorem segmentAt_acquired {k : Nat} (hr : s.tables.route.status = .valid)
    (hk : k + 1 = (s.tables.route.entries.filter fun g => decide (g.start ≤ m.position)).length) :
    segmentAt (acquired i m s) = some k := by
  have hp : (acquired i m s).tracker.p / 10 = m.position := Nat.mul_div_cancel_left _ (by decide)
  have hroute : (acquired i m s).tables.route.inUse = s.tables.route.entries := if_pos hr
  unfold segmentAt
  simp only [hp, hroute, ← hk]
  rfl

/-! ### The position cursor after an acquisition -/

/-- The part stays online. -/
def StaysOnline (s t : State) : Prop := s.mc.mode ≠ .offline → t.mc.mode ≠ .offline

theorem rcCheck_online (s : State) : StaysOnline s (rcCheck s) := by
  intro h
  unfold rcCheck
  split
  · rw [raiseFault_mc]
    split
    · exact h
    · exact nofun
  · exact h

theorem changeMode_online {new : Mode} (held : HeldFrom) (s : State) (h : new ≠ .offline) :
    (changeMode new held s).mc.mode ≠ .offline := rcCheck_online _ (by rw [enterMode_mode]; exact h)

theorem evalReady_online (s : State) : StaysOnline s (evalReady s) := by
  intro h
  unfold evalReady
  split
  · split
    · exact changeMode_online _ _ (by decide)
    · exact h
  · split
    · exact h
    · exact changeMode_online _ _ (by decide)
  all_goals exact h

theorem zoneChange_online (s : State) : StaysOnline s (zoneChange s) := by
  intro h
  unfold zoneChange
  dsimp only
  split
  · exact changeMode_online _ _ (by decide)
  · split
    · exact evalReady_online _ (changeMode_online _ _ (by decide))
    · exact h

theorem endAdvance_online (s : State) : StaysOnline s (endAdvance s) := fun h =>
  evalReady_online _ (by rw [evalBerth_mode, permitMoved_mc]; exact h)

theorem zoneReport_online (s : State) : StaysOnline s (zoneReport s) := by
  intro h
  have changed := zoneChange_online s h
  unfold zoneReport
  dsimp only
  rw [evalBerth_mode]
  split
  · exact endAdvance_online _ changed
  · exact changed

theorem lookup_online (s : State) : StaysOnline s (lookup s) := by
  intro h
  exact zoneReport_online _ (by rw [formAhead_mc]; exact h)

/-- The cursor's place comes from P and the cue table alone (R91). -/
theorem placeCursor_congr (hp : t.tracker.p = s.tracker.p) (hc : t.tables.cues = s.tables.cues) :
    (placeCursor t).cues.cursor = (placeCursor s).cues.cursor := by
  unfold placeCursor
  simp only [hp, hc]
  split <;> rfl

theorem acquire_cursor (h : s.mc.mode ≠ .offline) : (acquire i m s).cues.cursor =
    (placeCursor { s with tracker := (acquire i m s).tracker }).cues.cursor := by
  have hon : (lookup (acquired i m s)).mc.mode.online = true := by
    have := lookup_online (acquired i m s) h
    simpa [Mode.online] using this
  have placed : cursorPlaced (lookup (acquired i m s)) = placeCursor (lookup (acquired i m s)) := if_pos hon
  have hcursor : (acquire i m s).cues.cursor = (placeCursor (lookup (acquired i m s))).cues.cursor := by
    rw [acquire_eq, evalReady_cursor, formCeilings_cues, refreshPermit_cues, placed]
  rw [hcursor]
  refine placeCursor_congr ?_ ?_
  · rw [(lookup_positionKept _).p, acquire_tracker]
  · rw [(lookup_keeps _).tables]
    rfl

/-! ## The overdue check (R37) -/

theorem overdue_eq (hl : MarkersLoaded entries s) (hs : s.tracker.position = .sync) (he : s.tracker.expected = some e)
    (hm : entries[e]? = some m) : overdue s =
      decide (10 * (m.window : Int) < shortest (10 * s.tables.routeLength) ((s.tracker.p : Int) - 10 * m.position)) := by
  have hat : (some e).bind (markerAt s) = some m := (hl.at e).trans hm
  simp only [overdue, isSync, hs, he, hat]
  rfl

theorem overdueCheck_stops (k : Nat) (h : overdue s = false) : overdueCheck k s = s := by
  cases k with
  | zero => rfl
  | succ k => exact if_neg (by rw [h]; exact nofun)

theorem overdueCheck_misses (k : Nat) (h : overdue s = true) : overdueCheck (k + 1) s = overdueCheck k (missExpected s) :=
  if_pos h

/-- While UNSYNC no marker is overdue. -/
theorem overdue_unsync (h : isSync s = false) : overdue s = false := by simp [overdue, h]

/-- A fault ends the check. -/
theorem overdueCheck_faulted {sub : SubCause} {detail : Nat} (k : Nat) (h : PositionFaulted sub detail s t) :
    PositionFaulted sub detail s (overdueCheck k t) := by
  rwa [overdueCheck_stops k (overdue_unsync h.unsync)]

end Sys2Proof.Machine
end

section
/-! PROOF. O51: an exchange of the Position Tracker from its parts (R30 to R39). -/

namespace Sys2Proof.Machine

variable {s t u : State} {entries : List Marker} {i e n k : Nat} {m skipped next : Marker} {d : Int}

/-! ## The placing of a read, by its distance from the expected marker (R35) -/

theorem MarkersLoaded.place (hl : MarkersLoaded entries s) (he : s.tracker.expected = some e) (i : Nat) :
    readPlace s i = (i + entries.length - e) % entries.length := by
  rw [readPlace, hl.count, he]
  rfl

theorem placeRead_first_miss (hl : MarkersLoaded entries s) (hs : s.tracker.position = .sync)
    (he : s.tracker.expected = some e) (hat : entries[e]? = some skipped) (hk : readPlace s i = 1)
    (hm : s.tracker.misses = 0) :
    placeRead i m s = capture i m (missedOnce ((e + 1) % entries.length) s) := by
  have missed := missExpected_first he hm
  rw [hl.after hat] at missed
  rw [placeRead_one hk, missed]
  exact if_pos (by simp [isSync, missedOnce, hs])

theorem placeRead_second_miss (hl : MarkersLoaded entries s) (hs : s.tracker.position = .sync)
    (he : s.tracker.expected = some e) (hat : entries[e]? = some skipped)
    (hnext : entries[(e + 1) % entries.length]? = some next) (hk : readPlace s i = 2) (hm : s.tracker.misses = 0) :
    PositionFaulted .missed next.id s (placeRead i m s).1 ∧ (placeRead i m s).2 = false := by
  have faulted := missExpected_twice hl he hm (hl.after hat) hnext
  have second : secondMiss s = missExpected (missExpected s) :=
    if_pos (by rw [missExpected_first he hm]; simp [isSync, missedOnce, hs])
  rw [placeRead_two hk, second, placedAfter_faulted faulted]
  exact ⟨faulted, rfl⟩

/-! ## The overdue check, by the two markers that can be overdue (R37) -/

theorem overdueCheck_first_miss (hl : MarkersLoaded entries s) (he : s.tracker.expected = some e)
    (hat : entries[e]? = some m) (hm : s.tracker.misses = 0) (ho : overdue s = true) :
    overdueCheck 3 s = overdueCheck 2 (missedOnce ((e + 1) % entries.length) s) := by
  rw [overdueCheck_misses 2 ho, missExpected_first he hm, hl.after hat]

theorem overdueCheck_second_miss (hl : MarkersLoaded entries s) (he : s.tracker.expected = some e)
    (hat : entries[e]? = some m) (hnext : entries[(e + 1) % entries.length]? = some next) (hm : s.tracker.misses = 0)
    (ho : overdue s = true) (hn : overdue (missedOnce ((e + 1) % entries.length) s) = true) :
    PositionFaulted .missed next.id s (overdueCheck 3 s) := by
  have missed := missExpected_first he hm
  rw [hl.after hat] at missed
  rw [overdueCheck_misses 2 ho, overdueCheck_misses 1 (by rw [missed]; exact hn)]
  exact overdueCheck_faulted 1 (missExpected_twice hl he hm (hl.after hat) hnext)

/-! ## A backward wrap in RUN (R30, log 18) -/

theorem integrate_wraps_back {sum : Int} {p : Nat} (hsum : sum = s.tracker.p + d)
    (hp : (p : Int) = sum % (10 * s.tables.routeLength : Nat)) (hneg : sum < 0) (hm : s.mc.mode = .run)
    (hs : s.tracker.position = .sync) :
    (integrate d s).tracker.p = p ∧ (integrate d s).tracker.position = .unsync ∧
      (integrate d s).tracker.highWater = s.tracker.highWater ∧ (integrate d s).mc.mode = .halt ∧
      .position ∈ (integrate d s).permit.active ∧
      ∃ n, (n, ⟨.position, .rollback, 0, p / 10, s.clock.ms, s.mc.mode⟩) ∈ (integrate d s).permit.log := by
  obtain ⟨v, hv⟩ : ∃ v, v = positionFault .rollback 0 (moveTo p false s) := ⟨_, rfl⟩
  have faulted : PositionFaulted .rollback 0 (moveTo p false s) v := hv ▸ positionFault_faulted ..
  obtain ⟨hhalt, hactive⟩ := faulted.halts (by rw [show (moveTo p false s).mc = s.mc from rfl, hm]; decide)
  have looked := lookup_halt hhalt (hv ▸ positionFault_run_advance .rollback 0 (s := moveTo p false s) hm)
  have formed := formAhead_formed (modTracker v fun t => { t with segment := segmentAt v })
  rw [integrate_faults hsum hp hneg hm hs, ← hv, lookup_tracker, faulted.tracker, looked, formAhead_mc, formed.active,
    formed.log]
  exact ⟨rfl, rfl, rfl, hhalt, hactive, faulted.logged⟩

/-! ## An exchange (R30 to R38) -/

theorem clampedDistance_eq (distance : Int) : clampedDistance distance = max (-3000) (min distance 3000) := by
  unfold clampedDistance clampInt
  split_ifs <;> omega

theorem trackExchange_faulted {distance : Int} {id : Nat} (hr : s.tables.route.status = .valid)
    (hu : u = integrate (clampedDistance distance) (advanceTravel (clampedDistance distance) s))
    (hs : s.tracker.position = .sync) (hf : u.tracker.position = .unsync) : trackExchange distance id s = u := by
  have stops : overdueCheck 3 u = u := overdueCheck_stops 3 (overdue_unsync (by simp [isSync, hf]))
  simp [trackExchange, routeValid, hr, ← hu, isSync, hs, hf, stops]

theorem trackExchange_reads {distance : Int} {id : Nat} (hr : s.tables.route.status = .valid)
    (hu : u = integrate (clampedDistance distance) (advanceTravel (clampedDistance distance) s))
    (h : s.tracker.position = .unsync ∨ u.tracker.position = .sync) : trackExchange distance id s =
      if 0 < clampedDistance distance ∨ (markerRead id u).2 = true then overdueCheck 3 (markerRead id u).1
      else (markerRead id u).1 := by
  have goes : (isSync s && !isSync u) = false := by rcases h with h | h <;> simp [isSync, h]
  simp [trackExchange, routeValid, hr, ← hu, goes]

/-- Settles O51: each part of an exchange by its cases, and the exchange by its parts. -/
theorem capturesCorrectPosition : Obligations.CapturesCorrectPosition := by
  refine ⟨fun s i m d hd => ?_, fun s entries e i k m skipped next hl hs he hat hnext hi hk => ?_,
    fun s entries id i m hl => ?_, fun s entries e n m next hl hs he hat hn hnext => ?_, fun s d hd => ?_, movement_parts,
    fun s d sum p hsum hp => ?_, fun s u distance d id hr hd hu => ?_⟩
  · have beyond (h : 10 * (m.window : Int) < |d|) :
        PositionFaulted .discrepancy m.id s (capture i m s).1 ∧ (capture i m s).2 = false := by
      rw [capture_beyond hd h]
      exact ⟨positionFault_faulted .., rfl⟩
    refine ⟨fun h ho => ?_, beyond, fun h => ?_⟩
    · obtain ⟨faulted, hfalse⟩ := beyond h
      obtain ⟨hhalt, hactive⟩ := faulted.halts ho
      refine ⟨(capture i m s).1, Prod.ext rfl hfalse, ?_, ?_, ?_, hhalt, hactive, faulted.cursor⟩ <;> rw [faulted.tracker]
    · have kept := correct_positionKept i m d s
      rw [capture_within hd h]
      exact ⟨kept.p, kept.lastCorrection, kept.misses rfl, decide_eq_true_iff⟩
  · have place : readPlace s i = k := (MarkersLoaded.place hl he i).trans hk.symm
    have again (hm : 1 ≤ s.tracker.misses) : PositionFaulted .missed skipped.id s (missExpected s) :=
      missExpected_again he ((MarkersLoaded.at hl e).trans hat) hm
    refine ⟨fun h => placeRead_expected (place.trans h),
      fun h hm => placeRead_first_miss hl hs he hat (place.trans h) hm, fun h hm => ?_,
      fun h hm => placeRead_second_miss hl hs he hat hnext (place.trans h) hm, fun h => ?_⟩
    · rw [placeRead_faulted (again hm) (h.imp place.trans place.trans)]
      exact ⟨again hm, rfl⟩
    · rw [placeRead_order (by rw [place]; exact h)]
      exact ⟨positionFault_faulted .., rfl⟩
  · refine ⟨markerRead_zero s, markerRead_unknown hl, fun hid hi hm hu => ?_⟩
    have known := markerRead_known hl hid hi hm hu
    refine ⟨fun hs => known.trans (if_pos (by simp [isSync, hs])), fun hs hr => ⟨acquire i m s,
      known.trans (if_neg (by simp [isSync, hs])), ?_, fun k hk => ?_, acquire_cursor⟩⟩
    · rw [acquire_tracker, ← MarkersLoaded.after hl hi]
      rfl
    · rw [acquire_tracker]
      exact segmentAt_acquired hr hk
  · have first := overdue_eq hl hs he hat
    have second : overdue (missedOnce n s) = _ := overdue_eq (s := missedOnce n s) hl hs rfl hnext
    subst hn
    refine ⟨fun h => overdueCheck_stops 3 (by rw [first]; exact decide_eq_false (not_lt.2 h)), fun h => ?_⟩
    have due : overdue s = true := by rw [first]; exact decide_eq_true h
    refine ⟨fun hm => ?_, fun hm hin => ?_, fun hm hout => ?_⟩
    · rw [overdueCheck_misses 2 due]
      exact overdueCheck_faulted 2 (missExpected_again he ((MarkersLoaded.at hl e).trans hat) hm)
    · rw [overdueCheck_first_miss hl he hat hm due]
      exact overdueCheck_stops 2 (by rw [second]; exact decide_eq_false (not_lt.2 hin))
    · exact overdueCheck_second_miss hl he hat hnext hm due (by rw [second]; exact decide_eq_true hout)
  · subst hd
    exact ⟨rollbackCheck_forward, fun hm h => rollbackCheck_fault hm h ▸ positionFault_faulted .., fun h0 h =>
      rollbackCheck_within h0 fun ⟨hm, hout⟩ => h.elim (fun hn => hm.elim hn.1 hn.2) fun hin => absurd hout (not_lt.2 hin)⟩
  · refine ⟨fun hwrap => ?_, fun hno hlt => ?_, fun hneg hm hs => integrate_wraps_back hsum hp hneg hm hs⟩
    · have hle : (routeLen s : Int) ≤ sum := by
        unfold routeLen
        omega
      rw [integrate_moves hsum hp (by omega), decide_eq_true hle]
      rfl
    · have hgt : ¬(routeLen s : Int) ≤ sum := by
        unfold routeLen
        omega
      have stays : ¬(sum < 0 ∧ s.mc.mode = .run ∧ s.tracker.position = .sync) := fun ⟨hneg, hm, hs⟩ =>
        hno.elim (not_le.2 hneg) fun h => h.elim (· hm) fun h => absurd (hs.symm.trans h) nofun
      rw [integrate_moves hsum hp stays, decide_eq_false hgt]
      rfl
  · rw [← clampedDistance_eq] at hd
    subst hd
    exact ⟨trackExchange_faulted hr hu, trackExchange_reads hr hu⟩

end Sys2Proof.Machine
end

section
/-! PROOF. O59: the steering output within the steer limit, and the steering at rest in OFFLINE, through every request and
event (R44, R55, R59). What the operations of the vehicle keep of it is in `Keeps`; here are the writes of the parameters, the
resets and start-up, the mode changes of the requests, and every other row. -/

namespace Sys2Proof.Machine

variable {s t u : State}

/-- The steering stays within its limit and at rest in OFFLINE. -/
structure SteeringKept (s t : State) : Prop where
  held : SteeringHeld s → SteeringHeld t

theorem SteeringKept.refl (s : State) : SteeringKept s s := ⟨id⟩

theorem SteeringKept.trans (h : SteeringKept s t) (k : SteeringKept t u) : SteeringKept s u := ⟨k.held ∘ h.held⟩

theorem SteeringKept.ite {c : Prop} [Decidable c] (h : SteeringKept s t) (k : SteeringKept s u) :
    SteeringKept s (if c then t else u) := by
  split
  · exact h
  · exact k

/-- A row that does something only where its event is due. -/
theorem SteeringKept.whenDue {c : Prop} [Decidable c] (h : SteeringKept s t) : SteeringKept s (if c then t else s) :=
  .ite h (.refl s)

theorem Keeps.steeringKept (h : Keeps s t) : SteeringKept s t := ⟨h.steering⟩

theorem KeepsOffTerminals.steeringKept (h : KeepsOffTerminals s t) : SteeringKept s t := by
  obtain ⟨x, h⟩ := h
  exact ⟨fun hs => h.steering (steeringHeld_of (s := s) rfl rfl .rfl rfl rfl hs)⟩

/-- What the condition reads, as it was; start-up may have gone on within its phases, or completed. -/
theorem SteeringKept.same (hm : t.mc.mode = s.mc.mode) (hs : t.steering = s.steering) (hp : t.params = s.params)
    (hu : t.startUp.phase ≠ .complete → s.startUp.phase ≠ .complete) : SteeringKept s t :=
  ⟨fun h => ⟨by rw [hs, hp]; exact h.limit, by rw [hm, hs]; exact h.offline, by rw [hm, hs]; exact h.idle,
    fun hn => hm.trans (h.startUp (hu hn))⟩⟩

theorem OnlyShow.steeringKept (h : OnlyShow s t) : SteeringKept s t :=
  .same (by rw [h.mc]) h.steering h.params (by rw [h.startUp]; exact id)

theorem setWli_steeringKept (s : State) (x : Wli) : SteeringKept s (s.setWli x) := .same rfl rfl rfl id
theorem setDli_steeringKept (s : State) (x : Dli) : SteeringKept s (s.setDli x) := .same rfl rfl rfl id
theorem setTables_steeringKept (s : State) (x : Tables) : SteeringKept s (s.setTables x) := .same rfl rfl rfl id
theorem setClock_steeringKept (s : State) (x : ShowClock) : SteeringKept s (s.setClock x) := .same rfl rfl rfl id
theorem setStore_steeringKept (s : State) (x : Store) : SteeringKept s (s.setStore x) := .same rfl rfl rfl id

theorem setSlot_steeringKept (s : State) (src : Source) (x : Option Preface) :
    SteeringKept s (modMc s fun m => m.setSlot src x) := .same (setSlot_mode ..) rfl rfl id

/-! ## Parameters -/

/-- In OFFLINE the output is 0, within any limit. -/
theorem setParams_steeringKept (p : Params) (h : s.mc.mode = .offline) : SteeringKept s (s.setParams p) :=
  ⟨fun hs => ⟨by simp [(hs.offline h).2], hs.offline, hs.idle, hs.startUp⟩⟩

/-- The steer limit is not among the parameters that are written in any mode (R187). -/
theorem assign_steerLimit {p q : Params} {id : ParamId} {v : Int} (ha : id.anyMode = true) (h : p.assign id v = some q) :
    q.steerLimit = p.steerLimit := by
  cases id with
  | edgeSense | cueRoute =>
    obtain ⟨_, -, rfl⟩ := Option.map_eq_some_iff.1 h
    rfl
  | releasePulseTime | stepThreshold | lockTolerance | holdClip | holdGain | holdFade | duckLevel | duckRamp
  | resyncTolerance | rcTimeout | driveTimeout =>
    obtain rfl := Option.some.inj h
    rfl
  | _ => exact absurd ha nofun

theorem setParams_anyMode_steeringKept {p : Params} {id : ParamId} {v : Int} (ha : id.anyMode = true)
    (h : s.params.assign id v = some p) : SteeringKept s (s.setParams p) :=
  ⟨fun hs => ⟨by rw [State.setParams_params, assign_steerLimit ha h]; exact hs.limit, hs.offline, hs.idle, hs.startUp⟩⟩

theorem paramWritten_steeringKept (id : ParamId) (s : State) : SteeringKept s (paramWritten id s) := by
  unfold paramWritten
  split
  · exact (applySeatMask_keeps ..).steeringKept
  · exact (formAhead_keeps s).steeringKept
  · exact (formAhead_keeps s).steeringKept
  · exact .same rfl rfl rfl id
  · exact (applyInput_keeps ..).steeringKept
  · exact (applyInput_keeps ..).steeringKept
  · exact .refl s

theorem writeParam_steeringKept (number : Nat) (id : ParamId) (value : Int) (s : State) :
    SteeringKept s (writeParam number id value s).next := by
  unfold writeParam
  split
  · exact .refl s
  · split
    · exact .refl s
    · next hmode =>
      split
      · exact .refl s
      · next p hp =>
        have set : SteeringKept s (s.setParams p) := by
          by_cases ha : id.anyMode = true
          · exact setParams_anyMode_steeringKept ha hp
          · exact setParams_steeringKept p (by simpa [ha] using (not_or.1 hmode).1)
        exact set.trans (paramWritten_steeringKept id _)

theorem handleSetParam_steeringKept (args : List Byte) (s : State) : SteeringKept s (handleSetParam args s).next := by
  unfold handleSetParam
  repeat' split
  · exact .refl s
  · exact writeParam_steeringKept ..
  · exact .refl s

/-! ## Resets and start-up -/

/-- A state with the mode, the steering and the phase of a reset, whatever its parameters. -/
theorem SteeringKept.of_reset (hm : t.mc.mode = .offline) (hs : t.steering.state = .idle) (hy : t.steering.y = 0) :
    SteeringKept s t := ⟨fun _ => ⟨by simp [hy], fun _ => ⟨hs, hy⟩, fun _ => hm, fun _ => hm⟩⟩

theorem handleRestart_steeringKept (args : List Byte) (s : State) : SteeringKept s (handleRestart args s).next := by
  unfold handleRestart
  repeat' split
  · exact .refl s
  · exact .refl s
  · exact .of_reset rfl rfl rfl

/-- Start-up runs in OFFLINE, so its phases can follow one another. -/
theorem setPhase_steeringKept (phase : StartPhase) (h : s.startUp.phase ≠ .complete) : SteeringKept s (setPhase phase s) :=
  .same rfl rfl rfl fun _ => h

theorem choose_steeringKept (p : Params) (defaulted : Bool) (s : State) : SteeringKept s (choose p defaulted s) :=
  .same rfl rfl rfl id

/-- The chosen configuration comes into force in OFFLINE, with an output of 0 (R191). -/
theorem completeStartUp_steeringKept (h : s.startUp.phase ≠ .complete) : SteeringKept s (completeStartUp s) := by
  have chosen : SteeringKept s (modStore (s.setParams s.startUp.chosen) fun x => { x with activity := .idle }) :=
    ⟨fun hs => ((setParams_steeringKept _ (hs.startUp h)).trans (setStore_steeringKept ..)).held hs⟩
  have completed (v : State) : SteeringKept v (v.setStartUp { v.startUp with phase := .complete }) :=
    .same rfl rfl rfl fun hn => absurd rfl hn
  exact chosen.trans ((applyMap_keeps _).steeringKept.trans ((enableSeats_keeps _).steeringKept.trans
    ((completed _).trans ((refreshPermit_keeps _).trans (formCeilings_keeps _)).steeringKept)))

theorem nextSection_steeringKept (read : Option TableId) (h : s.startUp.phase ≠ .complete) :
    SteeringKept s (nextSection read s) := by
  unfold nextSection
  split
  · exact setPhase_steeringKept _ h
  · exact completeStartUp_steeringKept h

theorem pairCheck_startUp (s : State) : (pairCheck s).startUp = s.startUp := by
  unfold pairCheck
  split
  · rw [(becomeUnsync_keeps _).startUp]
    rfl
  · rfl

theorem pairCheck_steeringKept (s : State) : SteeringKept s (pairCheck s) :=
  .ite ((setTables_steeringKept s _).trans (becomeUnsync_keeps _).steeringKept) (.refl s)

/-- The judging of a section leaves start-up where it stands. -/
theorem judgeSection_startUp (x : TableId) (s : State) : (judgeSection x s).startUp = s.startUp := by
  unfold judgeSection
  dsimp only
  repeat' split
  · rfl
  · rfl
  · exact pairCheck_startUp _
  all_goals rfl

theorem judgeSection_steeringKept (x : TableId) (s : State) : SteeringKept s (judgeSection x s) := by
  unfold judgeSection
  dsimp only
  repeat' split
  · exact setTables_steeringKept ..
  · exact .refl s
  · exact (setTables_steeringKept ..).trans (pairCheck_steeringKept _)
  · exact .refl s
  · exact setTables_steeringKept ..
  · exact .refl s
  · exact setTables_steeringKept ..
  · exact .refl s

/-! ## Mode changes that a request makes -/

/-- A mode change that does not leave OFFLINE during start-up. -/
theorem changeMode_steeringKept (new : Mode) (held : HeldFrom)
    (h : new = .offline ∨ s.mc.mode ≠ .offline ∨ s.startUp.phase = .complete) : SteeringKept s (changeMode new held s) :=
  SteeringKept.trans ⟨enterMode_steeringHeld new held s h⟩ (rcCheck_keeps _).steeringKept

theorem goOnline_steeringKept (h : s.startUp.phase = .complete) : SteeringKept s (goOnline s) := by
  have entered : SteeringKept s (enterMode .load .none s) := ⟨enterMode_steeringHeld _ _ s (.inr (.inr h))⟩
  have stopped : SteeringKept s (if onboardStop (enterMode .load .none s) then
      raiseFault .onboardStop .none 0 (enterMode .load .none s) else enterMode .load .none s) :=
    .ite (entered.trans (raiseFault_keeps ..).steeringKept) entered
  exact stopped.trans ((rcCheck_keeps _).trans (evalReady_keeps _)).steeringKept

theorem clearFaults_steeringKept (s : State) : SteeringKept s (clearFaults s) := .same rfl rfl rfl id

theorem goOffline_steeringKept (s : State) : SteeringKept s (goOffline s) :=
  SteeringKept.trans (t := modPermit (clearFaults s) fun u => { u with rcLimit := 3000 }) (.same rfl rfl rfl id)
    (changeMode_steeringKept .offline .none (.inl rfl))

theorem recover_steeringKept (h : s.startUp.phase = .complete) : SteeringKept s (recover s) := by
  have left (new : Mode) (held : HeldFrom) : SteeringKept s (changeMode new held (clearFaults s)) :=
    (clearFaults_steeringKept s).trans (changeMode_steeringKept new held (.inr (.inr h)))
  exact .ite ((left .load .none).trans (evalReady_keeps _).steeringKept) (left .hold s.mc.heldFrom)

theorem handleGoOnline_steeringKept (args : List Byte) (h : s.startUp.phase = .complete) :
    SteeringKept s (handleGoOnline args s).next := by
  unfold handleGoOnline
  repeat' split
  · exact .refl s
  · exact .refl s
  · exact goOnline_steeringKept h

theorem handleGoOffline_steeringKept (args : List Byte) (s : State) : SteeringKept s (handleGoOffline args s).next := by
  unfold handleGoOffline
  repeat' split
  · exact .refl s
  · exact .refl s
  · exact goOffline_steeringKept s
  · exact .refl s

theorem handleDispatch_steeringKept (args : List Byte) (h : s.startUp.phase = .complete) :
    SteeringKept s (handleDispatch args s).next := by
  have counted (n : Nat) : SteeringKept s (modMc s fun m => { m with dispatchCount := n }) := .same rfl rfl rfl id
  unfold handleDispatch
  repeat' split
  · exact .refl s
  · exact .refl s
  · exact (counted _).trans (changeMode_steeringKept .run .none (.inr (.inr h)))

theorem handleHold_steeringKept (args : List Byte) (h : s.startUp.phase = .complete) :
    SteeringKept s (handleHold args s).next := by
  unfold handleHold
  repeat' split
  · exact .refl s
  · exact changeMode_steeringKept .hold .run (.inr (.inr h))
  · exact changeMode_steeringKept .hold .unload (.inr (.inr h))
  all_goals exact .refl s

theorem handleResume_steeringKept (args : List Byte) (h : s.startUp.phase = .complete) :
    SteeringKept s (handleResume args s).next := by
  unfold handleResume
  repeat' split
  · exact .refl s
  · exact .refl s
  · exact changeMode_steeringKept .run .none (.inr (.inr h))
  · exact (changeMode_steeringKept .unload .none (.inr (.inr h))).trans (evalBerth_keeps _).steeringKept
  · exact .refl s

theorem handleRecover_steeringKept (args : List Byte) (h : s.startUp.phase = .complete) :
    SteeringKept s (handleRecover args s).next := by
  unfold handleRecover
  repeat' split
  · exact .refl s
  · exact .refl s
  · exact recover_steeringKept h

/-! ## The other requests of the vehicle -/

theorem handleAdvance_steeringKept (args : List Byte) (s : State) : SteeringKept s (handleAdvance args s).next := by
  have advanced (mm : Nat) : SteeringKept s (advanceBy mm s) :=
    .ite (.ite (endAdvance_keeps s).steeringKept (.refl s)) (startAdvance_keeps mm s).steeringKept
  unfold handleAdvance
  repeat' split
  · exact .refl s
  · exact advanced _
  · exact .refl s

theorem handleStopNow_steeringKept (args : List Byte) (s : State) : SteeringKept s (handleStopNow args s).next := by
  unfold handleStopNow
  split
  · exact .refl s
  · exact (takeFault_keeps ..).steeringKept

theorem handleRelease_steeringKept (args : List Byte) (s : State) : SteeringKept s (handleRelease args s).next := by
  unfold handleRelease
  repeat' split
  · exact .refl s
  · exact .refl s
  · exact .refl s
  · exact (release_keeps _ s).steeringKept
  · exact .refl s

theorem handleBypass_steeringKept (args : List Byte) (s : State) : SteeringKept s (handleBypass args s).next := by
  unfold handleBypass
  repeat' split
  · exact .refl s
  · exact .refl s
  · exact (bypass_keeps _ s).steeringKept
  · exact .refl s

theorem handleRestore_steeringKept (args : List Byte) (s : State) : SteeringKept s (handleRestore args s).next := by
  unfold handleRestore
  repeat' split
  · exact .refl s
  · exact (Keeps.foldl restoreSeat_keeps _ s).steeringKept
  · exact .refl s

theorem handleSetSpeedLimit_steeringKept (args : List Byte) (s : State) :
    SteeringKept s (handleSetSpeedLimit args s).next := by
  have limited (n : Nat) : SteeringKept s (setSpeedLimit n s) :=
    ((Keeps.setPermit s { s.permit with rcLimit := n } rfl rfl rfl).trans (formCeilings_keeps _)).steeringKept
  unfold handleSetSpeedLimit
  split
  · exact limited _
  · exact .refl s

theorem handleTableBegin_steeringKept (args : List Byte) (s : State) : SteeringKept s (handleTableBegin args s).next := by
  have begun (x : Tables) : SteeringKept s (becomeUnsync (s.setTables x)) :=
    (setTables_steeringKept s x).trans (becomeUnsync_keeps _).steeringKept
  have emptied (x : Tables) : SteeringKept s (routeEmptied (s.setTables x)) :=
    (setTables_steeringKept s x).trans ((Keeps.setTracker _ _).trans (becomeUnsync_keeps _)).steeringKept
  unfold handleTableBegin
  dsimp only
  repeat' split
  · exact emptied _
  · exact .refl s
  · exact begun _
  · exact setTables_steeringKept ..
  · exact .same rfl rfl rfl id
  · exact .refl s

theorem endTable_steeringKept {α : Type} (x : Table α) (ok : Bool) (put : Table α → State)
    (h : ∀ y, SteeringKept s (put y)) : SteeringKept s (endTable x ok put s).next := by
  unfold endTable
  split
  · exact .refl s
  · exact h _

theorem handleTableEnd_steeringKept (args : List Byte) (s : State) : SteeringKept s (handleTableEnd args s).next := by
  have checked (x : Tables) : SteeringKept s (pairCheck (s.setTables x)) :=
    (setTables_steeringKept s x).trans (pairCheck_steeringKept _)
  unfold handleTableEnd
  dsimp only
  split
  · split
    · exact endTable_steeringKept _ _ _ fun _ => checked _
    · exact endTable_steeringKept _ _ _ fun _ => checked _
    · exact endTable_steeringKept _ _ _ fun _ => setTables_steeringKept ..
    · exact endTable_steeringKept _ _ _ fun _ => setTables_steeringKept ..
  · exact .refl s

/-! ## Requests that leave the vehicle alone -/

theorem handleStatus_steeringKept (args : List Byte) (s : State) : SteeringKept s (handleStatus args s).next := by
  unfold handleStatus; split <;> exact .refl s

theorem handleShowStatus_steeringKept (args : List Byte) (s : State) : SteeringKept s (handleShowStatus args s).next := by
  unfold handleShowStatus; split <;> exact .refl s

theorem handleClearSeatEvents_steeringKept (args : List Byte) (s : State) :
    SteeringKept s (handleClearSeatEvents args s).next := by
  unfold handleClearSeatEvents; split <;> exact .same rfl rfl rfl id

theorem handleReadFaultLog_steeringKept (args : List Byte) (s : State) :
    SteeringKept s (handleReadFaultLog args s).next := by
  unfold handleReadFaultLog; (repeat' split) <;> exact .refl s

theorem handleGetParam_steeringKept (args : List Byte) (s : State) : SteeringKept s (handleGetParam args s).next := by
  unfold handleGetParam; (repeat' split) <;> exact .refl s

theorem handleSave_steeringKept (args : List Byte) (s : State) : SteeringKept s (handleSave args s).next := by
  unfold handleSave; (repeat' split) <;> exact .same rfl rfl rfl id

theorem handlePreface_steeringKept (args : List Byte) (s : State) : SteeringKept s (handlePreface args s).next := by
  unfold handlePreface; (repeat' split) <;> exact .same rfl rfl rfl id

theorem takeEntry_steeringKept {α : Type} (x : Table α) (entry : Option α)
    (check : Table α → Option α → Option Status) (bytes : List Byte) (put : Table α → State)
    (h : ∀ y, SteeringKept s (put y)) : SteeringKept s (takeEntry x entry check bytes put s).next := by
  unfold takeEntry
  repeat' split
  · exact .refl s
  · exact .refl s
  · exact h _
  · exact .refl s

theorem handleTableEntry_steeringKept (args : List Byte) (s : State) : SteeringKept s (handleTableEntry args s).next := by
  unfold handleTableEntry
  dsimp only
  split
  · exact takeEntry_steeringKept _ _ _ _ _ fun _ => setTables_steeringKept ..
  · exact takeEntry_steeringKept _ _ _ _ _ fun _ => setTables_steeringKept ..
  · exact takeEntry_steeringKept _ _ _ _ _ fun _ => setTables_steeringKept ..
  · exact takeEntry_steeringKept _ _ _ _ _ fun _ => setTables_steeringKept ..
  · exact .refl s

theorem handleNotices_steeringKept (args : List Byte) (s : State) : SteeringKept s (handleNotices args s).next := by
  unfold handleNotices; split <;> exact .same rfl rfl rfl id

theorem handleStoreWrite_steeringKept (args : List Byte) (s : State) : SteeringKept s (handleStoreWrite args s).next := by
  unfold handleStoreWrite; (repeat' split) <;> exact .same rfl rfl rfl id

theorem handleStoreErase_steeringKept (args : List Byte) (s : State) : SteeringKept s (handleStoreErase args s).next := by
  unfold handleStoreErase; dsimp only; (repeat' split) <;> exact .same rfl rfl rfl id

theorem handleStoreRead_steeringKept (args : List Byte) (s : State) : SteeringKept s (handleStoreRead args s).next := by
  unfold handleStoreRead; (repeat' split) <;> exact .refl s

theorem handleSync_steeringKept (k : Capture) (args : List Byte) (s : State) :
    SteeringKept s (handleSync k args s).next := by
  have resynced (c : ShowClock) : SteeringKept s (resyncAll (s.setClock c)) :=
    (setClock_steeringKept s c).trans (resyncAll_only _).steeringKept
  unfold handleSync
  dsimp only
  split
  · split
    · exact .refl s
    · rw [done_next]
      exact resynced _
  · exact .refl s

theorem handleVoiceStop_steeringKept (args : List Byte) (s : State) : SteeringKept s (handleVoiceStop args s).next := by
  unfold handleVoiceStop; dsimp only; (repeat' split) <;> exact .same rfl rfl rfl id

theorem handleVoiceGain_steeringKept (args : List Byte) (s : State) : SteeringKept s (handleVoiceGain args s).next := by
  unfold handleVoiceGain; dsimp only; (repeat' split) <;> exact .same rfl rfl rfl id

theorem handleMasterVolume_steeringKept (args : List Byte) (s : State) :
    SteeringKept s (handleMasterVolume args s).next := by
  unfold handleMasterVolume; dsimp only; (repeat' split) <;> exact .same rfl rfl rfl id

/-! ## Taking a request -/

/-- A handler keeps the condition once start-up is complete. -/
def HandlerSteers (handle : Handler) : Prop :=
  ∀ args s, s.startUp.phase = .complete → SteeringKept s (handle args s).next

theorem askOwner_steeringKept {handle : Handler} (k : Kind) (hk : HandlerSteers handle) (args : List Byte)
    (h : s.startUp.phase = .complete) : SteeringKept s (askOwner k handle args s).next := by
  unfold askOwner
  split
  · exact hk args s h
  · exact .refl s

theorem judgeUnicast_steeringKept {handle : Handler} (row : Option Kind) (hk : HandlerSteers handle) (f : Frame)
    (h : s.startUp.phase = .complete) : SteeringKept s (judgeUnicast row handle f s).next := by
  refine (setSlot_steeringKept s f.source none).trans ?_
  unfold judgeUnicast checkAuthority checkPreface
  dsimp only
  repeat' split
  · exact .refl _
  · exact .refl _
  · exact .same rfl rfl rfl id
  · exact askOwner_steeringKept _ hk _ h
  · exact .refl _

theorem takeGroup_steeringKept {handle : Handler} (row : Option Kind) (hk : HandlerSteers handle) (f : Frame)
    (h : s.startUp.phase = .complete) : SteeringKept s (takeGroup row handle f s) := by
  unfold takeGroup
  dsimp only
  repeat' split
  · exact setWli_steeringKept ..
  · exact askOwner_steeringKept _ hk _ h
  · exact .refl s
  · exact setWli_steeringKept ..

/-- During start-up no frame reaches its owner (R175, R191). -/
theorem takeFrame_steeringKept {handle : Handler} (row : Option Kind) (hk : HandlerSteers handle) (f : Frame) (s : State) :
    SteeringKept s (takeFrame row handle f s) := by
  have running (h : ¬startingUp s = true) : s.startUp.phase = .complete := by simpa [startingUp] using h
  have group : SteeringKept s (if startingUp s then s else takeGroup row handle f s) := by
    split
    · exact .refl s
    · next h => exact takeGroup_steeringKept row hk f (running h)
  have judged : SteeringKept s (if startingUp s then refuse .starting s else judgeUnicast row handle f s).next := by
    split
    · exact .refl s
    · next h => exact judgeUnicast_steeringKept row hk f (running h)
  unfold takeFrame
  split
  · exact judged.trans (setWli_steeringKept ..)
  · exact group
  · exact group

theorem takeRequest_steeringKept {handle : Handler} (row : Option Kind) (hk : HandlerSteers handle) (s : State) :
    SteeringKept s (takeRequest row handle s) := by
  rcases takeRequest_cases row handle s with he | ⟨f, rest, -, -, he⟩
  · rw [he]
    exact .refl s
  · rw [he]
    exact (setWli_steeringKept s _).trans (takeFrame_steeringKept row hk f _)

/-! ## Every command -/

/-- The outcome, where it is a state, keeps the condition. -/
def OutcomeSteers (s : State) (o : Host.Outcome State Fault Refusal) : Prop := ∀ t, o = .next t → SteeringKept s t

theorem OutcomeSteers.next (h : SteeringKept s t) : OutcomeSteers s (.next t) := fun u hu => by
  cases hu
  exact h

theorem requestRow_steers {k : Kind} {handle : Handler} (hk : HandlerSteers handle) (s : State) :
    OutcomeSteers s (requestRow k handle s) := .next (takeRequest_steeringKept (some k) hk s)

/-- Every kind's handler. -/
theorem exec_command_steers (k : Kind) (s : State) : OutcomeSteers s (exec k.command s) := by
  cases k with
  | status => exact requestRow_steers (fun a u _ => handleStatus_steeringKept a u) s
  | goOnline => exact requestRow_steers (fun a _ h => handleGoOnline_steeringKept a h) s
  | goOffline => exact requestRow_steers (fun a u _ => handleGoOffline_steeringKept a u) s
  | dispatch => exact requestRow_steers (fun a _ h => handleDispatch_steeringKept a h) s
  | hold => exact requestRow_steers (fun a _ h => handleHold_steeringKept a h) s
  | resume => exact requestRow_steers (fun a _ h => handleResume_steeringKept a h) s
  | advance => exact requestRow_steers (fun a u _ => handleAdvance_steeringKept a u) s
  | stopNow => exact requestRow_steers (fun a u _ => handleStopNow_steeringKept a u) s
  | recover => exact requestRow_steers (fun a _ h => handleRecover_steeringKept a h) s
  | release => exact requestRow_steers (fun a u _ => handleRelease_steeringKept a u) s
  | bypass => exact requestRow_steers (fun a u _ => handleBypass_steeringKept a u) s
  | restore => exact requestRow_steers (fun a u _ => handleRestore_steeringKept a u) s
  | clearSeatEvents => exact requestRow_steers (fun a u _ => handleClearSeatEvents_steeringKept a u) s
  | setSpeedLimit => exact requestRow_steers (fun a u _ => handleSetSpeedLimit_steeringKept a u) s
  | announce => exact requestRow_steers (fun a u _ => (handleAnnounce_only a u).steeringKept) s
  | readFaultLog => exact requestRow_steers (fun a u _ => handleReadFaultLog_steeringKept a u) s
  | setParam => exact requestRow_steers (fun a u _ => handleSetParam_steeringKept a u) s
  | getParam => exact requestRow_steers (fun a u _ => handleGetParam_steeringKept a u) s
  | save => exact requestRow_steers (fun a u _ => handleSave_steeringKept a u) s
  | restart => exact requestRow_steers (fun a u _ => handleRestart_steeringKept a u) s
  | preface => exact requestRow_steers (fun a u _ => handlePreface_steeringKept a u) s
  | tableBegin => exact requestRow_steers (fun a u _ => handleTableBegin_steeringKept a u) s
  | tableEntry => exact requestRow_steers (fun a u _ => handleTableEntry_steeringKept a u) s
  | tableEnd => exact requestRow_steers (fun a u _ => handleTableEnd_steeringKept a u) s
  | showStatus => exact requestRow_steers (fun a u _ => handleShowStatus_steeringKept a u) s
  | notices => exact requestRow_steers (fun a u _ => handleNotices_steeringKept a u) s
  | storeWrite => exact requestRow_steers (fun a u _ => handleStoreWrite_steeringKept a u) s
  | storeErase => exact requestRow_steers (fun a u _ => handleStoreErase_steeringKept a u) s
  | storeRead => exact requestRow_steers (fun a u _ => handleStoreRead_steeringKept a u) s
  | sync => exact requestRow_steers (fun a u _ => handleSync_steeringKept (headCapture s) a u) s
  | voiceStart => exact requestRow_steers (fun a u _ => (handleVoiceStart_only a u).steeringKept) s
  | voiceStop => exact requestRow_steers (fun a u _ => handleVoiceStop_steeringKept a u) s
  | voiceGain => exact requestRow_steers (fun a u _ => handleVoiceGain_steeringKept a u) s
  | masterVolume => exact requestRow_steers (fun a u _ => handleMasterVolume_steeringKept a u) s

theorem execStrapRead_steers (s : State) : OutcomeSteers s (execStrapRead s) := by
  refine .next ?_
  split
  · next due =>
    have hp : s.startUp.phase ≠ .complete := fun h => by simp [strapDue, h] at due
    exact .ite ((choose_steeringKept _ true s).trans (completeStartUp_steeringKept hp)) (setPhase_steeringKept _ hp)
  · exact .refl s

theorem execSectionRead_steers (readable : Bool) (s : State) : OutcomeSteers s (execSectionRead readable s) := by
  refine .next ?_
  split
  · next h => exact (choose_steeringKept _ _ s).trans (nextSection_steeringKept none (by simp [choose, h]))
  · next x h =>
    have judged : SteeringKept s (if readable then judgeSection x s else s) := .whenDue (judgeSection_steeringKept x s)
    refine judged.trans (nextSection_steeringKept _ ?_)
    split
    · rw [judgeSection_startUp, h]
      exact nofun
    · rw [h]
      exact nofun
  · exact .refl s
  · exact .refl s

theorem endExchange_steeringKept (out : DriveRecord) (edges : Nat) (bytes : List Byte) (s : State) :
    SteeringKept s (endExchange out edges bytes s) := by
  unfold endExchange
  dsimp only
  split
  · exact .same rfl rfl rfl id
  · refine .ite (.same rfl rfl rfl id) (.ite (.same rfl rfl rfl id) ?_)
    exact SteeringKept.trans (t := (s.setDli s.dli.ended).setDli _) (setDli_steeringKept s _)
      (passOn_keeps ..).steeringKept

theorem execDriveExchange_steers (edges : Nat) (bytes : List Byte) (s : State) :
    OutcomeSteers s (execDriveExchange edges bytes s) := by
  refine .next ?_
  split
  · exact .refl s
  · exact endExchange_steeringKept ..

theorem loseDriveLink_steeringKept (s : State) : SteeringKept s (loseDriveLink s) := by
  have stopped (v : State) : Keeps v
      (if v.permit.stationary then stopStationary v else modPermit v fun u => { u with standstill := none }) :=
    .ite (stopStationary_keeps v) (.setPermit v _ rfl rfl rfl)
  have faulted (v : State) : Keeps v (if v.mc.mode.online then takeFault .driveLinkLost .none 0 v else v) :=
    .ite (takeFault_keeps ..) (.refl v)
  exact (setDli_steeringKept s _).trans ((stopped _).trans (faulted _)).steeringKept

theorem execTerminalSample_steers (levels : BitVec 40) (s : State) : OutcomeSteers s (execTerminalSample levels s) := by
  refine .next ?_
  unfold countStrapSample
  split
  · next h => exact .same rfl rfl rfl fun _ hc => by rw [State.setTerminals_startUp, hc] at h; cases h
  all_goals exact .same rfl rfl rfl id

theorem execVerifyTimeReached_steers (i : Fin 8) (s : State) : OutcomeSteers s (execVerifyTimeReached i s) := by
  have verified : Keeps s (modRestraint s fun r => r.modSeat i fun x => { x with state := .verified }) :=
    .setRestraint s _ id
  exact .next (.whenDue (verified.trans (seatMoved_keeps ..)).steeringKept)

theorem execDisagreementTimeReached_steers (i : Fin 8) (s : State) :
    OutcomeSteers s (execDisagreementTimeReached i s) := by
  have entered : Keeps s (modRestraint s fun r =>
      (r.modSeat i fun x => { x with state := .disagree }).latch i fun l => { l with enteredDisagree := true }) :=
    .setRestraint s _ id
  exact .next (.whenDue (entered.trans (seatMoved_keeps ..)).steeringKept)

theorem execPulseTimeout_steers (i : Fin 8) (s : State) : OutcomeSteers s (execPulseTimeout i s) := by
  have failed : Keeps s (modRestraint s fun r =>
      ((r.leaveRelease i).modSeat i (Seat.enterEvaluation (picture s i))).latch i fun l => { l with releaseFailed := true }) :=
    .setRestraint s _ (leaveRelease_length i _)
  exact .next (.whenDue (failed.trans ((fillEnergised_keeps _).trans
    ((seatMoved_keeps ..).trans (evalReady_keeps _)))).steeringKept)

theorem execSolenoidMismatch_steers (terminal : Fin 40) (s : State) :
    OutcomeSteers s (execSolenoidMismatch terminal s) := by
  have reported : SteeringKept s
      (modTerminals s fun m => { m with mismatchDue := m.mismatchDue.set terminal false }) := .same rfl rfl rfl id
  refine .next (.whenDue ?_)
  split
  · exact reported.trans (solenoidReport_keeps ..).steeringKept
  all_goals exact reported

theorem sampleClock_steeringKept (s : State) : SteeringKept s (sampleClock s) := by
  have advanced := OnlyShow.foldl (f := fun t i => putVoice t i ((voiceAt s i).bind (Voice.afterSample s)))
    (fun _ _ => rfl) allVoices s
  unfold sampleClock
  exact (advanced.trans (OnlyShow.setSound _ _)).steeringKept.trans
    ((handCode_keeps _ 1 _).trans (handCode_keeps _ 2 _)).steeringKept

theorem execSampleClock_steers (s : State) : OutcomeSteers s (execSampleClock s) := by
  unfold execSampleClock
  split
  · exact fun _ => nofun
  · exact .next (sampleClock_steeringKept s)

theorem execExchangeStart_steers (s : State) : OutcomeSteers s (execExchangeStart s) := by
  refine .next ?_
  split
  · exact setDli_steeringKept ..
  · exact .refl s

theorem execSaveComplete_steers (success : Bool) (s : State) : OutcomeSteers s (execSaveComplete success s) := by
  refine .next ?_
  split
  · exact .ite (.same rfl rfl rfl id) (.same rfl rfl rfl id)
  all_goals exact .refl s

theorem execSaveTimeout_steers (s : State) : OutcomeSteers s (execSaveTimeout s) := by
  refine .next ?_
  split
  · exact .whenDue (.same rfl rfl rfl id)
  all_goals exact .refl s

/-- Every command that does not stop the model keeps the steering in its limit and at rest in OFFLINE. -/
theorem exec_steers (c : Instr) (s : State) : OutcomeSteers s (exec c s) := by
  cases c with
  | hardwareReset => exact .next (.of_reset rfl rfl rfl)
  | strapRead => exact execStrapRead_steers s
  | sectionRead readable => exact execSectionRead_steers readable s
  | framingError => exact .next (.ite (.refl s) (setWli_steeringKept s _))
  | addressCharacter value periods => exact .next (.ite (.refl s) (setWli_steeringKept s _))
  | dataCharacter value => exact .next (.ite (.refl s) (setWli_steeringKept s _))
  | frameTimeout quiet => exact .next (.whenDue (setWli_steeringKept s _))
  | responseStart quiet => exact .next (.whenDue (setWli_steeringKept s _))
  | responseSent => exact .next (.whenDue (setWli_steeringKept s _))
  | linkRateApply => exact .next (.whenDue (setWli_steeringKept s _))
  | storeComplete success => exact .next (.whenDue (.ite (.same rfl rfl rfl id) (.same rfl rfl rfl id)))
  | storeTimeout => exact .next (.whenDue (.same rfl rfl rfl id))
  | saveComplete success => exact execSaveComplete_steers success s
  | saveTimeout => exact execSaveTimeout_steers s
  | prefaceLapse source => exact .next (.whenDue (setSlot_steeringKept s source none))
  | exchangeStart => exact execExchangeStart_steers s
  | driveExchange edges bytes => exact execDriveExchange_steers edges bytes s
  | stationary => exact .next (.whenDue (becomeStationary_keeps s).steeringKept)
  | driveTimeout => exact .next (.whenDue (loseDriveLink_steeringKept s))
  | rcLinkLost => exact .next (rcCheck_keeps s).steeringKept
  | terminalSample levels => exact execTerminalSample_steers levels s
  | filteredChange input => exact .next (.whenDue (changeInput_keeps ..).steeringKept)
  | verifyTimeReached seat => exact execVerifyTimeReached_steers seat s
  | disagreementTimeReached seat => exact execDisagreementTimeReached_steers seat s
  | pulseTimeout seat => exact execPulseTimeout_steers seat s
  | solenoidMismatch terminal => exact execSolenoidMismatch_steers terminal s
  | ampNotReady => exact .next (.whenDue (takeFault_keeps ..).steeringKept)
  | showClockAdvance => exact .next (setClock_steeringKept s _)
  | syncAgeExpiry => exact .next (.whenDue (setClock_steeringKept s _))
  | sceneCueDue => exact .next (.whenDue (advanceScene_only s).steeringKept)
  | effectPulseEnd channel => exact .next (.whenDue (OnlyShow.setCues s _).steeringKept)
  | voiceJoin voice => exact .next (.whenDue (OnlyShow.setSound s _).steeringKept)
  | gainRampTick => exact .next (OnlyShow.setSound s _).steeringKept
  | fadeEnd voice => exact .next (.whenDue (OnlyShow.setSound s _).steeringKept)
  | sampleClock => exact execSampleClock_steers s
  | generatorClock generator => exact .next (.whenDue (Keeps.setDensity s _).steeringKept)
  | unknownKind => exact .next (takeRequest_steeringKept none (fun _ u _ => .refl u) s)
  | status => exact exec_command_steers .status s
  | goOnline => exact exec_command_steers .goOnline s
  | goOffline => exact exec_command_steers .goOffline s
  | dispatch => exact exec_command_steers .dispatch s
  | hold => exact exec_command_steers .hold s
  | resume => exact exec_command_steers .resume s
  | advance => exact exec_command_steers .advance s
  | stopNow => exact exec_command_steers .stopNow s
  | recover => exact exec_command_steers .recover s
  | release => exact exec_command_steers .release s
  | bypass => exact exec_command_steers .bypass s
  | restore => exact exec_command_steers .restore s
  | clearSeatEvents => exact exec_command_steers .clearSeatEvents s
  | setSpeedLimit => exact exec_command_steers .setSpeedLimit s
  | announce => exact exec_command_steers .announce s
  | readFaultLog => exact exec_command_steers .readFaultLog s
  | setParam => exact exec_command_steers .setParam s
  | getParam => exact exec_command_steers .getParam s
  | save => exact exec_command_steers .save s
  | restart => exact exec_command_steers .restart s
  | preface => exact exec_command_steers .preface s
  | tableBegin => exact exec_command_steers .tableBegin s
  | tableEntry => exact exec_command_steers .tableEntry s
  | tableEnd => exact exec_command_steers .tableEnd s
  | showStatus => exact exec_command_steers .showStatus s
  | notices => exact exec_command_steers .notices s
  | storeWrite => exact exec_command_steers .storeWrite s
  | storeErase => exact exec_command_steers .storeErase s
  | storeRead => exact exec_command_steers .storeRead s
  | sync => exact exec_command_steers .sync s
  | voiceStart => exact exec_command_steers .voiceStart s
  | voiceStop => exact exec_command_steers .voiceStop s
  | voiceGain => exact exec_command_steers .voiceGain s
  | masterVolume => exact exec_command_steers .masterVolume s

/-- A local millisecond moves at most the amplifier wait time of the Steering Computer (R60). -/
theorem tickSteering_moves (s : State) : ∃ n, tickSteering s = { s.steering with ampWait := n } := by
  unfold tickSteering
  split
  · exact ⟨_, rfl⟩
  · exact ⟨s.steering.ampWait, rfl⟩

theorem tick_steeringKept (s : State) : SteeringKept s (tick s) := by
  obtain ⟨n, hn⟩ := tickSteering_moves s
  have counted : SteeringKept s (countMillisecond s) :=
    ⟨steeringHeld_of rfl (congrArg Steering.y hn :) (by rw [show (countMillisecond s).steering = _ from hn]) rfl rfl⟩
  exact counted.trans (advanceScene_only _).steeringKept

theorem step_steers (s : State) : OutcomeSteers s (step s) := by
  unfold step
  split
  · next c rest _ =>
    exact fun t ht => SteeringKept.trans (t := s.setPending rest) (.same rfl rfl rfl id) (exec_steers c _ t ht)
  · split
    · exact exec_steers _ s
    · exact .next (tick_steeringKept s)

/-- Settles O59: every command, the event that is due and a local millisecond keep the condition. -/
theorem stepsKeepSteeringHeld : Obligations.StepsKeepSteeringHeld := fun s t h => (step_steers s t h).held

end Sys2Proof.Machine
end

section
/-! PROOF. O2: a step without commands. The event that is due, or one local millisecond: what it counts in each block, then the
advance of the scene timer. -/

namespace Sys2Proof.Machine

variable {s : State}

theorem step_due {c : Instr} (hp : s.pending = []) (hd : due s = some c) : step s = exec c s := by
  unfold step
  rw [hp]
  simp only [hd]

theorem step_tick (hp : s.pending = []) (hd : due s = none) : step s = .next (tick s) := by
  unfold step
  rw [hp]
  simp only [hd]

/-! ## What a millisecond counts in each block -/

theorem tickWli_quiet (p : Params) (w : Wli) :
    (tickWli p w).quiet = min (w.quiet + charactersPerMs w.linkRate) 65535 := rfl

/-- The wait time goes on while AMP_READY is inactive at CREEP or RUN (R60). -/
theorem tickSteering_waits (ha : s.terminals.filtered[(24 : Fin 27)] = false)
    (hl : s.permit.level = .creep ∨ s.permit.level = .run) :
    tickSteering s = { s.steering with ampWait := min (s.steering.ampWait + 1) 101 } := by
  have moving : s.permit.level.still = false := by
    rcases hl with h | h <;> rw [h] <;> rfl
  exact if_pos ⟨ha, moving⟩

theorem tickSteering_rests
    (h : s.terminals.filtered[(24 : Fin 27)] = true ∨ s.permit.level = .stop ∨ s.permit.level = .emergency) :
    tickSteering s = s.steering := by
  refine if_neg fun ⟨ha, hl⟩ => ?_
  rcases h with h | h
  · exact absurd (h.symm.trans ha) nofun
  · rw [(still_iff _).2 h] at hl
    exact absurd hl nofun

/-- The three timers of one seat (R65, R66, R77). -/
theorem tickRestraint_seat (s : State) (i : Fin 8) :
    (tickRestraint s).seats[i] =
      { s.restraint.seats[i] with
        verifyElapsed := if seatState s i = .locked then min ((s.restraint.seats[i]).verifyElapsed + 1) 2000
          else (s.restraint.seats[i]).verifyElapsed
        disagreeElapsed := if (seatState s i).inEvaluation = true ∧ (picture s i).conflict = true
          then min ((s.restraint.seats[i]).disagreeElapsed + 1) 1000 else (s.restraint.seats[i]).disagreeElapsed
        pulseElapsed := if i ∈ s.restraint.energised then min ((s.restraint.seats[i]).pulseElapsed + 1) 5000
          else (s.restraint.seats[i]).pulseElapsed } := by
  have ticked : (tickRestraint s).seats[i] =
      tickSeat (picture s i) (s.restraint.energised.contains i) s.restraint.seats[i] := by
    simp [tickRestraint]
  rw [ticked]
  unfold tickSeat
  congr 1
  exact if_congr (by simp) rfl rfl

theorem tickCues_channel (e : CueEngine) (c : Fin 12) : (tickCues e).channels[c] = tickChannel e.channels[c] := by
  simp [tickCues]

/-- A channel that does not pulse stays as it is (R101). -/
theorem tickChannel_steady {x : Channel} (h : x = .on ∨ x = .off) : tickChannel x = x := by
  rcases h with rfl | rfl <;> rfl

/-- Settles O2: with nothing due, the millisecond is counted in each block, and the scene timer advances from there. -/
theorem stepWithoutCommands : Obligations.StepWithoutCommands := by
  intro s hp
  refine ⟨fun c hd => step_due hp hd, fun hd => ⟨countMillisecond s, tick s, step_tick hp hd, advanceScene_advanced _,
    rfl, ?_, ?_, ?_, ?_, tickSteering_waits, tickSteering_rests, rfl, tickRestraint_seat s, rfl,
    fun c => ⟨fun n hn => ?_, fun h => ?_⟩, ?_⟩⟩
  iterate 4
    intro hr
    exact (tickWli_quiet ..).trans (by rw [hr]; rfl)
  · exact (tickCues_channel s.cues c).trans (by rw [hn]; rfl)
  · exact (tickCues_channel s.cues c).trans (tickChannel_steady h)
  · show { s.store with activity := tickActivity s.store.activity } = _
    cases s.store.activity <;> rfl

end Sys2Proof.Machine
end

section
/-! PROOF. O52: a steering update. First what a fault of the Steering Computer leaves in its items and in the fault log, then the
stages one by one (R48 to R57), then the faults of an update in their order (log 36). -/

namespace Sys2Proof.Machine

variable {s t : State} {k : FaultKind} {sub : SubCause} {d : Nat}

/-! ## The steering in HALT (R44) -/

/-- The steering state and the amplifier wait time may have moved, and nothing else of the Steering Computer. -/
def UpdateStands (c c' : Steering) : Prop := ∃ state ampWait, c' = { c with state := state, ampWait := ampWait }

theorem UpdateStands.refl (c : Steering) : UpdateStands c c := ⟨_, _, rfl⟩

theorem UpdateStands.trans {a b c : Steering} (h : UpdateStands a b) (l : UpdateStands b c) : UpdateStands a c := by
  obtain ⟨_, _, rfl⟩ := h
  obtain ⟨_, _, rfl⟩ := l
  exact ⟨_, _, rfl⟩

/-- In HALT with a fault that freezes, the steering is FROZEN unless it was IDLE. -/
theorem react_freezes {c : Steering} {active : List FaultKind} (now : Nat) (hs : c.state ≠ .idle)
    (hf : frozenSet active = true) : c.react .halt active now = { c with state := .frozen } := by
  obtain ⟨state, _⟩ := c
  cases state with
  | idle => exact absurd rfl hs
  | tracking => simp [Steering.react, hf]
  | frozen => simp [Steering.react, hf]

theorem frozenSet_insertKind {active : List FaultKind} (h : k.freezes = true ∨ frozenSet active = true) :
    frozenSet (insertKind k active) = true := by
  rcases h with h | h
  · exact List.any_eq_true.2 ⟨k, mem_insertKind_self k active, h⟩
  · obtain ⟨j, hj, hf⟩ := List.any_eq_true.1 h
    exact List.any_eq_true.2 ⟨j, mem_insertKind hj, hf⟩

/-- The steering froze, with its update standing. -/
structure Froze (c c' : Steering) : Prop where
  stands : UpdateStands c c'
  state : c'.state = .frozen

theorem Froze.notIdle {c c' : Steering} (h : Froze c c') : c'.state ≠ .idle := by
  rw [h.state]
  exact nofun

theorem Froze.trans {a b c : Steering} (h : Froze a b) (l : Froze b c) : Froze a c := ⟨h.stands.trans l.stands, l.state⟩

/-- From an online mode the entry into HALT tells the Steering Computer, and the permit then moves its wait time alone. -/
theorem enterMode_halt_steering (held : HeldFrom) (ho : s.mc.mode ≠ .offline) :
    (enterMode .halt held s).steering =
      { s.steering.react .halt s.permit.active s.localMs with ampWait := (enterMode .halt held s).steering.ampWait } := by
  have told : (tellBlocks s.mc.mode .halt (modMc s (ModeController.enter .halt held))).steering =
      s.steering.react .halt s.permit.active s.localMs := by
    unfold tellBlocks
    simp [ho, steeringReact, ModeController.enter]
  simp only [enterMode, dispatchScene_steering, releaseAtModeChange_steering, formCeilings_steering]
  rw [refreshPermit_steering, told]

theorem raiseFault_freezes (ho : s.mc.mode ≠ .offline) (hs : s.steering.state ≠ .idle)
    (hf : k.freezes = true ∨ frozenSet s.permit.active = true) : Froze s.steering (raiseFault k sub d s).steering := by
  obtain ⟨-, hactive⟩ := recordFault_online k sub d s ho
  have reacted : s.steering.react .halt (recordFault k sub d s).permit.active s.localMs =
      { s.steering with state := .frozen } := by
    rw [hactive]
    exact react_freezes _ hs (frozenSet_insertKind hf)
  by_cases hh : s.mc.mode = .halt
  · have raised : raiseFault k sub d s = steeringReact (recordFault k sub d s) := by simp [raiseFault, hh]
    have moved : (raiseFault k sub d s).steering = { s.steering with state := .frozen } := by
      rw [raised, ← reacted, ← hh]
      rfl
    exact ⟨⟨_, _, moved⟩, by rw [moved]⟩
  · have moved := enterMode_halt_steering (s := recordFault k sub d s) (haltHeld s.mc) ho
    rw [recordFault_steering, recordFault_localMs, reacted] at moved
    rw [raiseFault_enter k sub d ho hh]
    exact ⟨⟨_, _, moved⟩, by rw [moved]⟩

theorem raiseFault_frozenSet (ho : s.mc.mode ≠ .offline) (hf : k.freezes = true ∨ frozenSet s.permit.active = true) :
    frozenSet (raiseFault k sub d s).permit.active = true := by
  obtain ⟨-, hactive, -⟩ := raiseFault_records k sub d ho
  rw [hactive]
  exact frozenSet_insertKind hf

/-- RC silence found in HALT leaves a frozen steering as it is. -/
theorem rcCheck_froze {c : Steering} (h : Froze c s.steering) (ho : s.mc.mode ≠ .offline)
    (hf : frozenSet s.permit.active = true) : Froze c (rcCheck s).steering := by
  unfold rcCheck
  split
  · exact h.trans (raiseFault_freezes (s := modWli s fun w => { w with rcReported := true }) ho h.notIdle (.inr hf))
  · exact h

/-- A fault that freezes, in an online mode (R44). -/
theorem takeFault_freezes (ho : s.mc.mode ≠ .offline) (hs : s.steering.state ≠ .idle) (hk : k.freezes = true) :
    Froze s.steering (takeFault k sub d s).steering := by
  have raised : Froze s.steering (raiseFault k sub d s).steering := raiseFault_freezes ho hs (.inl hk)
  have online : (raiseFault k sub d s).mc.mode ≠ .offline := by
    rw [raiseFault_mc]
    split
    · exact ho
    · exact nofun
  unfold takeFault
  dsimp only
  split
  · exact raised
  · exact rcCheck_froze raised online (raiseFault_frozenSet ho (.inl hk))

/-- In any mode such a fault leaves what the update gave (R167). -/
theorem takeFault_stands (hs : s.steering.state ≠ .idle) (hk : k.freezes = true) :
    UpdateStands s.steering (takeFault k sub d s).steering ∧ (takeFault k sub d s).steering.state ≠ .idle := by
  by_cases ho : s.mc.mode = .offline
  · rw [takeFault_offline ho]
    exact ⟨.refl _, hs⟩
  · have froze := takeFault_freezes (sub := sub) (d := d) ho hs hk
    exact ⟨froze.stands, froze.notIdle⟩

/-! ## A record and the next ones (R168) -/

/-- A record with at most `n` later ones behind it. -/
def Recent (n : Nat) (x : Nat × FaultRecord) (log : List (Nat × FaultRecord)) : Prop :=
  ∃ older newer, log = older ++ x :: newer ∧ newer.length ≤ n

theorem Recent.mem {n : Nat} {x : Nat × FaultRecord} {log : List (Nat × FaultRecord)} (h : Recent n x log) : x ∈ log := by
  obtain ⟨older, newer, rfl, -⟩ := h
  simp

theorem Recent.mono {n m : Nat} {x : Nat × FaultRecord} {log : List (Nat × FaultRecord)} (h : Recent n x log)
    (hm : n ≤ m) : Recent m x log := by
  obtain ⟨older, newer, hl, hn⟩ := h
  exact ⟨older, newer, hl, hn.trans hm⟩

theorem appendLog_recent (u : PermitUnit) (r : FaultRecord) : Recent 0 (u.nextNumber, r) (u.appendLog r).log :=
  ⟨_, [], rfl, le_rfl⟩

/-- A log of at most 16 records drops one that has 15 later ones, and none before. -/
theorem Recent.appendLog {n : Nat} {x : Nat × FaultRecord} {u : PermitUnit} (h : Recent n x u.log) (hn : n < 15)
    (r : FaultRecord) : Recent (n + 1) x (u.appendLog r).log := by
  obtain ⟨older, newer, hl, hnew⟩ := h
  have length : u.log.length = older.length + newer.length + 1 := by simp [hl, Nat.add_assoc]
  unfold PermitUnit.appendLog
  dsimp only
  split
  · exact ⟨older, newer ++ [(u.nextNumber, r)], by simp [hl], by simp [hnew]⟩
  · next full =>
    cases older with
    | nil =>
      simp at length
      omega
    | cons y older => exact ⟨older, newer ++ [(u.nextNumber, r)], by simp [hl], by simp [hnew]⟩

theorem takeFault_recent (k : FaultKind) (sub : SubCause) (d : Nat) (s : State) :
    Recent 1 (s.permit.nextNumber, faultRecordOf s k sub d) (takeFault k sub d s).permit.log := by
  have raised : Recent 0 (s.permit.nextNumber, faultRecordOf s k sub d) (raiseFault k sub d s).permit.log := by
    rw [raiseFault_log]
    exact appendLog_recent ..
  unfold takeFault rcCheck
  dsimp only
  repeat' split
  · exact raised.mono (Nat.zero_le 1)
  · rw [raiseFault_log]
    exact raised.appendLog (by decide) _
  · exact raised.mono (Nat.zero_le 1)

/-- A fault that was taken stays so when another one is taken right after it. -/
theorem takeFault_taken_again (k j : FaultKind) (ho : s.mc.mode ≠ .offline) :
    FaultTaken k 0 s (takeFault j .none 0 (takeFault k .none 0 s)) := by
  have first := takeFault_taken k 0 ho
  have online : (takeFault k .none 0 s).mc.mode ≠ .offline := by
    rw [first.halt]
    exact nofun
  obtain ⟨-, hactive, hlog⟩ := raiseFault_records j .none 0 online
  rw [takeFault_halt first.halt]
  refine ⟨⟨s.permit.nextNumber, ?_⟩, ?_, ?_⟩
  · rw [hlog]
    exact ((takeFault_recent k .none 0 s).appendLog (by decide) _).mem
  · rw [hactive]
    exact mem_insertKind first.active
  · rw [raiseFault_mc, if_pos (.inr first.halt), first.halt]

/-! ## The faults of an update, GUIDE_LOST first (R49, R53) -/

/-- The faults that an update raises once it has finished. -/
def raiseSteering (lost saturated : Bool) (s : State) : State :=
  let t := if lost then takeFault .guideLost .none 0 s else s
  if saturated then takeFault .steerSaturated .none 0 t else t

theorem raiseSteering_stands (lost saturated : Bool) (hs : s.steering.state ≠ .idle) :
    UpdateStands s.steering (raiseSteering lost saturated s).steering := by
  have first : UpdateStands s.steering (if lost then takeFault .guideLost .none 0 s else s).steering ∧
      (if lost then takeFault .guideLost .none 0 s else s).steering.state ≠ .idle := by
    split
    · exact takeFault_stands hs rfl
    · exact ⟨.refl _, hs⟩
  unfold raiseSteering
  dsimp only
  split
  · exact first.1.trans (takeFault_stands first.2 rfl).1
  · exact first.1

theorem raiseSteering_density (lost saturated : Bool) (s : State) :
    (raiseSteering lost saturated s).density = s.density := by
  unfold raiseSteering
  dsimp only
  (repeat' split) <;> simp [takeFault_density]

theorem raiseSteering_lost (saturated : Bool) (ho : s.mc.mode ≠ .offline) (hs : s.steering.state ≠ .idle) :
    FaultTaken .guideLost 0 s (raiseSteering true saturated s) ∧
      (raiseSteering true saturated s).steering.state = .frozen := by
  have froze : Froze s.steering (takeFault .guideLost .none 0 s).steering := takeFault_freezes ho hs rfl
  have online : (takeFault .guideLost .none 0 s).mc.mode ≠ .offline := by
    rw [takeFault_mode, if_neg ho]
    exact nofun
  cases saturated with
  | false => exact ⟨takeFault_taken .guideLost 0 ho, froze.state⟩
  | true => exact ⟨takeFault_taken_again .guideLost .steerSaturated ho, (takeFault_freezes online froze.notIdle rfl).state⟩

theorem raiseSteering_saturated (lost : Bool) (ho : s.mc.mode ≠ .offline) (hs : s.steering.state ≠ .idle) :
    .steerSaturated ∈ (raiseSteering lost true s).permit.active ∧ (raiseSteering lost true s).mc.mode = .halt ∧
      (raiseSteering lost true s).steering.state = .frozen := by
  have raised (v : State) (hv : v.mc.mode ≠ .offline) (hi : v.steering.state ≠ .idle) :
      .steerSaturated ∈ (takeFault .steerSaturated .none 0 v).permit.active ∧
        (takeFault .steerSaturated .none 0 v).mc.mode = .halt ∧
        (takeFault .steerSaturated .none 0 v).steering.state = .frozen :=
    have taken := takeFault_taken .steerSaturated 0 hv
    ⟨taken.active, taken.halt, (takeFault_freezes hv hi rfl).state⟩
  cases lost with
  | false => exact raised s ho hs
  | true =>
    refine raised (takeFault .guideLost .none 0 s) ?_ (takeFault_freezes ho hs rfl).notIdle
    rw [takeFault_mode, if_neg ho]
    exact nofun

/-! ## The stages -/

theorem clampInt_eq {lo hi : Int} (i : Int) (h : lo ≤ hi) : clampInt lo hi i = max lo (min i hi) := by
  unfold clampInt
  split_ifs <;> omega

theorem guideSignal_iff (g : Int) : guideSignal g = true ↔ -2000 ≤ g ∧ g ≤ 2000 := decide_eq_true_iff

/-- What R57 gives a first update, and leaves of another one. -/
theorem first_eq (g : Int) (c : Steering) :
    c.first g = { c with
      ePrev := if c.firstPending = true ∧ -2000 ≤ g ∧ g ≤ 2000 then g else c.ePrev
      guideLoss := if c.firstPending then 0 else c.guideLoss
      saturation := if c.firstPending then 0 else c.saturation
      firstPending := false } := by
  unfold Steering.first
  obtain ⟨_, firstPending, _⟩ := c
  cases firstPending <;> simp [guideSignal_iff]

/-- The error of stage 1 does not see R57's first steps: with a guide signal it is the offset, without one they leave it. -/
theorem steeringError_first (g : Int) (c : Steering) :
    steeringError (c.first g) g = if -2000 ≤ g ∧ g ≤ 2000 then g else c.ePrev := by
  unfold steeringError
  rw [first_eq]
  by_cases h : -2000 ≤ g ∧ g ≤ 2000 <;> simp [guideSignal_iff, h]

theorem steeringRate_first (g d : Int) (c : Steering) :
    steeringRate (c.first g) g d =
      if -2000 ≤ g ∧ g ≤ 2000 ∧ 0 < d then
        max (-20000) (min (((steeringError (c.first g) g - (c.first g).ePrev) * 1000).tdiv d) 20000)
      else 0 := by
  unfold steeringRate
  rw [clampInt_eq _ (by decide)]
  simp only [guideSignal_iff, and_assoc]

theorem nextGuideLoss_first (g d : Int) (c : Steering) :
    nextGuideLoss (c.first g) g d = if -2000 ≤ g ∧ g ≤ 2000 then 0
      else min ((if c.firstPending then 0 else c.guideLoss) + d.natAbs) 65535 := by
  unfold nextGuideLoss
  rw [first_eq]
  simp only [guideSignal_iff]

/-- The gain set and the feedforward while SYNC are the current segment's, otherwise 0 (R51). -/
theorem steeringGains {set : Fin 4} {f : Int}
    (hsync : s.tracker.position = .sync → ∀ g, currentSegment s = some g → set = g.gainSet ∧ f = g.feedforward)
    (hunsync : s.tracker.position = .unsync → set = 0 ∧ f = 0)
    (hseg : s.tracker.position = .sync → currentSegment s ≠ none) :
    steeringGainSet s = set ∧ steeringFeedforward s = f := by
  unfold steeringGainSet steeringFeedforward
  cases hp : s.tracker.position with
  | unsync =>
    obtain ⟨rfl, rfl⟩ := hunsync hp
    exact ⟨rfl, rfl⟩
  | sync =>
    obtain ⟨g, hg⟩ := Option.ne_none_iff_exists'.1 (hseg hp)
    obtain ⟨rfl, rfl⟩ := hsync hp g hg
    rw [hg]
    exact ⟨rfl, rfl⟩

/-! ## An exchange in TRACKING -/

/-- The exchange's guide report, taken (R47). -/
def guided (g : Int) (s : State) : State := s.setSteering { s.steering with guidePresent := guideSignal g }

/-- The Steering Computer's items after the seven stages. -/
def updated (g d : Int) (s : State) : Steering :=
  ((guided g s).steering.first g).update s.params (steeringGainSet s) (steeringFeedforward s) g d s.localMs

/-- The state after the seven stages, before a fault is raised. -/
def steered (g d : Int) (s : State) : State := handCode (s.setSteering (updated g d s)) 0 (steeringCode (updated g d s).y)

theorem steerExchange_idle (guide distance : Int) (h : s.steering.state ≠ .tracking) :
    steerExchange guide distance s = guided guide s := if_neg h

theorem steerExchange_tracking (guide distance : Int) (h : s.steering.state = .tracking) :
    steerExchange guide distance s =
      raiseSteering (guideLostNow s.params ((guided guide s).steering.first guide) (updated guide (clampedDistance distance) s))
        (saturatedNow s.params ((guided guide s).steering.first guide) (updated guide (clampedDistance distance) s))
        (steered guide (clampedDistance distance) s) := if_pos h

theorem updated_state (g d : Int) (s : State) : (updated g d s).state = s.steering.state :=
  first_state g (guided g s).steering

/-- The items after an update, from the seven stages in the words of R48 to R55. -/
theorem updated_stages {g d e e0 r f u c limit allowed : Int} {set : Fin 4}
    (hset : steeringGainSet s = set) (hf : steeringFeedforward s = f)
    (he : e = if -2000 ≤ g ∧ g ≤ 2000 then g else s.steering.ePrev)
    (he0 : e0 = if s.steering.firstPending = true ∧ -2000 ≤ g ∧ g ≤ 2000 then g else s.steering.ePrev)
    (hr : r = if -2000 ≤ g ∧ g ≤ 2000 ∧ 0 < d then max (-20000) (min (((e - e0) * 1000).tdiv d) 20000) else 0)
    (hu : u = f - ((s.params.kp[set] : Int) * e + (s.params.kd[set] : Int) * r).tdiv 256)
    (hlimit : limit = s.params.steerLimit) (hc : c = max (-limit) (min u limit))
    (hallowed : allowed = (s.params.slewRate * max 1 (min (s.localMs - s.steering.reference) 50) : Nat)) :
    updated g d s = { s.steering with
      y := s.steering.y + max (-allowed) (min (c - s.steering.y) allowed)
      ePrev := e
      guidePresent := decide (-2000 ≤ g ∧ g ≤ 2000)
      reference := s.localMs
      firstPending := false
      guideLoss := if -2000 ≤ g ∧ g ≤ 2000 then 0
        else min ((if s.steering.firstPending then 0 else s.steering.guideLoss) + d.natAbs) 65535
      saturation := if u < -limit ∨ limit < u then
          (if 0 < d then min ((if s.steering.firstPending then 0 else s.steering.saturation) + 1) 256
          else if s.steering.firstPending then 0 else s.steering.saturation)
        else 0 } := by
  have error : steeringError ((guided g s).steering.first g) g = e := (steeringError_first ..).trans he.symm
  have previous : ((guided g s).steering.first g).ePrev = e0 := by
    rw [first_eq, he0]
    rfl
  have rate : steeringRate ((guided g s).steering.first g) g d = r := by
    rw [steeringRate_first, error, previous, hr]
  have demand : rawDemand s.params.kp[set] s.params.kd[set] f e r = u := hu.symm
  have clamped : clampInt (-s.params.steerLimit) s.params.steerLimit u = c := by
    rw [clampInt_eq _ (by omega), hc, hlimit]
  have slewing : slewed s.steering.y c (s.params.slewRate * max 1 (min (s.localMs - s.steering.reference) 50)) =
      s.steering.y + max (-allowed) (min (c - s.steering.y) allowed) := by
    unfold slewed
    rw [clampInt_eq _ (by omega), hallowed]
  unfold updated Steering.update
  rw [hset, hf, error, rate]
  dsimp only
  rw [demand, clamped, nextGuideLoss_first, first_eq, hlimit, ← slewing]
  rfl

/-- The stages leave what a fault record is made of (R165). -/
theorem FaultTaken.of_steered {g e : Int} (h : FaultTaken k d (steered g e s) t) : FaultTaken k d s t :=
  ⟨h.logged, h.active, h.halt⟩

/-- The faults leave the update, and the code that it handed to DG0. -/
theorem steerExchange_stands (guide distance : Int) (h : s.steering.state = .tracking) :
    UpdateStands (updated guide (clampedDistance distance) s) (steerExchange guide distance s).steering ∧
      (steerExchange guide distance s).density = (steered guide (clampedDistance distance) s).density := by
  rw [steerExchange_tracking guide distance h]
  refine ⟨raiseSteering_stands (s := steered guide (clampedDistance distance) s) _ _ ?_, raiseSteering_density ..⟩
  show (updated guide (clampedDistance distance) s).state ≠ .idle
  rw [updated_state, h]
  exact nofun

/-- GUIDE_LOST of an exchange, by the distance before it, R57's first steps taken, and after it (R49). -/
theorem guideLostNow_iff {c : Steering} (guide distance : Int) (s : State)
    (hc : UpdateStands (updated guide (clampedDistance distance) s) c) :
    guideLostNow s.params ((guided guide s).steering.first guide) (updated guide (clampedDistance distance) s) = true ↔
      (if s.steering.firstPending then 0 else s.steering.guideLoss) ≤ s.params.guideLossLimit * 10 ∧
        s.params.guideLossLimit * 10 < c.guideLoss := by
  obtain ⟨_, _, rfl⟩ := hc
  unfold guideLostNow
  rw [decide_eq_true_iff, first_eq]
  rfl

/-- STEER_SATURATED of an exchange, by the count before it, R57's first steps taken, and after it (R53). -/
theorem saturatedNow_iff {c : Steering} (guide distance : Int) (s : State)
    (hc : UpdateStands (updated guide (clampedDistance distance) s) c) :
    saturatedNow s.params ((guided guide s).steering.first guide) (updated guide (clampedDistance distance) s) = true ↔
      (if s.steering.firstPending then 0 else s.steering.saturation) ≤ s.params.saturationLimit ∧
        s.params.saturationLimit < c.saturation := by
  obtain ⟨_, _, rfl⟩ := hc
  unfold saturatedNow
  rw [decide_eq_true_iff, first_eq]
  rfl

/-- Settles O52: the stages by one equation each, the faults from what raising them leaves, and no update in another state. -/
theorem steeringUpdateStages : Obligations.SteeringUpdateStages := by
  refine ⟨?_, ?_, fun guide distance s h => steerExchange_idle guide distance h⟩
  · intro guide distance d e e0 r f u c limit allowed s set h hd he he0 hr hsync hunsync hseg hu hlimit hc hallowed
    obtain ⟨⟨_, _, stands⟩, hdensity⟩ := steerExchange_stands guide distance h
    rw [← clampedDistance_eq] at hd
    obtain ⟨hset, hf⟩ := steeringGains hsync hunsync hseg
    have update := updated_stages (g := guide) (d := d) hset hf he he0 hr hu hlimit hc hallowed
    subst hd
    rw [update] at stands
    refine ⟨_, rfl, ?_⟩
    rw [hdensity, stands, steered, update]
    exact ⟨rfl, rfl, rfl, rfl, rfl, rfl, rfl, rfl⟩
  · intro guide distance s t lost count h ht hlost hcount
    subst ht hlost hcount
    obtain ⟨stands, -⟩ := steerExchange_stands guide distance h
    have lostIff := guideLostNow_iff guide distance s stands
    have saturatedIff := saturatedNow_iff guide distance s stands
    have raised := steerExchange_tracking guide distance h
    generalize guideLostNow .. = lost at lostIff raised
    generalize saturatedNow .. = saturated at saturatedIff raised
    have tracking : (steered guide (clampedDistance distance) s).steering.state = .tracking := (updated_state ..).trans h
    have notIdle : (steered guide (clampedDistance distance) s).steering.state ≠ .idle := by
      rw [tracking]
      exact nofun
    refine ⟨fun ho hle hlt => ?_, fun ho hle hlt => ?_, fun hlost hsaturated => ?_⟩
    · rw [lostIff.2 ⟨hle, hlt⟩] at raised
      have taken := raiseSteering_lost saturated (s := steered guide (clampedDistance distance) s) ho notIdle
      rw [← raised] at taken
      exact ⟨taken.1.of_steered, taken.2⟩
    · rw [saturatedIff.2 ⟨hle, hlt⟩] at raised
      have taken := raiseSteering_saturated lost (s := steered guide (clampedDistance distance) s) ho notIdle
      rw [← raised] at taken
      obtain ⟨active, halt, frozen⟩ := taken
      refine ⟨active, halt, frozen, fun _ hin => ?_⟩
      rw [Bool.eq_false_iff.2 fun hlost => absurd (lostIff.1 hlost).2 (not_lt.2 hin)] at raised
      rw [raised]
      exact (takeFault_taken .steerSaturated 0 (s := steered guide (clampedDistance distance) s) ho).of_steered
    · rw [Bool.eq_false_iff.2 (mt lostIff.1 hlost), Bool.eq_false_iff.2 (mt saturatedIff.1 hsaturated)] at raised
      rw [raised]
      exact ⟨rfl, tracking⟩

end Sys2Proof.Machine
end

section
/-! PROOF. O54: the rows of a scene cue and of a pulse's end (R96, R101), then a cue that fires and each kind of its actions
(R89, R98 to R103). -/

namespace Sys2Proof.Machine

variable {s : State}

/-! ## The rows -/

/-- Of the scene cue at the scene cursor, the offset says whether the next advance reaches it (R96). -/
theorem sceneCueIsDue_at {i n offset : Nat} {c : Cue} (hr : sceneTimerRuns s = true) (hcursor : s.cues.sceneCursor = some i)
    (hv : s.tables.cues.status = .valid) (hc : s.tables.cues.entries[i]? = some c) (ht : c.trigger = .scene n offset) :
    sceneCueIsDue s = decide (offset ≤ s.cues.timer + 1) := by
  obtain ⟨_, _, _, _⟩ := c
  subst ht
  simp [sceneCueIsDue, hr, hcursor, Table.inUse, hv, hc]

theorem sceneCueIsDue_stopped (h : sceneTimerRuns s = false) : sceneCueIsDue s = false := by
  simp [sceneCueIsDue, h]

theorem sceneCueIsDue_noCursor (h : s.cues.sceneCursor = none) : sceneCueIsDue s = false := by
  simp [sceneCueIsDue, h]

/-- What stops the scene timer, one condition of R96 at a time. -/
theorem sceneTimerRuns_false (h : (s.mc.mode ≠ .run ∧ s.mc.mode ≠ .unload) ∨ s.tracker.position = .unsync ∨
    s.cues.scene = 0 ∨ 600000 ≤ s.cues.timer) : sceneTimerRuns s = false := by
  refine Bool.eq_false_iff.2 fun runs => ?_
  obtain ⟨hm, hp, hs, ht⟩ := sceneTimerRuns_iff.1 runs
  rcases h with ⟨hrun, hunload⟩ | hu | h0 | hend
  · exact hm.elim hrun hunload
  · rw [hp] at hu
    cases hu
  · exact hs h0
  · omega

theorem exec_sceneCueDue_due (h : sceneCueIsDue s = true) : exec .sceneCueDue s = .next (advanceScene s) :=
  congrArg Host.Outcome.next (if_pos h)

theorem exec_sceneCueDue_notDue (h : sceneCueIsDue s = false) : exec .sceneCueDue s = .next s :=
  congrArg Host.Outcome.next (if_neg (Bool.eq_false_iff.1 h))

theorem exec_sceneCueDue_rests (h : (s.mc.mode ≠ .run ∧ s.mc.mode ≠ .unload) ∨ s.tracker.position = .unsync ∨
    s.cues.scene = 0 ∨ 600000 ≤ s.cues.timer ∨ s.cues.sceneCursor = none) : exec .sceneCueDue s = .next s := by
  refine exec_sceneCueDue_notDue ?_
  rcases h with h | h | h | h | h
  · exact sceneCueIsDue_stopped (sceneTimerRuns_false (.inl h))
  · exact sceneCueIsDue_stopped (sceneTimerRuns_false (.inr (.inl h)))
  · exact sceneCueIsDue_stopped (sceneTimerRuns_false (.inr (.inr (.inl h))))
  · exact sceneCueIsDue_stopped (sceneTimerRuns_false (.inr (.inr (.inr h))))
  · exact sceneCueIsDue_noCursor h

/-- EFFECT_PULSE_END turns OFF a channel with at most one millisecond of its pulse left (R101). -/
theorem exec_effectPulseEnd_pulsing {c : Fin 12} {n : Nat} (h : s.cues.channels[c] = .pulsing n) :
    exec (.effectPulseEnd c) s =
      .next (if n ≤ 1 then { s with cues := { s.cues with channels := s.cues.channels.set c .off } } else s) := by
  have ends : (s.cues.channels[c]).pulseEnds = decide (n ≤ 1) := by rw [h]; rfl
  refine congrArg Host.Outcome.next ?_
  simp only [ends, decide_eq_true_eq]
  rfl

theorem exec_effectPulseEnd_steady {c : Fin 12} (h : s.cues.channels[c] = .off ∨ s.cues.channels[c] = .on) :
    exec (.effectPulseEnd c) s = .next s := by
  have ends : (s.cues.channels[c]).pulseEnds = false := by rcases h with h | h <;> rw [h] <;> rfl
  exact congrArg Host.Outcome.next (if_neg (Bool.eq_false_iff.1 ends))

/-! ## A cue that fires (R89) -/

theorem fireCue_skipped {c : Cue} (hr : c.runOnly = true) (hl : s.permit.level ≠ .run) :
    fireCue c s = { s with cues := { s.cues with skippedCues := min (s.cues.skippedCues + 1) 65535 } } :=
  if_pos ⟨hr, hl⟩

theorem fireCue_fires {c : Cue} (h : c.runOnly = false ∨ s.permit.level = .run) :
    fireCue c s = c.actions.foldl (fireAction c.id) s := by
  refine if_neg fun ⟨hr, hl⟩ => ?_
  rcases h with h | h
  · rw [hr] at h
    cases h
  · exact hl h

/-! ## START_VOICE (R98) -/

theorem storeIdle_iff : storeIdle s = true ↔ s.store.activity = .idle := beq_iff_eq

/-- Setting a show voice changes its record alone. -/
theorem putVoice_show (s : State) (v : Fin 4) (x : Option Voice) : putVoice s (showVoice v) x =
    { s with sound := { s.sound with voices := s.sound.voices.set v.val x } } :=
  congrArg s.setSound (setVoice_show s.sound s.params v x)

theorem fireAction_startVoice_skipped {id n gain : Nat} {v : Fin 4} {h : HoldBehaviour} {start : CueStart}
    (hskip : findClip s n = none ∨ s.mc.mode = .halt ∨ s.store.activity ≠ .idle) :
    fireAction id s (.startVoice v n gain h start) = countSkippedAction s := by
  unfold fireAction
  dsimp only
  cases hclip : findClip s n with
  | none => rfl
  | some clip =>
    refine if_pos (hskip.resolve_left (by rw [hclip]; exact nofun) |>.imp_right fun hbusy => ?_)
    exact Bool.eq_false_iff.2 (mt storeIdle_iff.1 hbusy)

theorem fireAction_startVoice {id n gain : Nat} {v : Fin 4} {h : HoldBehaviour} {clip : Clip} (start : CueStart)
    (hclip : findClip s n = some clip) (hm : s.mc.mode ≠ .halt) (hidle : s.store.activity = .idle) :
    fireAction id s (.startVoice v n gain h start) =
      { s with sound := { s.sound with voices := s.sound.voices.set v.val (some (cueVoice s v clip gain h start)) } } := by
  have starts : ¬(s.mc.mode = .halt ∨ storeIdle s = false) := by simp [hm, storeIdle_iff.2 hidle]
  simp only [fireAction, hclip]
  rw [if_neg starts, putVoice_show]

/-- The grid instant, in the statement's words (R113). -/
theorem nextGrid_eq (c : ShowClock) {period k : Nat} (hk : k = (c.ms / period + 1) * period) :
    c.nextGrid period = if k < 4294967296 then k else k - 4294967296 := by
  subst hk
  unfold ShowClock.nextGrid
  dsimp only
  split
  · next h => rw [if_neg (Nat.not_lt.2 h)]
  · next h => rw [if_pos (Nat.lt_of_not_le h)]

theorem cueVoice_grid {v : Fin 4} {clip : Clip} {gain period k : Nat} {h : HoldBehaviour}
    (hk : k = (s.clock.ms / period + 1) * period) : cueVoice s v clip gain h (.grid period) =
      ⟨.waiting, clip.number, 0, gain, gain, 0, s.params.cueRoute[v], clip.loopStart, some h,
        some ⟨if k < 4294967296 then k else k - 4294967296, 0, s.clock.state == .free⟩⟩ := by
  rw [← nextGrid_eq s.clock hk]
  rfl

/-! ## STOP_VOICE and SET_GAIN (R99) -/

/-- A stop of a show voice, by what the voice held before it. -/
theorem fireAction_stopVoice (id : Nat) (s : State) (v : Fin 4) (fade : Nat) :
    ∃ w : Option Voice, fireAction id s (.stopVoice v fade) =
        { s with sound := { s.sound with voices := s.sound.voices.set v.val w } } ∧
      (s.sound.voices[v.val] = none → w = none) ∧ (∀ x, s.sound.voices[v.val] = some x → Stopped fade x w) := by
  refine ⟨(s.sound.voices[v.val]).bind (Voice.stop fade), putVoice_show s v _, fun h => ?_, fun x h => ?_⟩
  · rw [h]
    rfl
  · rw [h]
    exact stop_stopped fade x

theorem changeGain_stopping {x : Voice} (target ramp : Nat) (h : x.state = .stopping) : x.changeGain target ramp = x := by
  simp [Voice.changeGain, h]

theorem changeGain_sounding {x : Voice} (target ramp : Nat) (h : x.state ≠ .stopping) : x.changeGain target ramp =
    { x with target := target, ramp := ramp, gain := if ramp = 0 then target else x.gain } := by
  cases hs : x.state with
  | stopping => exact absurd hs h
  | waiting | playing | paused => simp [Voice.changeGain, hs, Voice.rampTo]

/-- A gain change of a show voice, by what the voice held before it. -/
theorem fireAction_setGain (id : Nat) (s : State) (v : Fin 4) (target ramp : Nat) :
    ∃ w : Option Voice, fireAction id s (.setGain v target ramp) =
        { s with sound := { s.sound with voices := s.sound.voices.set v.val w } } ∧
      (s.sound.voices[v.val] = none → w = none) ∧
      (∀ x, s.sound.voices[v.val] = some x → x.state = .stopping → w = some x) ∧
      (∀ x, s.sound.voices[v.val] = some x → x.state ≠ .stopping →
        w = some { x with target := target, ramp := ramp, gain := if ramp = 0 then target else x.gain }) := by
  refine ⟨(s.sound.voices[v.val]).map (Voice.changeGain target ramp), putVoice_show s v _, fun h => ?_,
    fun x h hx => ?_, fun x h hx => ?_⟩
  · rw [h]
    rfl
  · rw [h]
    exact congrArg some (changeGain_stopping target ramp hx)
  · rw [h]
    exact congrArg some (changeGain_sounding target ramp hx)

/-! ## EFFECT and NOTIFY (R100, R102, R103) -/

theorem effectSkipped_iff {m : Mode} {op : EffectOp} : effectSkipped m op = true ↔ m = .halt ∧ op ≠ .off := by
  simp [effectSkipped]

theorem fireAction_effect_skipped {id : Nat} {c : Fin 12} {op : EffectOp} (hm : s.mc.mode = .halt) (hop : op ≠ .off) :
    fireAction id s (.effect c op) = countSkippedAction s := if_pos (effectSkipped_iff.2 ⟨hm, hop⟩)

theorem fireAction_effect {id : Nat} {c : Fin 12} {op : EffectOp} (h : s.mc.mode ≠ .halt ∨ op = .off) :
    fireAction id s (.effect c op) = { s with cues := { s.cues with channels := s.cues.channels.set c op.channel } } := by
  refine if_neg fun skipped => ?_
  obtain ⟨hm, hop⟩ := effectSkipped_iff.1 skipped
  exact h.elim (· hm) hop

/-- Settles O54: the rows by whether the cue or the end of the pulse is due, and a cue by its actions' own rules. -/
theorem cuesFireAndPulsesEnd : Obligations.CuesFireAndPulsesEnd := by
  refine ⟨?_, fun _ => exec_sceneCueDue_rests, fun _ _ _ => exec_effectPulseEnd_pulsing,
    fun _ _ => exec_effectPulseEnd_steady, fun _ _ => fireCue_skipped, fun _ _ => fireCue_fires, ?_,
    fireAction_stopVoice, fireAction_setGain, ?_, fun _ _ _ => rfl⟩
  · intro s i offset c hm hp hs ht hcursor hv hc htrigger
    have due := sceneCueIsDue_at (sceneTimerRuns_iff.2 ⟨hm, hp, hs, ht⟩) hcursor hv hc htrigger
    refine ⟨fun reached => ⟨_, exec_sceneCueDue_due ?_, advanceScene_advanced s⟩, fun ahead => exec_sceneCueDue_notDue ?_⟩
    · rw [due]
      exact decide_eq_true reached
    · rw [due]
      exact decide_eq_false (Nat.not_le.2 ahead)
  · intro id s v n gain h start
    refine ⟨fireAction_startVoice_skipped, fun clip hclip hm hidle => ⟨fireAction_startVoice .now hclip hm hidle, ?_⟩⟩
    intro period k _ _ hk
    rw [← cueVoice_grid hk]
    exact fireAction_startVoice (.grid period) hclip hm hidle
  · intro id s c time
    exact ⟨fireAction_effect (.inr rfl), fun hm => ⟨fireAction_effect (.inl hm), fireAction_effect (.inl hm)⟩,
      fun hm _ => fireAction_effect_skipped hm⟩

end Sys2Proof.Machine
end

section
/-! PROOF. O39: NOTICES (R104). -/

namespace Sys2Proof.Machine

/-- The response data, with the number left as a difference (R104). -/
theorem noticesData_eq (e : CueEngine) : noticesData e =
    [BitVec.ofNat 8 (min 8 e.notices.length)] ++
      ((e.notices.take 8).flatMap fun n =>
        be2 n.cue ++ [n.code] ++ be4 n.showMs ++ be3 n.position ++ be2 n.dispatchCount) ++
      [BitVec.ofNat 8 (e.notices.length - 8)] ++ be2 e.lostNotices ++ be2 e.skippedCues ++ be2 e.skippedActions := by
  rw [← List.length_drop]
  rfl

theorem handleNotices_done (s : State) : handleNotices [] s =
    ⟨.done, noticesData s.cues, { s with cues := { s.cues with notices := s.cues.notices.drop 8 } }⟩ := rfl

theorem handleNotices_refuses {args : List Byte} (h : args ≠ []) (s : State) :
    handleNotices args s = ⟨.argument, [], s⟩ := if_pos h

/-- Settles O39, by what the Cue Engine answers to an admitted NOTICES. -/
theorem noticesAreTaken : Obligations.NoticesAreTaken := by
  intro f rest s h
  constructor
  · intro hargs
    rw [← noticesData_eq]
    exact requestRow_answers h hargs (handleNotices_done _)
  · intro hargs
    exact requestRow_answers h rfl (handleNotices_refuses hargs _)

end Sys2Proof.Machine
end

section
/-! PROOF. O55: the position cursor (R91 to R94) and the entry into a scene (R95). -/

namespace Sys2Proof.Machine

variable {s t : State}

/-! ## Firing in table order (R92) -/

theorem Table.inUse_valid {α : Type} {x : Table α} (h : x.status = .valid) : x.inUse = x.entries := if_pos h

/-- Cues that fire, one after another. -/
def fireAll (cues : List Cue) (s : State) : State := cues.foldl (fun t c => fireCue c t) s

theorem fireAll_sceneKept (cues : List Cue) (s : State) : SceneKept s (fireAll cues s) :=
  foldl_sceneKept (fun t c => fireCue_sceneKept c t) cues s

theorem fireAll_tables (cues : List Cue) (s : State) : (fireAll cues s).tables = s.tables :=
  (OnlyShow.foldl (fun t c => fireCue_only c t) cues s).tables

/-- The position cursor before the cues of `later`, the first of which stands at place `i`: at that one when it is a position
cue, else past the last (R92). -/
def cursorBefore (later : List Cue) (i : Nat) : Cursor :=
  match later.head?.map Cue.trigger with
  | some (Trigger.position _) => .at i
  | _ => .exhausted

theorem cursorBefore_position {c : Cue} {later : List Cue} {mm : Nat} (h : c.trigger = .position mm) (i : Nat) :
    cursorBefore (c :: later) i = .at i := by simp [cursorBefore, h]

theorem cursorBefore_scene {c : Cue} {later : List Cue} {scene offset : Nat} (h : c.trigger = .scene scene offset) (i : Nat) :
    cursorBefore (c :: later) i = .exhausted := by simp [cursorBefore, h]

theorem cursorBefore_cases (later : List Cue) (i : Nat) :
    cursorBefore later i = .at i ∨ cursorBefore later i = .exhausted := by
  unfold cursorBefore
  split
  · exact .inl rfl
  · exact .inr rfl

/-- Nothing fires before a first cue that is not due, and the cursor comes to it. -/
theorem firePositionCues_notDue {dueAt : Nat → Bool} {later : List Cue}
    (hl : ∀ c ∈ later.head?, ∀ mm, c.trigger = .position mm → dueAt mm = false) (i : Nat) (s : State) :
    firePositionCues dueAt later i s = setCursor s (cursorBefore later i) := by
  cases later with
  | nil => rfl
  | cons c later =>
    cases hc : c.trigger with
    | position mm =>
      have notDue := hl c rfl mm hc
      simp [firePositionCues, hc, notDue, cursorBefore_position hc]
    | scene n offset => simp [firePositionCues, hc, cursorBefore_scene hc]

/-- The position cues that are due fire in table order, and the cursor comes to the first that is not (R92). -/
theorem firePositionCues_fired {dueAt : Nat → Bool} {fired later : List Cue}
    (hf : ∀ c ∈ fired, ∃ mm, c.trigger = .position mm ∧ dueAt mm = true)
    (hl : ∀ c ∈ later.head?, ∀ mm, c.trigger = .position mm → dueAt mm = false) (i : Nat) (s : State) :
    firePositionCues dueAt (fired ++ later) i s = setCursor (fireAll fired s) (cursorBefore later (i + fired.length)) := by
  induction fired generalizing i s with
  | nil => exact firePositionCues_notDue hl i s
  | cons c fired ih =>
    obtain ⟨mm, hc, due⟩ := hf c List.mem_cons_self
    have rest := ih (fun d hd => hf d (List.mem_cons_of_mem c hd)) (i + 1) (fireCue c s)
    simp only [List.cons_append, firePositionCues, hc, due, if_true, rest, List.length_cons]
    rw [Nat.add_assoc, Nat.add_comm 1]
    rfl

theorem fireFromCursor_at (dueAt : Nat → Bool) {i : Nat} (h : s.cues.cursor = .at i) (hv : s.tables.cues.status = .valid) :
    fireFromCursor dueAt s = firePositionCues dueAt (s.tables.cues.entries.drop i) i s := by
  simp only [fireFromCursor, h, Table.inUse_valid hv]

theorem fireFromCursor_rests (dueAt : Nat → Bool) (h : s.cues.cursor = .exhausted ∨ s.cues.cursor = .unplaced) :
    fireFromCursor dueAt s = s := by
  rcases h with h | h <;> simp only [fireFromCursor, h]

/-- The same from the cursor on. -/
theorem fireFromCursor_fired {dueAt : Nat → Bool} {i : Nat} {fired later : List Cue} (h : s.cues.cursor = .at i)
    (hv : s.tables.cues.status = .valid) (hd : s.tables.cues.entries.drop i = fired ++ later)
    (hf : ∀ c ∈ fired, ∃ mm, c.trigger = .position mm ∧ dueAt mm = true)
    (hl : ∀ c ∈ later.head?, ∀ mm, c.trigger = .position mm → dueAt mm = false) :
    fireFromCursor dueAt s = setCursor (fireAll fired s) (cursorBefore later (i + fired.length)) := by
  rw [fireFromCursor_at dueAt h hv, hd, firePositionCues_fired hf hl]

theorem reachedBy_true {p mm : Nat} (h : 10 * mm ≤ p) : reachedBy p mm = true := decide_eq_true h
theorem reachedBy_false {p mm : Nat} (h : p < 10 * mm) : reachedBy p mm = false := decide_eq_false (Nat.not_le.2 h)

/-- A forward movement that is no wrap, by the cues at or below the new P and those after them (R92). -/
theorem fireFromCursor_reached {i p : Nat} {fired later : List Cue} (h : s.cues.cursor = .at i)
    (hv : s.tables.cues.status = .valid) (hd : s.tables.cues.entries.drop i = fired ++ later)
    (hf : ∀ c ∈ fired, ∃ mm, c.trigger = .position mm ∧ 10 * mm ≤ p)
    (hl : ∀ c ∈ later.head?, ∀ mm, c.trigger = .position mm → p < 10 * mm) :
    fireFromCursor (reachedBy p) s = setCursor (fireAll fired s) (cursorBefore later (i + fired.length)) :=
  fireFromCursor_fired h hv hd (fun c hc => (hf c hc).imp fun _ => And.imp_right reachedBy_true)
    fun c hc mm hmm => reachedBy_false (hl c hc mm hmm)

/-! ## A forward wrap (R93) -/

theorem setCursor_setCursor (s : State) (c d : Cursor) : setCursor (setCursor s c) d = setCursor s d := rfl

theorem firstCursor_eq (hv : s.tables.cues.status = .valid) : firstCursor s = cursorBefore s.tables.cues.entries 0 := by
  unfold firstCursor
  rw [Table.inUse_valid hv]
  cases s.tables.cues.entries with
  | nil => rfl
  | cons c later =>
    obtain ⟨_, trigger, _, _⟩ := c
    cases trigger <;> rfl

/-- The first step of a wrap fires the cues below the route length; the second starts again from the first position cue. -/
theorem wrapCursor_restarts {p : Nat} {ended past : List Cue} (hv : s.tables.cues.status = .valid)
    (hcursor : (s.cues.cursor = .exhausted ∧ ended = []) ∨
      ∃ i, s.cues.cursor = .at i ∧ s.tables.cues.entries.drop i = ended ++ past)
    (he : ∀ c ∈ ended, ∃ mm, c.trigger = .position mm ∧ mm < s.tables.routeLength)
    (hp : ∀ c ∈ past.head?, ∀ mm, c.trigger = .position mm → s.tables.routeLength ≤ mm) :
    wrapCursor p s =
      fireFromCursor (reachedBy p) (setCursor (fireAll ended s) (cursorBefore s.tables.cues.entries 0)) := by
  have restart (c : Cursor) : firstCursor (setCursor (fireAll ended s) c) = cursorBefore s.tables.cues.entries 0 := by
    have same : (setCursor (fireAll ended s) c).tables = s.tables := fireAll_tables ended s
    rw [firstCursor_eq (by rw [same]; exact hv), same]
  unfold wrapCursor
  dsimp only
  rcases hcursor with ⟨hx, rfl⟩ | ⟨i, hi, hd⟩
  · rw [fireFromCursor_rests _ (.inl hx), firstCursor_eq hv]
    rfl
  · rw [fireFromCursor_fired hi hv hd (fun c hc => (he c hc).imp fun _ => And.imp_right decide_eq_true)
      fun c hc mm hmm => decide_eq_false (Nat.not_lt.2 (hp c hc mm hmm)), restart, setCursor_setCursor]

/-- From the start of the table on, the cues at or below P fire (R93 step 3): with the cursor at the first position cue as in
R92, and none of them where the table starts with no position cue. -/
theorem fireFromCursor_restarted {p : Nat} {again later : List Cue} (hv : s.tables.cues.status = .valid)
    (hc : s.cues.cursor = cursorBefore s.tables.cues.entries 0) (hd : s.tables.cues.entries = again ++ later)
    (ha : ∀ c ∈ again, ∃ mm, c.trigger = .position mm ∧ 10 * mm ≤ p)
    (hl : ∀ c ∈ later.head?, ∀ mm, c.trigger = .position mm → p < 10 * mm) :
    fireFromCursor (reachedBy p) s = setCursor (fireAll again s) (cursorBefore later again.length) := by
  rcases cursorBefore_cases s.tables.cues.entries 0 with first | past
  · rw [fireFromCursor_reached (hc.trans first) hv hd ha hl, Nat.zero_add]
  · have nothing : again = [] := by
      cases again with
      | nil => rfl
      | cons c more =>
        obtain ⟨mm, hmm, -⟩ := ha c List.mem_cons_self
        rw [hd, List.cons_append, cursorBefore_position hmm] at past
        cases past
    subst nothing
    rw [fireFromCursor_rests _ (.inl (hc.trans past))]
    have same : cursorBefore later ([] : List Cue).length = s.cues.cursor := by
      rw [hc, hd]
      rfl
    rw [same]
    rfl

/-- The three steps of a forward wrap (R93). -/
theorem wrapCursor_fired {p : Nat} {ended past again later : List Cue} (hv : s.tables.cues.status = .valid)
    (hcursor : (s.cues.cursor = .exhausted ∧ ended = []) ∨
      ∃ i, s.cues.cursor = .at i ∧ s.tables.cues.entries.drop i = ended ++ past)
    (he : ∀ c ∈ ended, ∃ mm, c.trigger = .position mm ∧ mm < s.tables.routeLength)
    (hp : ∀ c ∈ past.head?, ∀ mm, c.trigger = .position mm → s.tables.routeLength ≤ mm)
    (hd : s.tables.cues.entries = again ++ later) (ha : ∀ c ∈ again, ∃ mm, c.trigger = .position mm ∧ 10 * mm ≤ p)
    (hl : ∀ c ∈ later.head?, ∀ mm, c.trigger = .position mm → p < 10 * mm) :
    wrapCursor p s =
      setCursor (fireAll again (setCursor (fireAll ended s) (cursorBefore s.tables.cues.entries 0)))
        (cursorBefore later again.length) := by
  rw [wrapCursor_restarts hv hcursor he hp]
  have same : (setCursor (fireAll ended s) (cursorBefore s.tables.cues.entries 0)).tables = s.tables := fireAll_tables ended s
  exact fireFromCursor_restarted (by rw [same]; exact hv) (by rw [same]; rfl) (by rw [same]; exact hd) ha hl

/-- A wrap with the cursor past the last cue, to a P below every trigger, fires nothing (R93). -/
theorem wrapCursor_exhausted {p : Nat} (hx : s.cues.cursor = .exhausted) (hv : s.tables.cues.status = .valid)
    (hall : ∀ c ∈ s.tables.cues.entries, ∃ mm, c.trigger = .position mm ∧ p < 10 * mm) :
    wrapCursor p s = setCursor s (if s.tables.cues.entries = [] then .exhausted else .at 0) := by
  have first : cursorBefore s.tables.cues.entries 0 = if s.tables.cues.entries = [] then .exhausted else .at 0 := by
    cases hd : s.tables.cues.entries with
    | nil => rfl
    | cons c later =>
      obtain ⟨mm, hmm, -⟩ := hall c (by simp [hd])
      exact cursorBefore_position hmm 0
  have ahead : ∀ c ∈ s.tables.cues.entries.head?, ∀ mm, c.trigger = .position mm → p < 10 * mm := by
    intro c hc mm hmm
    obtain ⟨m, hm, above⟩ := hall c (List.mem_of_mem_head? hc)
    rw [hmm] at hm
    cases hm
    exact above
  rw [wrapCursor_fired (ended := []) (past := []) (again := []) hv (.inl ⟨hx, rfl⟩) nofun nofun rfl nofun ahead, ← first]
  rfl

/-! ## A placement (R91) -/

/-- The first place at which a test holds, where the list is split there. -/
theorem findIdx?_split {α : Type} {test : α → Bool} {before after : List α} (hb : ∀ a ∈ before, test a = false)
    (ha : ∀ a ∈ after.head?, test a = true) :
    (before ++ after).findIdx? test = if after = [] then none else some before.length := by
  have skipped : before.findIdx? test = none := List.findIdx?_eq_none_iff.2 hb
  cases after with
  | nil => simp [skipped]
  | cons a more => simp [List.findIdx?_append, skipped, List.findIdx?_cons, ha a rfl]

/-- A placement puts the cursor at the first position cue above P, and fires nothing (R91). -/
theorem placeCursor_placed {behind ahead : List Cue} (hv : s.tables.cues.status = .valid)
    (hd : s.tables.cues.entries = behind ++ ahead)
    (hb : ∀ c ∈ behind, ∀ mm, c.trigger = .position mm → 10 * mm ≤ s.tracker.p)
    (ha : ∀ c ∈ ahead.head?, ∃ mm, c.trigger = .position mm ∧ s.tracker.p < 10 * mm) :
    placeCursor s = setCursor s (if ahead = [] then .exhausted else .at behind.length) := by
  unfold placeCursor
  dsimp only
  rw [Table.inUse_valid hv, hd, findIdx?_split]
  · by_cases empty : ahead = [] <;> simp [empty]
  · intro c hc
    have below := hb c hc
    cases ht : c.trigger with
    | position mm => exact decide_eq_false (Nat.not_lt.2 (below mm ht))
    | scene n offset => rfl
  · intro c hc
    obtain ⟨mm, hmm, above⟩ := ha c hc
    simp [hmm, above]

/-! ## Movements (R90, R94, R95) -/

theorem cueMovement_offline (before after : Nat) (forward wrap : Bool) (h : s.mc.mode = .offline) :
    cueMovement before after forward wrap s = s := by
  simp [cueMovement, h, Mode.online]

theorem online_of_ne_offline {m : Mode} (h : m ≠ .offline) : m.online = true := by simp [Mode.online, h]

/-- A backward movement leaves the cursor, or across 0 exhausts it (R94). -/
theorem cueMovement_backward (before after : Nat) (wrap : Bool) (h : s.mc.mode ≠ .offline) :
    cueMovement before after false wrap s = if before < after then setCursor s .exhausted else s := by
  simp [cueMovement, online_of_ne_offline h]

theorem firePositionCues_scene (dueAt : Nat → Bool) (l : List Cue) (i : Nat) (s : State) :
    (firePositionCues dueAt l i s).cues.scene = s.cues.scene := by
  induction l generalizing i s with
  | nil => rfl
  | cons c l ih =>
    unfold firePositionCues
    split
    · rfl
    · split
      · exact (ih _ _).trans (fireCue_sceneKept c s).scene
      · rfl

theorem fireFromCursor_scene (dueAt : Nat → Bool) (s : State) : (fireFromCursor dueAt s).cues.scene = s.cues.scene := by
  unfold fireFromCursor
  split
  · exact firePositionCues_scene ..
  · rfl
  · rfl

theorem wrapCursor_scene (p : Nat) (s : State) : (wrapCursor p s).cues.scene = s.cues.scene :=
  (fireFromCursor_scene _ _).trans (fireFromCursor_scene _ s)

/-- The scene of the current segment; 0 without one (R95). -/
def handedScene (s : State) : Nat := ((currentSegment s).map (·.scene)).getD 0

/-- A forward movement enters another scene after its position cues (R95). -/
theorem cueMovement_forward (before after : Nat) (wrap : Bool) (h : s.mc.mode ≠ .offline)
    (ht : t = if wrap then wrapCursor after s else fireFromCursor (reachedBy after) s) :
    cueMovement before after true wrap s = if handedScene s = s.cues.scene then t else enterScene (handedScene s) t := by
  have kept : t.cues.scene = s.cues.scene := by
    rw [ht]
    split
    · exact wrapCursor_scene after s
    · exact fireFromCursor_scene _ s
  rw [← kept, ht]
  unfold cueMovement
  rw [if_neg (by rw [online_of_ne_offline h]; exact nofun)]
  rfl

/-! ## The entry into a scene (R95) -/

/-- A scene cue of the scene. -/
def Cue.isOf (scene : Nat) (c : Cue) : Bool :=
  match c.trigger with
  | .scene n _ => n == scene
  | .position _ => false

theorem Cue.isOf_iff {scene : Nat} {c : Cue} : c.isOf scene = true ↔ ∃ offset, c.trigger = .scene scene offset := by
  unfold Cue.isOf
  cases c.trigger <;> simp

/-- The scene cursor before the cues of `later`, the first of which stands at place `i`: at that one when it is of the scene,
else none (R96). -/
def sceneCursorBefore (scene : Nat) (later : List Cue) (i : Nat) : Option Nat :=
  match later.head?.map Cue.trigger with
  | some (Trigger.scene n _) => if n = scene then some i else none
  | _ => none

theorem sceneCursorBefore_of {scene : Nat} {c : Cue} (h : c.isOf scene = true) (later : List Cue) (i : Nat) :
    sceneCursorBefore scene (c :: later) i = some i := by
  obtain ⟨offset, hc⟩ := Cue.isOf_iff.1 h
  simp [sceneCursorBefore, hc]

theorem sceneCursorBefore_other {scene : Nat} {c : Cue} (h : ¬c.isOf scene = true) (later : List Cue) (i : Nat) :
    sceneCursorBefore scene (c :: later) i = none := by
  cases hc : c.trigger with
  | position mm => simp [sceneCursorBefore, hc]
  | scene n offset =>
    have other : n ≠ scene := fun same => h (Cue.isOf_iff.2 ⟨offset, by rw [hc, same]⟩)
    simp [sceneCursorBefore, hc, other]

/-- Where the scene cursor names a cue, it is the first. -/
theorem sceneCursorBefore_some {scene i j : Nat} {later : List Cue} (h : sceneCursorBefore scene later i = some j) : j = i := by
  cases later with
  | nil => cases h
  | cons c later =>
    by_cases hc : c.isOf scene = true
    · rw [sceneCursorBefore_of hc] at h
      exact (Option.some.inj h).symm
    · rw [sceneCursorBefore_other hc] at h
      cases h

/-- The first cue of a scene stands at a place, where no cue before the place is of the scene, and one after it only when the
one there is. -/
theorem firstSceneCue_eq {scene : Nat} {before after : List Cue} (hv : s.tables.cues.status = .valid)
    (hd : s.tables.cues.entries = before ++ after) (hb : ∀ c ∈ before, c.isOf scene = false)
    (ha : ∀ c ∈ after, c.isOf scene = true → ∃ d, after.head? = some d ∧ d.isOf scene = true) :
    firstSceneCue s scene = sceneCursorBefore scene after before.length := by
  have found : firstSceneCue s scene = (before ++ after).findIdx? (Cue.isOf scene) := by
    rw [← hd, ← Table.inUse_valid hv]
    rfl
  rw [found]
  cases after with
  | nil => exact findIdx?_split (after := []) hb nofun
  | cons c more =>
    by_cases hc : c.isOf scene = true
    · have first : ∀ d ∈ (c :: more).head?, d.isOf scene = true := fun d hd => Option.some.inj hd ▸ hc
      rw [sceneCursorBefore_of hc, findIdx?_split hb first]
      rfl
    · rw [sceneCursorBefore_other hc, List.findIdx?_eq_none_iff]
      intro d hd
      rcases List.mem_append.1 hd with hd | hd
      · exact hb d hd
      · refine Bool.eq_false_iff.2 fun of => hc ?_
        obtain ⟨e, he, first⟩ := ha d hd of
        exact Option.some.inj he ▸ first

/-- The scene cursor at the entry, by the scene's cues of offset 0 and those after them. -/
theorem firstSceneCue_entered {scene : Nat} {before now later : List Cue} (hv : s.tables.cues.status = .valid)
    (hd : s.tables.cues.entries = before ++ (now ++ later)) (hb : ∀ c ∈ before, ∀ offset, c.trigger ≠ .scene scene offset)
    (hn : ∀ c ∈ now, c.trigger = .scene scene 0)
    (hlater : now = [] → ∀ c ∈ later, ∀ offset, c.trigger = .scene scene offset →
      ∃ o, later.head?.map Cue.trigger = some (.scene scene o)) :
    firstSceneCue s scene = sceneCursorBefore scene (now ++ later) before.length := by
  refine firstSceneCue_eq hv hd (fun c hc => ?_) fun c hc of => ?_
  · refine Bool.eq_false_iff.2 fun of => ?_
    obtain ⟨offset, ht⟩ := Cue.isOf_iff.1 of
    exact hb c hc offset ht
  · cases now with
    | nil =>
      obtain ⟨offset, ht⟩ := Cue.isOf_iff.1 of
      obtain ⟨o, ho⟩ := hlater rfl c hc offset ht
      obtain ⟨d, first, hdt⟩ := Option.map_eq_some_iff.1 ho
      exact ⟨d, first, Cue.isOf_iff.2 ⟨o, hdt⟩⟩
    | cons d now => exact ⟨d, rfl, Cue.isOf_iff.2 ⟨0, hn d List.mem_cons_self⟩⟩

/-- The scene is entered, and none of its cues has fired. -/
def sceneEntered (scene : Nat) (cursor : Option Nat) (s : State) : State :=
  { s with cues := { s.cues with scene := scene, timer := 0, sceneCursor := cursor } }

def setSceneCursor (s : State) (cursor : Option Nat) : State := { s with cues := { s.cues with sceneCursor := cursor } }

/-- Entry into scene 0 arms nothing (R95). -/
theorem enterScene_zero (s : State) : enterScene 0 s = sceneEntered 0 none s := by
  have rests : sceneTimerRuns (sceneEntered 0 none s) = false := sceneTimerRuns_false (.inr (.inr (.inl rfl)))
  exact if_neg (Bool.eq_false_iff.1 rests)

theorem enterScene_eq {scene : Nat} {cursor : Option Nat} (h : 0 < scene) (hc : firstSceneCue s scene = cursor) :
    enterScene scene s =
      if sceneTimerRuns (sceneEntered scene cursor s) then fireDueSceneCues (sceneEntered scene cursor s)
      else sceneEntered scene cursor s := by
  unfold enterScene
  rw [if_neg (Nat.ne_of_gt h), hc]
  rfl

/-- Where the timer rests, no cue of the scene fires at its entry. -/
theorem enterScene_rests {scene : Nat} {cursor : Option Nat} (h : 0 < scene) (hc : firstSceneCue s scene = cursor)
    (hr : (s.mc.mode ≠ .run ∧ s.mc.mode ≠ .unload) ∨ s.tracker.position = .unsync) :
    enterScene scene s = sceneEntered scene cursor s := by
  have rests : sceneTimerRuns (sceneEntered scene cursor s) = false := sceneTimerRuns_false (hr.imp_right .inl)
  rw [enterScene_eq h hc, rests]
  rfl

/-- The cues of offset 0 that a scene starts with fire at its entry, and the scene cursor comes to the scene's next cue. -/
theorem fireDueSceneCues_entered {scene : Nat} {before now later : List Cue} (hv : s.tables.cues.status = .valid)
    (hd : s.tables.cues.entries = before ++ (now ++ later)) (hn : ∀ c ∈ now, c.trigger = .scene scene 0)
    (hl : ∀ c ∈ later.head?, ∀ offset, c.trigger = .scene scene offset → 0 < offset) :
    fireDueSceneCues (sceneEntered scene (sceneCursorBefore scene (now ++ later) before.length) s) =
      setSceneCursor (fireAll now (sceneEntered scene (sceneCursorBefore scene (now ++ later) before.length) s))
        (sceneCursorBefore scene later (before.length + now.length)) := by
  cases hcursor : sceneCursorBefore scene (now ++ later) before.length with
  | none =>
    cases now with
    | nil =>
      have same : sceneCursorBefore scene later (before.length + ([] : List Cue).length) = none := hcursor
      rw [same]
      rfl
    | cons c now =>
      rw [List.cons_append, sceneCursorBefore_of (Cue.isOf_iff.2 ⟨0, hn c List.mem_cons_self⟩)] at hcursor
      cases hcursor
  | some i =>
    have place := sceneCursorBefore_some hcursor
    subst place
    have rest : s.tables.cues.inUse.drop before.length = now ++ later := by
      rw [Table.inUse_valid hv, hd, List.drop_left]
    have fired := fireSceneCues_fired scene 0 now later before.length (sceneEntered scene (some before.length) s)
      (fun c hc => ⟨0, hn c hc, Nat.le_refl 0⟩) hl
    rw [← rest] at fired
    exact fired

/-- Where the timer runs, the scene's cues of offset 0 fire at its entry (R95). -/
theorem enterScene_fires {scene : Nat} {before now later : List Cue} (h : 0 < scene)
    (hc : firstSceneCue s scene = sceneCursorBefore scene (now ++ later) before.length)
    (hm : s.mc.mode = .run ∨ s.mc.mode = .unload) (hp : s.tracker.position = .sync)
    (hv : s.tables.cues.status = .valid) (hd : s.tables.cues.entries = before ++ (now ++ later))
    (hn : ∀ c ∈ now, c.trigger = .scene scene 0)
    (hl : ∀ c ∈ later.head?, ∀ offset, c.trigger = .scene scene offset → 0 < offset) :
    enterScene scene s =
      setSceneCursor (fireAll now (sceneEntered scene (sceneCursorBefore scene (now ++ later) before.length) s))
        (sceneCursorBefore scene later (before.length + now.length)) := by
  have runs : sceneTimerRuns (sceneEntered scene (sceneCursorBefore scene (now ++ later) before.length) s) = true :=
    sceneTimerRuns_iff.2 ⟨hm, hp, Nat.ne_of_gt h, (by decide : 0 < 600000)⟩
  rw [enterScene_eq h hc, if_pos runs, fireDueSceneCues_entered hv hd hn hl]

/-- Settles O55: the cues that a movement reaches by one induction along the table, for both steps of a wrap that fire; a
placement and the entry into a scene by the first place in the table that fits. -/
theorem positionCuesFireInOrder : Obligations.PositionCuesFireInOrder := by
  refine ⟨fun _ _ _ _ _ => fireFromCursor_reached, fun _ _ => fireFromCursor_rests _, fun _ _ => wrapCursor_exhausted, ?_,
    fun _ _ _ => placeCursor_placed, fun _ before after wrap => cueMovement_backward before after wrap, ?_,
    fun _ before after forward wrap => cueMovement_offline before after forward wrap,
    fun s => ⟨_, enterScene_zero s, rfl⟩, ?_,
    fun s before after forward wrap => (cueMovement_notices before after forward wrap s).bound⟩
  · intro s u p ended past again later hv hcursor he hp hd ha hl hu
    subst hu
    exact wrapCursor_fired hv hcursor he hp hd ha hl
  · intro s t before after scene wrap h ht hscene
    have handed : scene = handedScene s := by
      rw [hscene, handedScene]
      cases currentSegment s <;> rfl
    rw [handed]
    exact cueMovement_forward before after wrap h ht
  · intro s u scene before now later h hv hd hb hn hl hlater hu
    rw [List.append_assoc] at hd
    have first := firstSceneCue_entered hv hd hb hn hlater
    have entered : u = sceneEntered scene (sceneCursorBefore scene (now ++ later) before.length) s := hu
    subst entered
    refine ⟨enterScene_rests h first, fun hm hp => ?_⟩
    have fires := enterScene_fires h first hm hp hv hd hn hl
    refine ⟨fun nothing => ?_, fun _ => ⟨_, fires, ?_, ?_, rfl, rfl, rfl, rfl⟩⟩
    · subst nothing
      exact fires
    · exact (fireAll_sceneKept now _).scene
    · exact (fireAll_sceneKept now _).timer

end Sys2Proof.Machine
end

section
/-! PROOF. O40: the show clock's millisecond, the end of the sync age, the capture and the grid instants (R106, R107, R111,
R113). First what moving show time by a count of ns does. -/

namespace Sys2Proof.Machine

/-! ## Show time moved by a count of ns (R106, R110) -/

theorem addNs_us_lt (c : ShowClock) (d : Int) : (c.addNs d).us < 1000 := Nat.mod_lt _ (by decide)
theorem addNs_residue_lt (c : ShowClock) (d : Int) : (c.addNs d).residue < 1000 := Nat.mod_lt _ (by decide)

/-- Residue, us and ms carry, and show time wraps at 2^32 ms. -/
theorem addNs_totalNs (c : ShowClock) (d : Int) :
    ((c.addNs d).totalNs : Int) = ((c.totalNs : Int) + d) % 4294967296000000 := by
  have carried (t : Nat) : t / 1000000 * 1000000 + t / 1000 % 1000 * 1000 + t % 1000 = t := by omega
  have nonneg := Int.emod_nonneg ((c.totalNs : Int) + d) (by decide : (4294967296000000 : Int) ≠ 0)
  calc ((c.addNs d).totalNs : Int)
      = ((((c.totalNs : Int) + d) % 4294967296000000).toNat : Int) := congrArg Nat.cast (carried _)
    _ = ((c.totalNs : Int) + d) % 4294967296000000 := Int.toNat_of_nonneg nonneg

/-- A count of whole us leaves the residue of a show time in its range. -/
theorem addNs_residue {c : ShowClock} {d : Int} (hr : c.residue < 1000) (hd : d % 1000 = 0) :
    (c.addNs d).residue = c.residue := by
  have total := addNs_totalNs c d
  have low := addNs_residue_lt c d
  unfold ShowClock.totalNs at total
  omega

/-! ## A local millisecond (R106) -/

theorem slewStep_pos {p : Int} (h : 0 < p) : slewStep p = 1 := if_pos h
theorem slewStep_neg {p : Int} (h : p < 0) : slewStep p = -1 := by
  unfold slewStep
  rw [if_neg (by omega), if_pos h]
theorem slewStep_zero {p : Int} (h : p = 0) : slewStep p = 0 := by rw [h]; rfl

theorem advance_us_lt (c : ShowClock) : c.advance.us < 1000 := addNs_us_lt c _
theorem advance_residue_lt (c : ShowClock) : c.advance.residue < 1000 := addNs_residue_lt c _
theorem advance_pending (c : ShowClock) : c.advance.pending = c.pending - slewStep c.pending := rfl
theorem advance_adjustment (c : ShowClock) :
    c.advance.adjustment = c.adjustment + BitVec.ofInt 64 (1000 * slewStep c.pending) := rfl

theorem advance_totalNs (c : ShowClock) :
    (c.advance.totalNs : Int) = ((c.totalNs : Int) + (1000000 + 1000 * slewStep c.pending)) % 4294967296000000 :=
  addNs_totalNs c _

theorem advance_residue {c : ShowClock} (h : c.residue < 1000) : c.advance.residue = c.residue :=
  addNs_residue h (by omega)

/-- The clock is FREE from the event in which the age reaches 5000 (R111). -/
theorem advance_state (c : ShowClock) : c.advance.state = if 4999 ≤ c.age then .free else c.state := by
  have reached : 5000 ≤ c.age + 1 ↔ 4999 ≤ c.age := by omega
  simp only [ShowClock.advance, reached]

/-- A local millisecond whose slew adjustment is `g` us, which makes it `n` ns long. -/
theorem advance_slewed {c : ShowClock} {g : Int} {n : Nat} (hg : slewStep c.pending = g) (hn : (n : Int) = 1000000 + 1000 * g) :
    c.advance.pending = c.pending - g ∧ c.advance.adjustment = c.adjustment + BitVec.ofInt 64 (1000 * g) ∧
      c.advance.ms * 1000000 + c.advance.us * 1000 + c.advance.residue =
        (c.ms * 1000000 + c.us * 1000 + c.residue + n) % 4294967296000000 := by
  subst hg
  have total := advance_totalNs c
  rw [← hn, ← Int.natCast_add] at total
  exact ⟨advance_pending c, advance_adjustment c, Int.ofNat_inj.1 total⟩

/-! ## Capture and grid (R107, R113) -/

/-- A capture reads show time moved on by the periods since the last local millisecond (R107). -/
theorem capture_totalNs (c : ShowClock) (periods : Nat) :
    (c.capture periods).ms * 1000000 + (c.capture periods).us * 1000 + (c.capture periods).residue =
      (c.totalNs + periods * 1000000 / 24000) % 4294967296000000 := by
  have moved := addNs_totalNs c (periods * 1000000 / 24000 : Nat)
  rw [← Int.natCast_add] at moved
  exact Int.ofNat_inj.1 moved

theorem nextGrid_ahead {c : ShowClock} {period : Nat} (h : 0 < period) :
    ∃ k, c.ms < k * period ∧ k * period ≤ c.ms + period ∧
      c.nextGrid period = if k * period < 4294967296 then k * period else k * period - 4294967296 := by
  refine ⟨c.ms / period + 1, ?_, ?_, nextGrid_eq c rfl⟩
  · exact Nat.mul_comm _ _ ▸ Nat.lt_mul_div_succ c.ms h
  · rw [Nat.add_one_mul]
    exact Nat.add_le_add_right (Nat.div_mul_le_self _ _) _

/-- Settles O40, by what an advance, the end of the sync age, a capture and a grid instant make of the clock. -/
theorem showClockAdvancesAndIsRead : Obligations.ShowClockAdvancesAndIsRead := by
  refine ⟨fun s => ?_, fun s due => ?_, fun s early => ?_, fun c periods _ => ?_, fun c period positive _ => ?_⟩
  · refine ⟨s.clock.advance, rfl, advance_us_lt _, advance_residue_lt _, fun _ => advance_residue, advance_state _, rfl, rfl,
      fun ahead => ?_, fun behind => ?_, fun even => ?_⟩
    · exact advance_slewed (n := 1001000) (slewStep_pos ahead) (by decide)
    · obtain ⟨pending, adjustment, total⟩ := advance_slewed (n := 999000) (slewStep_neg behind) (by decide)
      have slower : BitVec.ofInt 64 (1000 * -1) = -1000 := by decide
      exact ⟨pending, by rw [adjustment, slower, BitVec.sub_eq_add_neg], total⟩
    · obtain ⟨pending, adjustment, total⟩ := advance_slewed (n := 1000000) (slewStep_zero even) (by decide)
      exact ⟨pending.trans (by omega), adjustment.trans (BitVec.add_zero _), total⟩
  · exact congrArg Host.Outcome.next (if_pos due)
  · exact congrArg Host.Outcome.next (if_neg (Nat.not_le.2 early))
  · exact ⟨addNs_us_lt c _, addNs_residue_lt c _, rfl, capture_totalNs c periods⟩
  · exact nextGrid_ahead positive

end Sys2Proof.Machine
end

section
/-! PROOF. O41: SYNC. What it makes of the clock (R109 to R111); then the check of the six voices under that clock, as a pass over
the Sound Engine in which each voice is judged by its own record (R125). -/

namespace Sys2Proof.Machine

variable {s : State} {snd : Sound}

/-! ## The clock after a sync (R110, R111) -/

theorem syncSteps_iff {p : Params} {d : Int} :
    syncSteps p d = true ↔ (p.stepThreshold : Int) * 1000 < |d.tdiv 1000| := decide_eq_true_iff

/-- Whether a SYNC stepped, as a byte of its response (R108). -/
theorem flag_syncSteps (p : Params) (d : Int) :
    flag (syncSteps p d) = [if (p.stepThreshold : Int) * 1000 < |d.tdiv 1000| then 1 else 0] := by
  by_cases h : (p.stepThreshold : Int) * 1000 < |d.tdiv 1000|
  · rw [syncSteps_iff.2 h, if_pos h]
    rfl
  · rw [Bool.eq_false_iff.2 (mt syncSteps_iff.1 h), if_neg h]
    rfl

theorem sync_state (c : ShowClock) (p : Params) (d : Int) :
    (c.sync p d).state = if |d.tdiv 1000| ≤ (p.lockTolerance : Int) then .locked else .slewing := rfl

theorem sync_age (c : ShowClock) (p : Params) (d : Int) : (c.sync p d).age = 0 := rfl

/-- Above the step threshold show time moves by the whole offset. -/
theorem sync_stepped {c : ShowClock} {p : Params} {d : Int} (h : (p.stepThreshold : Int) * 1000 < |d.tdiv 1000|) :
    c.sync p d = { c.addNs d with
      pending := 0, steps := bump c.steps, adjustment := c.adjustment + BitVec.ofInt 64 d
      state := (c.sync p d).state, age := 0 } := by
  simp only [ShowClock.sync, syncSteps_iff.2 h, if_true]

theorem sync_stepped_time {c : ShowClock} {p : Params} {d : Int} (h : (p.stepThreshold : Int) * 1000 < |d.tdiv 1000|) :
    (((c.sync p d).ms * 1000000 + (c.sync p d).us * 1000 + (c.sync p d).residue : Nat) : Int) =
        ((c.ms * 1000000 + c.us * 1000 + c.residue : Nat) + d) % 4294967296000000 ∧
      (c.sync p d).us < 1000 ∧ (c.sync p d).residue < 1000 ∧ (c.sync p d).pending = 0 ∧
      (c.sync p d).steps = min (c.steps + 1) 65535 ∧ (c.sync p d).adjustment = c.adjustment + BitVec.ofInt 64 d := by
  rw [sync_stepped h]
  exact ⟨addNs_totalNs c d, addNs_us_lt c d, addNs_residue_lt c d, rfl, rfl, rfl⟩

/-- Up to it the offset becomes the pending correction. -/
theorem sync_slewed {c : ShowClock} {p : Params} {d : Int} (h : |d.tdiv 1000| ≤ (p.stepThreshold : Int) * 1000) :
    c.sync p d = { c with pending := d.tdiv 1000, state := (c.sync p d).state, age := 0 } := by
  have slews : ¬syncSteps p d = true := mt syncSteps_iff.1 (not_lt.2 h)
  simp only [ShowClock.sync, slews, if_false, Bool.false_eq_true]

/-! ## One voice's record and resync (R125) -/

/-- A voice's record after the check; an IDLE one stays IDLE. -/
def checkedVoice (s : State) (o : Option Voice) : Option Voice := o.bind fun v => (v.resync s).1

/-- Whether the check of a voice counts as a resync. -/
def countsResync (s : State) (o : Option Voice) : Bool := o.any fun v => (v.resync s).2

theorem resync_untimed {v : Voice} (h : v.timing = none) : v.resync s = (some v, false) := by
  unfold Voice.resync
  rw [h]

theorem checkedVoice_untimed {o : Option Voice} (h : ∀ v, o = some v → v.timing = none) : checkedVoice s o = o := by
  cases o with
  | none => rfl
  | some v => simp [checkedVoice, resync_untimed (h v rfl)]

theorem countsResync_untimed {o : Option Voice} (h : ∀ v, o = some v → v.timing = none) : countsResync s o = false := by
  cases o with
  | none => rfl
  | some v => simp [countsResync, resync_untimed (h v rfl)]

theorem voiceLength_eq {v : Voice} {c : Clip} (h : findClip s v.clip = some c) : voiceLength s v = c.length := by
  simp [voiceLength, h]

/-! ## The Sound Engine after the check of one voice -/

/-- Whether the check of voice `i` counts as a resync. -/
def Sound.counts (s : State) (snd : Sound) (i : Fin 6) : Bool := countsResync s snd.voices[i]

/-- The Sound Engine `snd` once voice `i` is checked under the clock, the parameters and the clips of `s`. -/
def Sound.check (s : State) (snd : Sound) (i : Fin 6) : Sound :=
  { snd.setVoice s.params i (checkedVoice s snd.voices[i]) with
    resyncs := if snd.counts s i then bump snd.resyncs else snd.resyncs }

theorem setVoice_resyncs (snd : Sound) (p : Params) (i : Fin 6) (x : Option Voice) :
    (snd.setVoice p i x).resyncs = snd.resyncs := by
  unfold Sound.setVoice
  split
  · split <;> rfl
  · rfl

/-- Setting a voice's record to itself moves nothing, the duck level included (R134). -/
theorem setVoice_self (snd : Sound) (p : Params) (i : Fin 6) : snd.setVoice p i snd.voices[i] = snd := by
  have same : snd.voices.set i snd.voices[i] = snd.voices := Vector.set_getElem_self _
  unfold Sound.setVoice
  split
  · cases h : snd.voices[i] <;> simp [← h]
  · rw [same]

theorem check_untimed {i : Fin 6} (h : ∀ v, snd.voices[i] = some v → v.timing = none) : snd.check s i = snd := by
  unfold Sound.check
  rw [checkedVoice_untimed h, Sound.counts, countsResync_untimed h, setVoice_self]
  rfl

/-- The check of one voice reads the clock, the parameters and the clips, and changes the Sound Engine alone. -/
theorem resyncVoice_eq (s : State) (snd : Sound) (i : Fin 6) :
    resyncVoice (s.setSound snd) i = s.setSound (snd.check s i) := by
  have read : voiceAt (s.setSound snd) i = snd.voices[i] := rfl
  unfold resyncVoice
  rw [read]
  cases h : snd.voices[i] with
  | none => rw [check_untimed (by simp [h])]
  | some v =>
    have judged : v.resync (s.setSound snd) = v.resync s := rfl
    have put : putVoice (s.setSound snd) i (v.resync s).1 = s.setSound (snd.setVoice s.params i (v.resync s).1) := rfl
    simp only [judged, put, Sound.check, Sound.counts, h, checkedVoice, countsResync, Option.bind_some, Option.any_some,
      State.setSound_sound, State.setSound_setSound, setVoice_resyncs]
    cases (v.resync s).2 with
    | true => rfl
    | false =>
      simp only [Bool.false_eq_true, if_false]
      rw [← setVoice_resyncs snd s.params i (v.resync s).1]

/-- No item of the Sound Engine changed but the voices and the resync count. -/
def OnlyVoices (snd snd' : Sound) : Prop := snd' = { snd with voices := snd'.voices, resyncs := snd'.resyncs }

theorem OnlyVoices.refl (snd : Sound) : OnlyVoices snd snd := rfl

theorem OnlyVoices.trans {a b c : Sound} (h : OnlyVoices a b) (k : OnlyVoices b c) : OnlyVoices a c :=
  Eq.trans k (by rw [show b = _ from h])

/-- The check of a voice that is not V5 moves no duck level, and that of V5 moves none where it is untimed (R134). -/
theorem check_onlyVoices (h : ∀ v, snd.voices[(5 : Fin 6)] = some v → v.timing = none) (i : Fin 6) :
    OnlyVoices snd (snd.check s i) := by
  by_cases hi : i = announceVoice
  · subst hi
    exact congrArg (OnlyVoices snd) (check_untimed h) ▸ .refl snd
  · unfold OnlyVoices Sound.check
    rw [setVoice_of_ne snd s.params _ hi]

theorem check_voices (s : State) (snd : Sound) (i : Fin 6) :
    (snd.check s i).voices = snd.voices.set i (checkedVoice s snd.voices[i]) := setVoice_voices ..

theorem check_voice_self (s : State) (snd : Sound) (i : Fin 6) :
    (snd.check s i).voices[i] = checkedVoice s snd.voices[i] := by
  simp [check_voices]

theorem check_voice_ne (s : State) (snd : Sound) {i j : Fin 6} (h : i ≠ j) :
    (snd.check s i).voices[j] = snd.voices[j] := by
  simp [check_voices, Vector.getElem_set_ne _ _ (Fin.val_ne_of_ne h)]

theorem check_resyncs (s : State) (snd : Sound) (i : Fin 6) :
    (snd.check s i).resyncs = if snd.counts s i then bump snd.resyncs else snd.resyncs := rfl

/-! ## The check of the voices in turn -/

/-- The Sound Engine once the voices of a list are checked. -/
def Sound.checkAll (s : State) (l : List (Fin 6)) (snd : Sound) : Sound := l.foldl (Sound.check s) snd

theorem resyncAll_eq (s : State) : resyncAll s = s.setSound (s.sound.checkAll s (List.finRange 6)) := by
  have checked (l : List (Fin 6)) (snd : Sound) : l.foldl resyncVoice (s.setSound snd) = s.setSound (snd.checkAll s l) := by
    induction l generalizing snd with
    | nil => rfl
    | cons i l ih => exact (congrArg (l.foldl resyncVoice) (resyncVoice_eq s snd i)).trans (ih _)
  exact checked (List.finRange 6) s.sound

theorem checkAll_voice {l : List (Fin 6)} (once : l.Nodup) (snd : Sound) (j : Fin 6) :
    (snd.checkAll s l).voices[j] = if j ∈ l then checkedVoice s snd.voices[j] else snd.voices[j] := by
  induction l generalizing snd with
  | nil => rfl
  | cons i l ih =>
    obtain ⟨fresh, once⟩ := List.nodup_cons.1 once
    refine (ih once (snd.check s i)).trans ?_
    by_cases h : i = j
    · subst h
      rw [if_neg fresh, if_pos List.mem_cons_self, check_voice_self]
    · simp only [check_voice_ne s snd h, List.mem_cons, Ne.symm h, false_or]

/-- Each voice that counts adds one to the resync count, up to its last value. -/
theorem checkAll_resyncs {l : List (Fin 6)} (once : l.Nodup) (snd : Sound) :
    (snd.checkAll s l).resyncs = bump^[(l.filter (snd.counts s)).length] snd.resyncs := by
  induction l generalizing snd with
  | nil => rfl
  | cons i l ih =>
    obtain ⟨fresh, once⟩ := List.nodup_cons.1 once
    have later : l.filter ((snd.check s i).counts s) = l.filter (snd.counts s) :=
      List.filter_congr fun j hj =>
        congrArg (countsResync s) (check_voice_ne s snd (ne_of_mem_of_not_mem hj fresh).symm)
    refine (ih once (snd.check s i)).trans ?_
    rw [later, check_resyncs]
    by_cases counts : snd.counts s i = true
    · rw [if_pos counts, List.filter_cons_of_pos counts]
      rfl
    · rw [if_neg counts, List.filter_cons_of_neg counts]

theorem bump_iterate (n m : Nat) : bump^[n] m = if n = 0 then m else min (m + n) 65535 := by
  induction n generalizing m with
  | zero => rfl
  | succ n ih =>
    rw [Function.iterate_succ_apply, ih, bump, if_neg n.succ_ne_zero]
    split <;> omega

theorem checkAll_onlyVoices (l : List (Fin 6)) (h : ∀ v, snd.voices[(5 : Fin 6)] = some v → v.timing = none) :
    OnlyVoices snd (snd.checkAll s l) := by
  induction l generalizing snd with
  | nil => exact .refl snd
  | cons i l ih =>
    have kept : (snd.check s i).voices[(5 : Fin 6)] = snd.voices[(5 : Fin 6)] := by
      by_cases hi : i = 5
      · subst hi
        rw [check_untimed h]
      · exact check_voice_ne s snd hi
    exact (check_onlyVoices h i).trans (ih (kept ▸ h))

/-! ## The check of all voices -/

theorem resyncAll_voice (s : State) (i : Fin 6) :
    (resyncAll s).sound.voices[i] = checkedVoice s s.sound.voices[i] := by
  rw [resyncAll_eq]
  exact (checkAll_voice (List.nodup_finRange 6) _ i).trans (if_pos (List.mem_finRange i))

theorem resyncAll_resyncs (s : State) :
    (resyncAll s).sound.resyncs = if ∀ i, s.sound.counts s i = false then s.sound.resyncs
      else min (s.sound.resyncs + ((List.finRange 6).filter (s.sound.counts s)).length) 65535 := by
  have none_iff : ((List.finRange 6).filter (s.sound.counts s)).length = 0 ↔ ∀ i, s.sound.counts s i = false := by
    simp [List.filter_eq_nil_iff]
  have counted := checkAll_resyncs (s := s) (List.nodup_finRange 6) s.sound
  rw [bump_iterate] at counted
  rw [resyncAll_eq]
  refine counted.trans ?_
  simp only [← none_iff]

theorem resyncAll_onlyVoices (h : ∀ v, s.sound.voices[(5 : Fin 6)] = some v → v.timing = none) :
    OnlyVoices s.sound (resyncAll s).sound := by
  rw [resyncAll_eq]
  exact checkAll_onlyVoices _ h

/-- The check of each timed voice (R125). -/
theorem resyncAll_checked {i : Fin 6} {v : Voice} {tm : Timing} {c : Clip} (hv : s.sound.voices[i] = some v)
    (ht : v.timing = some tm) (hc : findClip s v.clip = some c) :
    VoiceChecked s.params.resyncTolerance (s.clock.elapsedUs tm.ms tm.us) c.length v tm
      (resyncAll s).sound.voices[i] (s.sound.counts s i) := by
  have record : (resyncAll s).sound.voices[i] = (v.resync s).1 := by rw [resyncAll_voice, hv]; rfl
  have counts : s.sound.counts s i = (v.resync s).2 := by rw [Sound.counts, hv]; rfl
  rw [record, counts, ← voiceLength_eq hc]
  exact resync_checked ht

/-! ## The request -/

theorem offsetNs_eq (c : ShowClock) (k : Capture) (t3 t2 t1 t0 u1 u0 : Byte) :
    c.offsetNs k (beNat [t3, t2, t1, t0]) (beNat [u1, u0]) =
      Int.bmod ((16777216 * t3.toNat + 65536 * t2.toNat + 256 * t1.toNat + t0.toNat : Nat) - (k.ms : Int)) 4294967296 *
          1000000 + (256 * u1.toNat + u0.toNat : Nat) * 1000 - k.us * 1000 - k.residue -
        (c.adjustment - k.adjustment).toInt := by
  rw [beNat_four, beNat_two]
  rfl

theorem handleSync_done {k : Capture} {t3 t2 t1 t0 u1 u0 : Byte} {d : Int} (hu : 256 * u1.toNat + u0.toNat ≤ 999)
    (hd : s.clock.offsetNs k (beNat [t3, t2, t1, t0]) (beNat [u1, u0]) = d) :
    handleSync k [t3, t2, t1, t0, u1, u0] s =
      ⟨.done, syncData s.params d (s.clock.sync s.params d), resyncAll (s.setClock (s.clock.sync s.params d))⟩ := by
  subst hd
  exact if_neg (by rw [beNat_two]; omega)

theorem handleSync_refuses {k : Capture} {args : List Byte}
    (h : args.length ≠ 6 ∨ ∃ t3 t2 t1 t0 u1 u0 : Byte, args = [t3, t2, t1, t0, u1, u0] ∧
      999 < 256 * u1.toNat + u0.toNat) : handleSync k args s = ⟨.argument, [], s⟩ := by
  rcases h with wrong | ⟨t3, t2, t1, t0, u1, u0, rfl, late⟩
  · unfold handleSync
    split
    · exact absurd rfl wrong
    · rfl
  · exact if_pos (by rw [beNat_two]; exact late)

/-- SYNC reads the capture of the frame that it takes (R107). -/
theorem headCapture_eq {f : Frame} {rest : List Frame} (h : s.wli.queue = f :: rest) : headCapture s = f.capture := by
  simp [headCapture, h]

theorem exec_sync_answers {f : Frame} {rest : List Frame} {args : List Byte} {st : Status} {data : List Byte} {t : State}
    (h : Admitted .sync f rest s) (hargs : f.args = args)
    (hA : handleSync f.capture args (taken s f rest) = ⟨st, data, t⟩) :
    exec .sync s = .next (answered f st data t) :=
  requestRow_answers h hargs (headCapture_eq h.queue ▸ hA)

theorem syncData_eq (p : Params) (d : Int) (c : ShowClock) : syncData p d c =
    beInt4 (clampInt (-2147483647) 2147483647 (d.tdiv 1000)) ++
      [if (p.stepThreshold : Int) * 1000 < |d.tdiv 1000| then 1 else 0] ++ [BitVec.ofNat 8 c.state.code] ++ be2 c.steps := by
  rw [← flag_syncSteps]
  rfl

/-- Settles O41, by the clock after a sync and the check of the voices under it. -/
theorem syncSetsClockAndVoices : Obligations.SyncSetsClockAndVoices := by
  refine ⟨?_, fun f rest s h bad => exec_sync_answers h rfl (handleSync_refuses bad)⟩
  intro f rest s t3 t2 t1 t0 u1 u0 d o h hargs hu hd ho
  subst ho
  have offset := (offsetNs_eq s.clock f.capture t3 t2 t1 t0 u1 u0).trans hd.symm
  have answer := exec_sync_answers h hargs (handleSync_done (s := taken s f rest) hu offset)
  rw [syncData_eq, taken_clock, taken_params] at answer
  obtain ⟨u, moved⟩ : ∃ u, (taken s f rest).setClock (s.clock.sync s.params d) = u := ⟨_, rfl⟩
  have clock : u.clock = s.clock.sync s.params d := moved ▸ rfl
  have sound : u.sound = s.sound := moved ▸ rfl
  have params : u.params = s.params := moved ▸ rfl
  have clips : findClip u = findClip s := moved ▸ rfl
  rw [moved] at answer
  refine ⟨resyncAll u, ?_, ?_, ?_⟩
  · rw [resyncAll_clock, clock]
    exact answer
  · rw [resyncAll_eq, ← moved]
    rfl
  · rw [resyncAll_clock, clock]
    refine ⟨sync_state .., sync_age .., sync_stepped_time, sync_slewed, ?_⟩
    rw [← clock, ← sound, ← params, ← clips]
    exact ⟨resyncAll_onlyVoices, u.sound.counts u,
      fun i untimed => ⟨(resyncAll_voice u i).trans (checkedVoice_untimed untimed), countsResync_untimed untimed⟩,
      fun i v tm c hv ht hc => resyncAll_checked hv ht hc, resyncAll_resyncs u⟩

end Sys2Proof.Machine
end

section
/-! SUPPORT. What the statements of the Sound Engine's requests and rows share: requests that are answered DONE or CLAMPED, the
join of a WAITING voice (R124), and the duck target beside V5 (R134). -/

namespace Sys2Proof.Machine

variable {s t : State} {snd : Sound}

/-! ## Requests -/

/-- An admitted request that is answered CLAMPED where a value was brought into its range, and DONE otherwise (R176). -/
theorem requestRow_doneOr {k : Kind} {handle : Handler} {f : Frame} {rest : List Frame} {args data : List Byte}
    {clamped : Bool} {p : Prop} [Decidable p] (h : Admitted k f rest s) (hargs : f.args = args)
    (hA : handle args (taken s f rest) = doneOr clamped data t) (hp : clamped = true ↔ p) :
    requestRow k handle s = .next (answered f (if p then .clamped else .done) data t) := by
  rw [← if_congr hp rfl rfl]
  exact requestRow_answers h hargs hA

/-- An index of a run that starts at 0, past its end. -/
theorem runIndex_zero_none {k n : Nat} (h : k ≤ n) : runIndex 0 k n = none := dif_neg (by omega)

/-- The byte of a show voice's number names that voice. -/
theorem runIndex_voiceByte (v : Fin 4) : runIndex 0 4 (BitVec.ofNat 8 v.val).toNat = some v := by
  rw [BitVec.toNat_ofNat]
  exact runIndex_voice v

theorem storeBusy_eq (h : s.store.activity ≠ .idle) : storeIdle s = false := Bool.eq_false_iff.2 (mt storeIdle_iff.1 h)

/-! ## A voice that joins (R124) -/

section
variable {v : Voice} {tm : Timing}

theorem joinDue_timed (hs : v.state = .waiting) (ht : v.timing = some tm) (c : ShowClock) :
    v.joinDue c = decide (0 ≤ c.elapsedUs tm.ms tm.us) := by
  simp [Voice.joinDue, hs, ht]

theorem joinDue_elsewhere (hs : v.state ≠ .waiting) (c : ShowClock) : v.joinDue c = false := by
  simp [Voice.joinDue, hs]

/-- A voice joins at its expected position. -/
theorem join_at {x : Nat} (ht : v.timing = some tm)
    (hx : ExpectedAt (s.clock.elapsedUs tm.ms tm.us) (voiceLength s v) v.loopPoint x) :
    v.join s = some { v with state := .playing, position := x } := by
  simp only [Voice.join, ht, expectedPosition_at hx]

/-- A voice that would join past the end of its clip is IDLE. -/
theorem join_past (ht : v.timing = some tm)
    (hx : ExpectedPast (s.clock.elapsedUs tm.ms tm.us) (voiceLength s v) v.loopPoint) : v.join s = none := by
  simp only [Voice.join, ht, expectedPosition_past hx]

end

/-! ## V5 and the duck target (R134) -/

/-- The duck target did not move. -/
structure DuckKept (a b : Sound) : Prop where
  level : b.duckLevel = a.duckLevel
  target : b.duckTarget = a.duckTarget
  ramp : b.duckRamp = a.duckRamp

/-- The duck target is newly `goal`, with a ramp of `time` ms; one of time 0 is at its target at once (R126). -/
structure DuckSet (goal time : Nat) (a b : Sound) : Prop where
  target : b.duckTarget = goal
  ramp : b.duckRamp = time
  level : b.duckLevel = if time = 0 then goal else a.duckLevel

/-- A voice set on V5 that was IDLE ducks the show. -/
theorem setVoice_announce_starts (h : snd.voices[announceVoice] = none) (p : Params) {x : Option Voice} (hx : x ≠ none) :
    DuckSet p.duckLevel p.duckRamp snd (snd.setVoice p announceVoice x) := by
  obtain ⟨y, rfl⟩ := Option.ne_none_iff_exists'.1 hx
  simp only [Sound.setVoice, if_true, h]
  exact ⟨rfl, rfl, rfl⟩

/-- V5 that becomes IDLE gives the show its level back. -/
theorem setVoice_announce_ends (h : snd.voices[announceVoice] ≠ none) (p : Params) :
    DuckSet 4096 p.duckRamp snd (snd.setVoice p announceVoice none) := by
  obtain ⟨y, hy⟩ := Option.ne_none_iff_exists'.1 h
  simp only [Sound.setVoice, if_true, hy]
  exact ⟨rfl, rfl, rfl⟩

/-- V5 that stays IDLE, or goes from one announcement to another, moves no duck target. -/
theorem setVoice_announce_stays {x : Option Voice} (h : snd.voices[announceVoice] = none ↔ x = none) (p : Params) :
    DuckKept snd (snd.setVoice p announceVoice x) := by
  cases x with
  | none =>
    simp only [Sound.setVoice, if_true, h.2 rfl]
    exact ⟨rfl, rfl, rfl⟩
  | some x =>
    obtain ⟨y, hy⟩ := Option.ne_none_iff_exists'.1 (mt h.1 nofun)
    simp only [Sound.setVoice, if_true, hy]
    exact ⟨rfl, rfl, rfl⟩

/-- Setting a voice other than V5 changes its record alone. -/
theorem putVoice_below {i : Fin 6} (h : i.val < 5) (s : State) (x : Option Voice) :
    putVoice s i x = { s with sound := { s.sound with voices := s.sound.voices.set i x } } :=
  congrArg s.setSound (setVoice_of_ne s.sound s.params x (Fin.ne_of_lt h))

/-- What setting a voice can reach: its record, and the duck target. -/
theorem setVoice_frame (snd : Sound) (p : Params) (i : Fin 6) (x : Option Voice) :
    snd.setVoice p i x =
      { snd with
        voices := snd.voices.set i x, duckLevel := (snd.setVoice p i x).duckLevel
        duckTarget := (snd.setVoice p i x).duckTarget, duckRamp := (snd.setVoice p i x).duckRamp } := by
  unfold Sound.setVoice
  split
  · split <;> rfl
  · rfl

end Sys2Proof.Machine
end

section
/-! PROOF. O42: VOICE_START (R122 to R124): its arguments, the record of the started voice in each start mode, the checks in
their order, and the response. -/

namespace Sys2Proof.Machine

variable {s : State} {a : VoiceStartArgs} {args : List Byte} {clip : Clip}

/-! ## The arguments (R123, R186) -/

theorem parse_voiceStart (v : Fin 4) (n g1 g0 : Byte) (r : Route) (h : HoldBehaviour) (mode : List Byte) :
    VoiceStartArgs.parse
        ([BitVec.ofNat 8 v.val, n, g1, g0, BitVec.ofNat 8 r.code, BitVec.ofNat 8 h.code] ++ mode) =
      (VoiceStartMode.parse mode).map fun start => ⟨v, n.toNat, 256 * g1.toNat + g0.toNat, r, h, start⟩ := by
  simp only [VoiceStartArgs.parse, List.cons_append, List.nil_append, BitVec.toNat_ofNat, Nat.reducePow,
    runIndex_voice, Route.ofCode_code, HoldBehaviour.ofCode_code, Option.bind_some, beNat_one, beNat_two]

theorem parse_mode_at (t3 t2 t1 t0 u1 u0 : Byte) : VoiceStartMode.parse [2, t3, t2, t1, t0, u1, u0] =
    some (.at (16777216 * t3.toNat + 65536 * t2.toNat + 256 * t1.toNat + t0.toNat) (256 * u1.toNat + u0.toNat)) := by
  rw [← beNat_four, ← beNat_two]
  rfl

theorem parse_mode_grid (p1 p0 : Byte) :
    VoiceStartMode.parse [1, p1, p0] = some (.grid (256 * p1.toNat + p0.toNat)) := by
  rw [← beNat_two]
  rfl

theorem Route.exists_code {b : Byte} (h : b.toNat ≤ 2) : ∃ r : Route, b = BitVec.ofNat 8 r.code := by
  have cases : b = 0 ∨ b = 1 ∨ b = 2 := by bv_omega
  rcases cases with rfl | rfl | rfl
  · exact ⟨.a, rfl⟩
  · exact ⟨.b, rfl⟩
  · exact ⟨.both, rfl⟩

theorem HoldBehaviour.exists_code {b : Byte} (h : b.toNat ≤ 2) : ∃ x : HoldBehaviour, b = BitVec.ofNat 8 x.code := by
  have cases : b = 0 ∨ b = 1 ∨ b = 2 := by bv_omega
  rcases cases with rfl | rfl | rfl
  · exact ⟨.continue, rfl⟩
  · exact ⟨.pause, rfl⟩
  · exact ⟨.fade, rfl⟩

/-- Every start names the clip of its second byte. -/
theorem parse_clip (ha : VoiceStartArgs.parse args = some a) : a.clip = (args.getD 1 0).toNat := by
  unfold VoiceStartArgs.parse at ha
  split at ha
  · simp only [Option.bind_eq_some_iff, Option.map_eq_some_iff] at ha
    obtain ⟨_, _, _, _, _, _, _, _, rfl⟩ := ha
    exact beNat_one _
  · cases ha

theorem parse_voice_outside {v : Byte} (h : 4 ≤ v.toNat) : VoiceStartArgs.parse (v :: args) = none := by
  unfold VoiceStartArgs.parse
  split
  · next heq =>
    obtain ⟨rfl, -⟩ := List.cons.inj heq
    rw [runIndex_zero_none h]
    rfl
  · rfl

/-! ## The record of the started voice (R122, R124) -/

/-- The next grid instant, modulo 2^32 ms (R113). -/
theorem nextGrid_mod {c : ShowClock} {p k : Nat} (hk : k = (c.ms / p + 1) * p) (hms : c.ms < 4294967296)
    (hp : p ≤ 10000) : c.nextGrid p = k % 4294967296 := by
  have near : k ≤ c.ms + p := by
    rw [hk, Nat.add_one_mul]
    exact Nat.add_le_add_right (Nat.div_mul_le_self _ _) _
  rw [nextGrid_eq c hk]
  split <;> omega

/-- The record of a start at a show time, in state `state` at `position`. -/
def VoiceStartArgs.timed (a : VoiceStartArgs) (clip : Clip) (state : VoiceState) (position : Nat) (tm : Timing) : Voice :=
  { startedVoice clip (min a.gain 8191) a.route (some a.hold) with
    state := state, position := position, timing := some tm }

/-- A GRID start waits for the next grid instant of its clamped period. -/
theorem requestedVoice_grid {period p k : Nat} (ha : a.start = .grid period) (hp : p = max 100 (min period 10000))
    (hk : k = (s.clock.ms / p + 1) * p) (hms : s.clock.ms < 4294967296) : requestedVoice s a clip =
      some (a.timed clip .waiting 0 ⟨k % 4294967296, 0, s.clock.state == .free⟩) := by
  rw [← nextGrid_mod hk hms (by omega), hp]
  simp only [requestedVoice, ha]
  rfl

section
variable {ms us : Nat}

/-- An AT time still to come: the voice waits for it. -/
theorem requestedVoice_waits (ha : a.start = .at ms us) (he : s.clock.elapsedUs ms us < 0) : requestedVoice s a clip =
    some (a.timed clip .waiting 0 ⟨ms, us, s.clock.state == .free⟩) := by
  simp only [requestedVoice, ha]
  rw [joinDue_timed rfl rfl, if_neg (by simpa using he)]
  rfl

/-- An AT time that has come: the voice joins in the event of its start. -/
theorem requestedVoice_due (ha : a.start = .at ms us) (he : 0 ≤ s.clock.elapsedUs ms us) : requestedVoice s a clip =
    ((startedVoice clip (min a.gain 8191) a.route (some a.hold)).waitFor s.clock ms us).join s := by
  simp only [requestedVoice, ha]
  rw [joinDue_timed rfl rfl, if_pos (by simpa using he)]

/-- It joins at its expected position. -/
theorem requestedVoice_joins {n x : Nat} (ha : a.start = .at ms us) (hclip : findClip s n = some clip)
    (he : 0 ≤ s.clock.elapsedUs ms us) (hx : ExpectedAt (s.clock.elapsedUs ms us) clip.length clip.loopStart x) :
    requestedVoice s a clip = some (a.timed clip .playing x ⟨ms, us, s.clock.state == .free⟩) := by
  rw [requestedVoice_due ha he]
  exact join_at rfl (by rwa [voiceLength_eq (findClip_number hclip)])

/-- It is IDLE when its clip has ended by then. -/
theorem requestedVoice_past {n : Nat} (ha : a.start = .at ms us) (hclip : findClip s n = some clip)
    (he : 0 ≤ s.clock.elapsedUs ms us) (hx : ExpectedPast (s.clock.elapsedUs ms us) clip.length clip.loopStart) :
    requestedVoice s a clip = none := by
  rw [requestedVoice_due ha he]
  exact join_past rfl (by rwa [voiceLength_eq (findClip_number hclip)])

/-! ## The checks in their order (R123) -/

theorem startModeFails_at : startModeFails s (.at ms us) = true ↔ 999 < us ∨ s.clock.elapsedUs ms us < -600000000 := by
  simp [startModeFails, tooLate]

end

theorem handleVoiceStart_malformed (ha : VoiceStartArgs.parse args = none) :
    handleVoiceStart args s = ⟨.argument, [], s⟩ := by
  simp only [handleVoiceStart, ha]
  rfl

/-- A clip that is absent is refused ARGUMENT, whatever the other arguments are. -/
theorem handleVoiceStart_noClip (hclip : findClip s (args.getD 1 0).toNat = none) :
    handleVoiceStart args s = ⟨.argument, [], s⟩ := by
  cases ha : VoiceStartArgs.parse args with
  | none => exact handleVoiceStart_malformed ha
  | some a =>
    rw [← parse_clip ha] at hclip
    simp only [handleVoiceStart, ha, hclip]
    rfl

theorem handleVoiceStart_late (ha : VoiceStartArgs.parse args = some a) (hclip : findClip s a.clip = some clip)
    (hm : startModeFails s a.start = true) : handleVoiceStart args s = ⟨.argument, [], s⟩ := by
  simp only [handleVoiceStart, ha, hclip, hm, if_true]
  rfl

theorem handleVoiceStart_busy (ha : VoiceStartArgs.parse args = some a) (hclip : findClip s a.clip = some clip)
    (hm : startModeFails s a.start = false) (hs : s.store.activity ≠ .idle) :
    handleVoiceStart args s = ⟨.busy, [], s⟩ := by
  simp only [handleVoiceStart, ha, hclip, hm, storeBusy_eq hs, if_true, Bool.false_eq_true, if_false]
  rfl

/-- A start that passes the checks replaces the named voice's record, and no other (R122). -/
theorem handleVoiceStart_starts (ha : VoiceStartArgs.parse args = some a) (hclip : findClip s a.clip = some clip)
    (hm : startModeFails s a.start = false) (hs : s.store.activity = .idle) : handleVoiceStart args s =
      doneOr (startClamped a) (voiceStartData (requestedVoice s a clip))
        { s with sound := { s.sound with
          voices := s.sound.voices.set a.voice.val (requestedVoice s a clip) } } := by
  simp only [handleVoiceStart, ha, hclip, hm, storeIdle_iff.2 hs, Bool.true_eq_false, Bool.false_eq_true, if_false,
    putVoice_show]

/-! ## The response (R123) -/

/-- A start clamps its gain, and a GRID start its period. -/
theorem startClamped_iff : startClamped a = true ↔ 8191 < a.gain ∨
    ∃ period, a.start = .grid period ∧ max 100 (min period 10000) ≠ period := by
  unfold startClamped
  split
  · next period h =>
    have moved : max 100 (min period 10000) ≠ period ↔ period < 100 ∨ 10000 < period := by omega
    simp [h, moved]
  all_goals simp_all

/-- The data of a timed voice: its state, its flags, and its start show time. -/
theorem voiceStartData_timed {v : Voice} {c : ShowClock} {ms us : Nat} (ht : v.timing = some ⟨ms, us, c.state == .free⟩) :
    voiceStartData (some v) =
      [BitVec.ofNat 8 (voiceCode (some v)), if c.state = .free then 3 else 2] ++ be4 ms ++ be2 us := by
  have flags : voiceFlags (some v) = if c.state = .free then 3 else 2 := by
    cases hc : c.state <;> simp [voiceFlags, ht, hc, bits]
  simp only [voiceStartData, flags, Option.bind_some, ht, apply_ite (be1 ·)]
  split <;> rfl

theorem be2_bytes (b1 b0 : Byte) : be2 (256 * b1.toNat + b0.toNat) = [b1, b0] := by
  simp only [be2, List.cons.injEq, and_true]
  constructor <;> bv_omega

theorem be4_bytes (b3 b2 b1 b0 : Byte) :
    be4 (16777216 * b3.toNat + 65536 * b2.toNat + 256 * b1.toNat + b0.toNat) = [b3, b2, b1, b0] := by
  simp only [be4, List.cons.injEq, and_true]
  refine ⟨?_, ?_, ?_, ?_⟩ <;> bv_omega

/-! ## The request -/

section
variable {f : Frame} {rest : List Frame}

/-- An admitted VOICE_START that passes the checks, by the record `w` that its start gives the voice. -/
theorem exec_voiceStart_starts {p : Prop} [Decidable p] (h : Admitted .voiceStart f rest s)
    (ha : VoiceStartArgs.parse f.args = some a) (hclip : findClip s a.clip = some clip)
    (hm : startModeFails s a.start = false) (hidle : s.store.activity = .idle) (hp : startClamped a = true ↔ p) :
    ∃ w, requestedVoice s a clip = w ∧
      exec .voiceStart s = .next (answered f (if p then .clamped else .done) (voiceStartData w)
        { taken s f rest with sound := { s.sound with voices := s.sound.voices.set a.voice.val w } }) :=
  ⟨_, rfl, requestRow_doneOr h rfl (handleVoiceStart_starts (s := taken s f rest) ha hclip hm hidle) hp⟩

/-- The response of an AT start that waits or has joined: the voice's state code `code`, its flags and the AT time. -/
theorem voiceStartData_at {v : Voice} {c : ShowClock} {code : Nat} {t3 t2 t1 t0 u1 u0 : Byte}
    (hcode : voiceCode (some v) = code)
    (ht : v.timing = some ⟨16777216 * t3.toNat + 65536 * t2.toNat + 256 * t1.toNat + t0.toNat,
      256 * u1.toNat + u0.toNat, c.state == .free⟩) :
    voiceStartData (some v) =
      [BitVec.ofNat 8 code, if c.state = .free then 3 else 2, t3, t2, t1, t0, u1, u0] := by
  rw [voiceStartData_timed ht, be4_bytes, be2_bytes, hcode]
  rfl

end

/-- Settles O42, by the record that each start mode gives the voice and by the checks in their order. -/
theorem voiceStartStartsVoices : Obligations.VoiceStartStartsVoices := by
  refine ⟨?_, ?_⟩
  · intro f rest s v n g1 g0 r h mode clip hadm hargs hclip hidle
    have starts {start : VoiceStartMode} (hmode : VoiceStartMode.parse mode = some start) :
        VoiceStartArgs.parse f.args = some ⟨v, n.toNat, 256 * g1.toNat + g0.toNat, r, h, start⟩ := by
      rw [hargs, parse_voiceStart, hmode]
      rfl
    refine ⟨?_, ?_, ?_⟩
    · rintro rfl
      obtain ⟨_, rfl, answer⟩ := exec_voiceStart_starts (p := 8191 < 256 * g1.toNat + g0.toNat) hadm (starts rfl) hclip rfl
        hidle (by simp [startClamped_iff])
      exact answer
    · rintro p1 p0 p k rfl hp hk hms
      obtain ⟨w, hw, answer⟩ := exec_voiceStart_starts
        (p := 8191 < 256 * g1.toNat + g0.toNat ∨ p ≠ 256 * p1.toNat + p0.toNat) hadm (starts (parse_mode_grid p1 p0)) hclip
        rfl hidle (by simp [startClamped_iff, hp])
      obtain rfl := hw.symm.trans (requestedVoice_grid rfl hp hk hms)
      rw [voiceStartData_timed (c := s.clock) rfl] at answer
      exact answer
    · rintro t3 t2 t1 t0 u1 u0 e rfl rfl
      have parsed := starts (parse_mode_at t3 t2 t1 t0 u1 u0)
      refine ⟨fun late => ?_, fun hu hnear => ?_⟩
      · exact requestRow_answers hadm rfl (handleVoiceStart_late parsed hclip (startModeFails_at.2 late))
      · have passes := Bool.eq_false_iff.2 (mt startModeFails_at.1 (not_or.2 ⟨Nat.not_lt.2 hu, not_lt.2 hnear⟩))
        obtain ⟨w, hw, answer⟩ := exec_voiceStart_starts (p := 8191 < 256 * g1.toNat + g0.toNat) hadm parsed hclip passes
          hidle (by simp [startClamped_iff])
        refine ⟨_, _, answer, rfl, fun o ho => Vector.getElem_set_ne (by omega) o.isLt ho.symm, fun ahead => ?_,
          fun x due hx => ?_, fun due hx => ?_⟩
        · obtain rfl := hw.symm.trans (requestedVoice_waits rfl ahead)
          exact ⟨voiceStartData_at rfl rfl, Vector.getElem_set_self _⟩
        · obtain rfl := hw.symm.trans (requestedVoice_joins rfl hclip due hx)
          exact ⟨voiceStartData_at rfl rfl, Vector.getElem_set_self _⟩
        · obtain rfl := hw.symm.trans (requestedVoice_past rfl hclip due hx)
          exact ⟨rfl, Vector.getElem_set_self _⟩
  · intro f rest s v n g1 g0 r h hadm hargs hr hh
    refine ⟨fun hv => ?_, fun hclip => ?_, fun hv hclip hbusy => ?_⟩
    · exact requestRow_answers hadm hargs (handleVoiceStart_malformed (parse_voice_outside hv))
    · exact requestRow_answers hadm hargs (handleVoiceStart_noClip hclip)
    · obtain ⟨voice, rfl⟩ : ∃ voice : Fin 4, v = BitVec.ofNat 8 voice.val := ⟨⟨v.toNat, hv⟩, by simp⟩
      obtain ⟨route, rfl⟩ := Route.exists_code hr
      obtain ⟨hold, rfl⟩ := HoldBehaviour.exists_code hh
      obtain ⟨clip, hclip⟩ := Option.ne_none_iff_exists'.1 hclip
      exact requestRow_answers hadm hargs
        (handleVoiceStart_busy (parse_voiceStart voice n g1 g0 route hold [0]) hclip rfl hbusy)

end Sys2Proof.Machine
end

section
/-! PROOF. O46: VOICE_JOIN (R124), the ramps of GAIN_RAMP_TICK (R126, R134), and FADE_END (R126). -/

namespace Sys2Proof.Machine

variable {s : State} {i : Fin 6} {v : Voice}

/-! ## VOICE_JOIN (R124) -/

theorem exec_voiceJoin_due {tm : Timing} (hv : s.sound.voices[i] = some v) (ht : v.timing = some tm)
    (hs : v.state = .waiting) (he : 0 ≤ s.clock.elapsedUs tm.ms tm.us) (hi : i.val < 5) :
    exec (.voiceJoin i) s =
      .next { s with sound := { s.sound with voices := s.sound.voices.set i (v.join s) } } := by
  have read : voiceAt s i = some v := hv
  have due : joinIsDue s i = true := by simp [joinIsDue, read, joinDue_timed hs ht, he]
  refine congrArg Host.Outcome.next ((if_pos due).trans ?_)
  rw [read, putVoice_below hi, Option.bind_some]

theorem exec_voiceJoin_rests (h : ∀ v, s.sound.voices[i] = some v → v.joinDue s.clock = false) :
    exec (.voiceJoin i) s = .next s := by
  have rests : joinIsDue s i = false := by
    unfold joinIsDue
    cases hv : voiceAt s i with
    | none => rfl
    | some v => exact h v hv
  exact congrArg Host.Outcome.next (if_neg (Bool.eq_false_iff.1 rests))

/-! ## One local millisecond of a ramp (R126) -/

theorem rampStep_rests (level target : Nat) : rampStep level target 0 = level := rfl
theorem rampStep_ends (level target : Nat) : rampStep level target 1 = target := rfl

/-- A move towards the target never passes it, so no level goes below 0. -/
theorem rampMove_nonneg (level target r : Nat) : 0 ≤ (level : Int) + ((target : Int) - level).tdiv r := by
  rcases Nat.le_total level target with up | down
  · have moved : 0 ≤ ((target : Int) - level).tdiv r := Int.tdiv_nonneg (by omega) r.cast_nonneg
    omega
  · have moved : ((level : Int) - target).tdiv r ≤ level - target := Int.tdiv_le_self r (by omega)
    have turned : ((target : Int) - level).tdiv r = -((level : Int) - target).tdiv r := by
      rw [← Int.neg_tdiv, Int.neg_sub]
    omega

theorem rampStep_moves (level target : Nat) {r : Nat} (h : 2 ≤ r) :
    (rampStep level target r : Int) = level + ((target : Int) - level).tdiv r := by
  unfold rampStep
  rw [if_neg (by omega), if_neg (by omega)]
  exact Int.toNat_of_nonneg (rampMove_nonneg level target r)

/-! ## The end of a fade (R126) -/

theorem fadeEnds_iff : v.fadeEnds = true ↔ v.state = .stopping ∧ v.ramp ≤ 1 := by simp [Voice.fadeEnds]

theorem rampTick_ends (hs : v.state = .stopping) (hr : v.ramp ≤ 1) : v.rampTick = none := if_pos (fadeEnds_iff.2 ⟨hs, hr⟩)

theorem rampTick_goes (h : v.state ≠ .stopping ∨ 1 < v.ramp) :
    v.rampTick = some { v with gain := rampStep v.gain v.target v.ramp, ramp := v.ramp - 1 } := by
  refine if_neg fun ends => ?_
  obtain ⟨hs, hr⟩ := fadeEnds_iff.1 ends
  exact h.elim (· hs) (Nat.not_lt.2 hr)

theorem rampAll_voice (snd : Sound) (i : Fin 6) : (rampAll snd).voices[i] = (snd.voices[i]).bind Voice.rampTick :=
  Vector.getElem_ofFn ..

theorem exec_fadeEnd_due (hv : s.sound.voices[i] = some v) (hs : v.state = .stopping) (hr : v.ramp ≤ 1) (hi : i.val < 5) :
    exec (.fadeEnd i) s = .next { s with sound := { s.sound with voices := s.sound.voices.set i none } } := by
  have read : voiceAt s i = some v := hv
  have due : fadeEnding s i = true := by simp [fadeEnding, read, fadeEnds_iff.2 ⟨hs, hr⟩]
  exact congrArg Host.Outcome.next ((if_pos due).trans (putVoice_below hi s none))

theorem exec_fadeEnd_rests (h : ∀ v, s.sound.voices[i] = some v → v.state ≠ .stopping ∨ 1 < v.ramp) :
    exec (.fadeEnd i) s = .next s := by
  have rests : ¬fadeEnding s i = true := by
    unfold fadeEnding
    cases hv : voiceAt s i with
    | none => exact nofun
    | some v =>
      intro ends
      obtain ⟨hs, hr⟩ := fadeEnds_iff.1 ends
      exact (h v hv).elim (· hs) (Nat.not_lt.2 hr)
  exact congrArg Host.Outcome.next (if_neg rests)

/-- Settles O46, by the join of a WAITING voice, one millisecond of a ramp, and the end of a fade. -/
theorem voicesJoinRampAndFade : Obligations.VoicesJoinRampAndFade := by
  refine ⟨?_, ?_, ?_, ?_⟩
  · rintro i s v tm e hv ht hs rfl
    refine ⟨fun early => exec_voiceJoin_rests fun w hw => ?_, fun c due hi hclip => ?_⟩
    · obtain rfl := Option.some.inj (hv.symm.trans hw)
      rw [joinDue_timed hs ht]
      exact decide_eq_false (not_le.2 early)
    · have sample := Int.tdiv_nonneg (Int.mul_nonneg due (by decide : (0 : Int) ≤ 32)) (by decide : (0 : Int) ≤ 1000)
      have joins {x : Nat} := join_at (s := s) (x := x) ht
      have past := join_past (s := s) ht
      rw [voiceLength_eq hclip] at joins past
      have joined := exec_voiceJoin_due hv ht hs due hi
      refine ⟨fun within => ?_, fun l around hl => ?_, fun ended hl => ?_⟩
      · rw [joined, joins ⟨_, rfl, sample, .inl ⟨within, rfl⟩⟩]
        rfl
      · rw [joined, joins ⟨_, rfl, sample, .inr ⟨around, l, hl, rfl⟩⟩]
        rfl
      · rw [joined, past ⟨ended, hl⟩]
  · exact fun i s h => exec_voiceJoin_rests fun v hv => joinDue_elsewhere (h v hv) _
  · intro s
    refine ⟨rampAll s.sound, rfl, rfl, fun h => ?_, fun h => ?_, rampStep_moves _ _, fun i => ⟨fun hv => ?_, fun v hv => ?_⟩⟩
    · exact (congrArg (rampStep _ _) h).trans (rampStep_rests ..)
    · exact (congrArg (rampStep _ _) h).trans (rampStep_ends ..)
    · rw [rampAll_voice, hv]
      rfl
    · rw [rampAll_voice, hv, Option.bind_some]
      refine ⟨rampTick_ends, fun hs hr => ?_, fun hs hr => ?_, fun hr => ⟨_, rampStep_moves _ _ hr, rampTick_goes (.inr hr)⟩⟩
      · have still : v.ramp - 1 = v.ramp := by omega
        rw [rampTick_goes (.inl hs), still, hr, rampStep_rests, ← hr]
      · rw [rampTick_goes (.inl hs), hr, rampStep_ends]
  · exact fun i s => ⟨fun v hv hs hr hi => exec_fadeEnd_due hv hs hr hi, exec_fadeEnd_rests⟩

end Sys2Proof.Machine
end

section
/-! PROOF. O47: SAMPLE_CLOCK. The mix of the two channels (R135, R137); the six voices one sample on, set in turn, of which V5
alone can move the duck target (R120, R134); and the sample that lies outside the store (R118). -/

namespace Sys2Proof.Machine

variable {s : State} {v : Voice}

/-! ## The mix (R137) -/

theorem sounds_iff : v.sounds = true ↔ v.state = .playing ∨ v.state = .stopping := by
  unfold Voice.sounds
  cases v.state <;> simp

theorem Route.feedsA_iff (r : Route) : r.feedsA = true ↔ r ≠ .b := by cases r <;> decide
theorem Route.feedsB_iff (r : Route) : r.feedsB = true ↔ r ≠ .a := by cases r <;> decide

/-- A voice's share of a channel, for the channel that all routes but `other` feed. -/
theorem contribution_eq {feeds : Route → Bool} {other : Route} (hf : ∀ r, feeds r = true ↔ r ≠ other) (s : State)
    (i : Fin 6) : contribution s feeds i =
      match s.sound.voices[i] with
      | none => 0
      | some v =>
        if (v.state = .playing ∨ v.state = .stopping) ∧ v.route ≠ other then
          beInt [s.store.memory.read (2 * sampleIndex s v), s.store.memory.read (2 * sampleIndex s v + 1)] *
            effectiveGain s.sound i v
        else 0 := by
  have read : voiceAt s i = s.sound.voices[i] := rfl
  unfold contribution
  rw [read]
  cases s.sound.voices[i] with
  | none => rfl
  | some v =>
    refine if_congr ?_ rfl rfl
    rw [Bool.and_eq_true, sounds_iff, hf]

/-- A channel is scaled from the sum of its six shares. -/
theorem mixed_shares {feeds : Route → Bool} {share : Fin 6 → Int} (h : ∀ i, contribution s feeds i = share i)
    (master : Nat) : mixed s feeds master =
      (share 0 + share 1 + share 2 + share 3 + share 4 + share 5) / 4096 * master / 4096 := by
  have summed : (allVoices.map (contribution s feeds)).sum =
      share 0 + share 1 + share 2 + share 3 + share 4 + share 5 := by
    simp only [allVoices, List.map_cons, List.map_nil, List.sum_cons, List.sum_nil, h, add_zero, add_assoc]
  rw [mixed, summed]

theorem mixCode_eq (m : Int) : mixCode m = (max (-32768) (min m 32767) + 32768).toNat := by
  rw [mixCode, clampSample, clampInt_eq m (by decide)]

theorem mixCount_eq (count : Nat) (m : Int) :
    mixCount count m = if m < -32768 ∨ 32767 < m then min (count + 1) 65535 else count := by
  have kept : clampSample m = m ↔ ¬(m < -32768 ∨ 32767 < m) := by
    rw [clampSample, clampInt_eq m (by decide)]
    omega
  simp only [mixCount, kept, ite_not]
  rfl

/-! ## A voice after its sample (R120) -/

theorem afterSample_silent (h : v.state = .waiting ∨ v.state = .paused) : v.afterSample s = some v := by
  have silent : ¬v.sounds = true := by rcases h with h | h <;> simp [sounds_iff, h]
  exact if_neg silent

/-- A voice that sounds advances, or at its clip's end goes to its loop point or is IDLE. -/
theorem afterSample_sounds {c : Clip} (h : v.state = .playing ∨ v.state = .stopping) (hc : findClip s v.clip = some c) :
    v.afterSample s = if v.position + 1 < c.length then some { v with position := v.position + 1 }
      else v.loopPoint.map fun l => { v with position := l } := by
  rw [Voice.afterSample, if_pos (sounds_iff.2 h), voiceLength_eq hc]

/-! ## The voices set in turn (R134) -/

/-- A voice's record after a sample clock; an IDLE one stays IDLE. -/
def sampledVoice (s : State) (i : Fin 6) : Option Voice := (voiceAt s i).bind (Voice.afterSample s)

theorem sampledVoice_of {i : Fin 6} {o : Option Voice} (h : s.sound.voices[i] = o) :
    sampledVoice s i = o.bind (Voice.afterSample s) := congrArg (Option.bind · _) h

/-- Of the records, V5's alone says how the duck target moves. -/
theorem setVoice_announce_congr {snd : Sound} {w : Vector (Option Voice) 6} (h : w[announceVoice] = snd.voices[announceVoice])
    (p : Params) (x : Option Voice) : { snd with voices := w }.setVoice p announceVoice x =
      { snd.setVoice p announceVoice x with voices := w.set announceVoice x } := by
  simp only [Sound.setVoice, if_true, h]
  cases snd.voices[announceVoice] <;> cases x <;> rfl

/-- Setting V0 to V5 in turn changes the records, and the duck target as V5's record alone does. -/
theorem putVoices_eq (s : State) (g : Fin 6 → Option Voice) :
    allVoices.foldl (fun t i => putVoice t i (g i)) s =
      s.setSound { s.sound.setVoice s.params announceVoice (g announceVoice) with voices := Vector.ofFn g } := by
  obtain ⟨w, hw⟩ : ∃ w, ((((s.sound.voices.set 0 (g 0)).set 1 (g 1)).set 2 (g 2)).set 3 (g 3)).set 4 (g 4) = w := ⟨_, rfl⟩
  have below : [0, 1, 2, 3, 4].foldl (fun t i => putVoice t i (g i)) s = s.setSound { s.sound with voices := w } := by
    simp [putVoice_below, ← hw]
    rfl
  have announce : w[announceVoice] = s.sound.voices[announceVoice] := by
    subst hw
    simp [announceVoice]
  have all : w.set announceVoice (g announceVoice) = Vector.ofFn g := by
    subst hw
    ext i hi
    interval_cases i <;> simp [announceVoice]
  calc allVoices.foldl (fun t i => putVoice t i (g i)) s
      = putVoice (s.setSound { s.sound with voices := w }) announceVoice (g announceVoice) :=
        congrArg (putVoice · announceVoice (g announceVoice)) below
    _ = s.setSound ({ s.sound with voices := w }.setVoice s.params announceVoice (g announceVoice)) := rfl
    _ = _ := by rw [setVoice_announce_congr announce, all]

/-! ## SAMPLE_CLOCK (R137) -/

/-- The Sound Engine after a sample clock. -/
def sampledSound (s : State) : Sound :=
  { s.sound.setVoice s.params announceVoice (sampledVoice s announceVoice) with
    voices := Vector.ofFn (sampledVoice s)
    saturationA := mixCount s.sound.saturationA (mixed s Route.feedsA s.sound.masterA)
    saturationB := mixCount s.sound.saturationB (mixed s Route.feedsB s.sound.masterB) }

/-- Both codes are mixed from the state before the event, and the generators hold them after it. -/
theorem sampleClock_eq (s : State) : sampleClock s =
    handCode (handCode (s.setSound (sampledSound s)) 1 (mixCode (mixed s Route.feedsA s.sound.masterA))) 2
      (mixCode (mixed s Route.feedsB s.sound.masterB)) :=
  congrArg (fun t : State => handCode (handCode (t.setSound { t.sound with
      saturationA := mixCount s.sound.saturationA (mixed s Route.feedsA s.sound.masterA)
      saturationB := mixCount s.sound.saturationB (mixed s Route.feedsB s.sound.masterB) })
    1 (mixCode (mixed s Route.feedsA s.sound.masterA))) 2 (mixCode (mixed s Route.feedsB s.sound.masterB)))
    (putVoices_eq s (sampledVoice s))

theorem sampleClock_sound (s : State) : (sampleClock s).sound = sampledSound s := by rw [sampleClock_eq]; rfl

theorem sampleClock_frame (s : State) :
    sampleClock s = { s with sound := (sampleClock s).sound, density := (sampleClock s).density } := by
  rw [sampleClock_eq]
  rfl

/-- DG0 keeps its code, and DG1 and DG2 take those of the two channels. -/
theorem sampleClock_density (s : State) :
    (sampleClock s).density[0] = s.density[0] ∧
      (sampleClock s).density[1] =
        { s.density[1] with code := mixCode (mixed s Route.feedsA s.sound.masterA) } ∧
      (sampleClock s).density[2] =
        { s.density[2] with code := mixCode (mixed s Route.feedsB s.sound.masterB) } := by
  rw [sampleClock_eq]
  simp [handCode]

theorem sampledSound_voice (s : State) (i : Fin 6) : (sampledSound s).voices[i] = sampledVoice s i := Vector.getElem_ofFn ..

theorem sampledSound_volumes (s : State) : (sampledSound s).masterA = s.sound.masterA ∧
    (sampledSound s).masterB = s.sound.masterB ∧ (sampledSound s).resyncs = s.sound.resyncs := by
  unfold sampledSound
  rw [setVoice_frame]
  exact ⟨rfl, rfl, rfl⟩

/-- V5's end gives the show its level back (R134). -/
theorem sampledSound_announceEnds (h : s.sound.voices[announceVoice] ≠ none) (he : sampledVoice s announceVoice = none) :
    DuckSet 4096 s.params.duckRamp s.sound (sampledSound s) := by
  obtain ⟨target, ramp, level⟩ := setVoice_announce_ends h s.params
  rw [← he] at target ramp level
  exact ⟨target, ramp, level⟩

/-- While V5 stays IDLE or plays on, the duck target stays. -/
theorem sampledSound_announceStays (h : s.sound.voices[announceVoice] = none ∨ sampledVoice s announceVoice ≠ none) :
    DuckKept s.sound (sampledSound s) := by
  have same : s.sound.voices[announceVoice] = none ↔ sampledVoice s announceVoice = none :=
    ⟨sampledVoice_of, fun he => h.resolve_right (not_not_intro he)⟩
  obtain ⟨level, target, ramp⟩ := setVoice_announce_stays same s.params
  exact ⟨level, target, ramp⟩

/-! ## A sample outside the store (R118) -/

theorem firstSome_eq_none_iff {α : Type} {l : List (Option α)} : firstSome l = none ↔ ∀ x ∈ l, x = none := by
  induction l with
  | nil => simp [firstSome]
  | cons x l ih => cases x <;> simp [firstSome, ih]

theorem mem_allVoices (i : Fin 6) : i ∈ allVoices := by revert i; decide

/-- No sample lies outside the store when each voice that sounds stands below its last index. -/
theorem badSample_eq_none_iff : badSample s = none ↔
    ∀ (i : Fin 6) (v : Voice), s.sound.voices[i] = some v → v.state = .playing ∨ v.state = .stopping →
      sampleIndex s v < 8388608 := by
  simp only [badSample, firstSome_eq_none_iff, List.forall_mem_map, mem_allVoices, forall_const, Option.bind_eq_none_iff,
    ite_eq_right_iff, reduceCtorEq, imp_false, not_and, Nat.not_le, sounds_iff, Config.storeBytes]
  refine forall_congr' fun i => forall_congr' fun v => imp_congr_right fun _ => imp_congr_right fun _ => ?_
  omega

theorem exec_sampleClock (h : badSample s = none) : exec .sampleClock s = .next (sampleClock s) := by
  change execSampleClock s = _
  simp only [execSampleClock, h]

theorem exec_sampleClock_faults (h : badSample s ≠ none) : ∃ a, exec .sampleClock s = .fault (.noStoreAddress a) := by
  obtain ⟨a, ha⟩ := Option.ne_none_iff_exists'.1 h
  refine ⟨a, ?_⟩
  change execSampleClock s = _
  simp only [execSampleClock, ha]

/-- Settles O47, by the mix, the duck target, and each voice after its sample. -/
theorem sampleClockMixes : Obligations.SampleClockMixes := by
  refine ⟨?_, ?_⟩
  · rintro s share accA accB mA mB inside hshare rfl rfl hA hB
    have mixedA : mixed s Route.feedsA s.sound.masterA = mA :=
      (mixed_shares (fun i => (contribution_eq Route.feedsA_iff s i).trans (hshare .b i).symm) _).trans hA.symm
    have mixedB : mixed s Route.feedsB s.sound.masterB = mB :=
      (mixed_shares (fun i => (contribution_eq Route.feedsB_iff s i).trans (hshare .a i).symm) _).trans hB.symm
    obtain ⟨dg0, dg1, dg2⟩ := sampleClock_density s
    rw [mixedA, mixCode_eq] at dg1
    rw [mixedB, mixCode_eq] at dg2
    refine ⟨sampleClock s, exec_sampleClock (badSample_eq_none_iff.2 inside), sampleClock_frame s, dg0, dg1, dg2, ?_⟩
    rw [sampleClock_sound, ← mixCount_eq, ← mixCount_eq, ← mixedA, ← mixedB]
    obtain ⟨masterA, masterB, resyncs⟩ := sampledSound_volumes s
    refine ⟨rfl, rfl, masterA, masterB, resyncs, fun sounded ended => ?_, fun kept => ?_,
      fun i => ⟨fun idle => ?_, fun v hv => ?_⟩⟩
    · rw [sampledSound_voice] at ended
      obtain ⟨target, ramp, level⟩ := sampledSound_announceEnds sounded ended
      exact ⟨target, ramp, level⟩
    · rw [sampledSound_voice] at kept
      obtain ⟨level, target, ramp⟩ := sampledSound_announceStays kept
      exact ⟨target, ramp, level⟩
    · rw [sampledSound_voice, sampledVoice_of idle]
      rfl
    · rw [sampledSound_voice, sampledVoice_of hv, Option.bind_some]
      refine ⟨afterSample_silent, fun sounds c hc => ?_⟩
      rw [afterSample_sounds sounds hc]
      refine ⟨fun within => if_pos within, fun last l hl => ?_, fun last hl => ?_⟩
      all_goals rw [if_neg (Nat.not_lt.2 last), hl]; rfl
  · intro s i v hv sounds outside
    refine exec_sampleClock_faults fun good => ?_
    exact Nat.not_lt.2 outside (badSample_eq_none_iff.1 good i v hv sounds)

end Sys2Proof.Machine
end

section
/-! PROOF. O43: VOICE_STOP and VOICE_GAIN (R127, R128). -/

namespace Sys2Proof.Machine

variable {s : State}

/-- Two bytes spell 0 only where both are 0. -/
theorem twoBytes_eq_zero {b1 b0 : Byte} : 256 * b1.toNat + b0.toNat = 0 ↔ b1 = 0 ∧ b0 = 0 := by
  constructor
  · intro h
    constructor <;> bv_omega
  · rintro ⟨rfl, rfl⟩
    rfl

/-- A show voice that was set is the one that the response reads. -/
theorem voiceAt_show {t : State} {v : Fin 4} {w : Option Voice}
    (h : t = { s with sound := { s.sound with voices := s.sound.voices.set v.val w } }) : voiceAt t (showVoice v) = w := by
  subst h
  exact Vector.getElem_set_self _

theorem handleVoiceStop_eq (v : Fin 4) (f1 f0 : Byte) (s : State) :
    handleVoiceStop [BitVec.ofNat 8 v.val, f1, f0] s =
      doneOr (decide (5000 < 256 * f1.toNat + f0.toNat))
        [BitVec.ofNat 8
          (voiceCode (voiceAt (stopVoice s (showVoice v) (min (256 * f1.toNat + f0.toNat) 5000)) (showVoice v)))]
        (stopVoice s (showVoice v) (min (256 * f1.toNat + f0.toNat) 5000)) := by
  rw [← beNat_two]
  simp only [handleVoiceStop, runIndex_voiceByte]
  rfl

theorem handleVoiceStop_outside {v : Byte} (h : 4 ≤ v.toNat) (f1 f0 : Byte) (s : State) :
    handleVoiceStop [v, f1, f0] s = ⟨.argument, [], s⟩ := by
  simp only [handleVoiceStop, runIndex_zero_none h]
  rfl

theorem handleVoiceGain_eq (v : Fin 4) (t1 t0 r1 r0 : Byte) (s : State) :
    handleVoiceGain [BitVec.ofNat 8 v.val, t1, t0, r1, r0] s =
      doneOr (decide (8191 < 256 * t1.toNat + t0.toNat) || decide (10000 < 256 * r1.toNat + r0.toNat))
        (voiceGainData (voiceAt (changeGain s (showVoice v) (min (256 * t1.toNat + t0.toNat) 8191)
          (min (256 * r1.toNat + r0.toNat) 10000)) (showVoice v)))
        (changeGain s (showVoice v) (min (256 * t1.toNat + t0.toNat) 8191) (min (256 * r1.toNat + r0.toNat) 10000)) := by
  rw [← beNat_two, ← beNat_two]
  simp only [handleVoiceGain, runIndex_voiceByte]

theorem handleVoiceGain_outside {v : Byte} (h : 4 ≤ v.toNat) (t1 t0 r1 r0 : Byte) (s : State) :
    handleVoiceGain [v, t1, t0, r1, r0] s = ⟨.argument, [], s⟩ := by
  simp only [handleVoiceGain, runIndex_zero_none h]
  rfl

/-- The gain of a response; an IDLE voice answers 0 (log 44). -/
theorem voiceGainData_eq (w : Option Voice) : voiceGainData w =
    [BitVec.ofNat 8 (voiceCode w)] ++ be2 (match w with | none => 0 | some x => x.gain) := by
  cases w <;> rfl

/-- Settles O43, by the stop and the gain change of a show voice that cues make too (R99). -/
theorem voiceStopAndGain : Obligations.VoiceStopAndGain := by
  refine ⟨?_, ?_, ?_, ?_⟩
  · intro f rest s v f1 f0 h hargs
    obtain ⟨w, moved, idle, stopped⟩ := fireAction_stopVoice 0 (taken s f rest) v (min (256 * f1.toNat + f0.toNat) 5000)
    have response := handleVoiceStop_eq v f1 f0 (taken s f rest)
    rw [show stopVoice _ _ _ = _ from moved, voiceAt_show rfl] at response
    have zero : min (256 * f1.toNat + f0.toNat) 5000 = 0 ↔ f1 = 0 ∧ f0 = 0 := by
      rw [← twoBytes_eq_zero]
      omega
    refine ⟨w, requestRow_doneOr h hargs response decide_eq_true_iff, idle, fun x hx silent => ?_, fun x hx sounds fades => ?_⟩
    · exact (stopped x hx).silent (silent.imp_right (.imp_right zero.2))
    · exact (stopped x hx).fading sounds (mt zero.1 (not_and_or.2 fades))
  · intro f rest s v t1 t0 r1 r0 h hargs
    obtain ⟨w, moved, idle, stopping, changes⟩ := fireAction_setGain 0 (taken s f rest) v
      (min (256 * t1.toNat + t0.toNat) 8191) (min (256 * r1.toNat + r0.toNat) 10000)
    have response := handleVoiceGain_eq v t1 t0 r1 r0 (taken s f rest)
    rw [show changeGain _ _ _ _ = _ from moved, voiceAt_show rfl, voiceGainData_eq] at response
    have zero : min (256 * r1.toNat + r0.toNat) 10000 = 0 ↔ r1 = 0 ∧ r0 = 0 := by
      rw [← twoBytes_eq_zero]
      omega
    refine ⟨w, requestRow_doneOr h hargs response (by simp), idle, stopping, fun x hx hs => ?_⟩
    rw [changes x hx hs]
    simp only [zero]
  · exact fun f rest s v f1 f0 hargs hv h => requestRow_answers h hargs (handleVoiceStop_outside hv ..)
  · exact fun f rest s v t1 t0 r1 r0 hargs hv h => requestRow_answers h hargs (handleVoiceGain_outside hv ..)

end Sys2Proof.Machine
end

section
/-! PROOF. O44: ANNOUNCE (R133, R134). -/

namespace Sys2Proof.Machine

variable {s : State} {n g1 g0 : Byte} {clip : Clip}

theorem handleAnnounce_ends (g1 g0 : Byte) (s : State) :
    handleAnnounce [0, g1, g0] s = ⟨.done, [0], putVoice s announceVoice none⟩ := rfl

theorem handleAnnounce_noClip (hn : n ≠ 0) (hclip : findClip s n.toNat = none) :
    handleAnnounce [n, g1, g0] s = ⟨.argument, [], s⟩ := by
  simp only [handleAnnounce, hn, if_false, hclip]
  rfl

theorem handleAnnounce_busy (hn : n ≠ 0) (hclip : findClip s n.toNat = some clip) (hs : s.store.activity ≠ .idle) :
    handleAnnounce [n, g1, g0] s = ⟨.busy, [], s⟩ := by
  simp only [handleAnnounce, hn, if_false, hclip, storeBusy_eq hs, if_true]
  rfl

theorem handleAnnounce_plays (hn : n ≠ 0) (hclip : findClip s n.toNat = some clip) (hs : s.store.activity = .idle) :
    handleAnnounce [n, g1, g0] s = doneOr (decide (8191 < 256 * g1.toNat + g0.toNat)) [2]
      (putVoice s announceVoice (some (startedVoice clip (min (256 * g1.toNat + g0.toNat) 8191) .both none))) := by
  rw [← beNat_two]
  simp only [handleAnnounce, hn, if_false, hclip, storeIdle_iff.2 hs, Bool.true_eq_false]
  rfl

theorem handleAnnounce_length {args : List Byte} (h : args.length ≠ 3) : handleAnnounce args s = ⟨.argument, [], s⟩ := by
  unfold handleAnnounce
  split
  · exact absurd rfl h
  · rfl

/-- Setting V5 changes its record and the duck target alone. -/
theorem putVoice_announce (s : State) (x : Option Voice) : putVoice s announceVoice x =
    { s with sound :=
      { s.sound with
        voices := s.sound.voices.set 5 x, duckLevel := (putVoice s announceVoice x).sound.duckLevel
        duckTarget := (putVoice s announceVoice x).sound.duckTarget
        duckRamp := (putVoice s announceVoice x).sound.duckRamp } } :=
  congrArg s.setSound (setVoice_frame s.sound s.params announceVoice x)

/-- Settles O44: V5 is set, and the duck target follows its leaving IDLE or becoming IDLE. -/
theorem announcementsDuckTheShow : Obligations.AnnouncementsDuckTheShow := by
  refine ⟨?_, ?_, ?_⟩
  · intro f rest s g1 g0 h hargs
    refine ⟨putVoice (taken s f rest) announceVoice none, requestRow_answers h hargs (handleAnnounce_ends ..),
      putVoice_announce .., fun idle => ?_, fun sounded => ?_⟩
    · obtain ⟨level, target, ramp⟩ := setVoice_announce_stays (iff_of_true idle rfl) s.params
      exact ⟨level, target, ramp⟩
    · obtain ⟨target, ramp, level⟩ := setVoice_announce_ends sounded s.params
      exact ⟨target, ramp, level⟩
  · intro f rest s n g1 g0 h hargs hn
    refine ⟨fun hclip => requestRow_answers h hargs (handleAnnounce_noClip hn hclip), fun clip hclip =>
      ⟨fun busy => requestRow_answers h hargs (handleAnnounce_busy hn hclip busy), fun idleStore => ?_⟩⟩
    refine ⟨putVoice (taken s f rest) announceVoice
        (some (startedVoice clip (min (256 * g1.toNat + g0.toNat) 8191) .both none)),
      requestRow_doneOr h hargs (handleAnnounce_plays hn hclip idleStore) decide_eq_true_iff,
      putVoice_announce .., fun sounded => ?_, fun idle => ?_⟩
    · obtain ⟨level, target, ramp⟩ := setVoice_announce_stays (iff_of_false sounded (Option.some_ne_none _)) s.params
      exact ⟨level, target, ramp⟩
    · obtain ⟨target, ramp, level⟩ := setVoice_announce_starts idle s.params (Option.some_ne_none _)
      exact ⟨target, ramp, level⟩
  · exact fun f rest s h hlen => requestRow_answers h rfl (handleAnnounce_length hlen)

end Sys2Proof.Machine
end

section
/-! PROOF. O45: MASTER_VOLUME (R136) and the effective gain (R135). -/

namespace Sys2Proof.Machine

variable {s : State} {c v1 v0 : Byte}

/-- A channel's byte names the channels whose volumes are set. -/
theorem Route.ofCode_channels (h : c.toNat ≤ 2) : ∃ r, Route.ofCode c.toNat = some r ∧
    (r.feedsA = true ↔ c = 0 ∨ c = 2) ∧ (r.feedsB = true ↔ c = 1 ∨ c = 2) := by
  obtain ⟨r, rfl⟩ := Route.exists_code h
  refine ⟨r, ?_, ?_, ?_⟩ <;> cases r <;> decide

theorem Route.ofCode_outside {n : Nat} (h : 2 < n) : Route.ofCode n = none := by
  unfold Route.ofCode
  split
  case h_4 => rfl
  all_goals omega

/-- A volume written to the channels that a byte names. -/
theorem handleMasterVolume_sets {a b : Nat} (hc : c.toNat ≤ 2)
    (ha : a = if c = 0 ∨ c = 2 then min (256 * v1.toNat + v0.toNat) 4096 else s.sound.masterA)
    (hb : b = if c = 1 ∨ c = 2 then min (256 * v1.toNat + v0.toNat) 4096 else s.sound.masterB) :
    handleMasterVolume [c, v1, v0] s = doneOr (decide (4096 < 256 * v1.toNat + v0.toNat))
      (be2 a ++ be2 b ++ be2 s.sound.saturationA ++ be2 s.sound.saturationB ++ be2 s.sound.resyncs)
      { s with sound := { s.sound with masterA := a, masterB := b } } := by
  obtain ⟨r, named, feedsA, feedsB⟩ := Route.ofCode_channels hc
  have written : setVolume r (min (256 * v1.toNat + v0.toNat) 4096) s.sound = { s.sound with masterA := a, masterB := b } := by
    simp only [setVolume, feedsA, feedsB, ← ha, ← hb]
  simp only [handleMasterVolume, named, beNat_two, written]
  rfl

theorem handleMasterVolume_outside (hc : 2 < c.toNat) : handleMasterVolume [c, v1, v0] s = ⟨.argument, [], s⟩ := by
  simp only [handleMasterVolume, Route.ofCode_outside hc]
  rfl

theorem handleMasterVolume_length {args : List Byte} (h0 : args.length ≠ 0) (h3 : args.length ≠ 3) :
    handleMasterVolume args s = ⟨.argument, [], s⟩ := by
  unfold handleMasterVolume
  split
  · exact absurd rfl h0
  · exact absurd rfl h3
  · rfl

theorem effectiveGain_announce (snd : Sound) (v : Voice) : effectiveGain snd announceVoice v = v.gain := rfl

theorem effectiveGain_ducked {i : Fin 6} (h : i.val ≤ 4) (snd : Sound) (v : Voice) :
    effectiveGain snd i v = v.gain * snd.duckLevel / 4096 := if_neg (Fin.ne_of_lt (Nat.lt_succ_of_le h))

/-- Settles O45, by the volumes that a channel's byte sets and the two cases of the effective gain. -/
theorem volumesAndEffectiveGain : Obligations.VolumesAndEffectiveGain := by
  refine ⟨?_, ?_, ?_, ?_⟩
  · exact fun f rest s h hargs => requestRow_answers h hargs rfl
  · rintro f rest s c v1 v0 v a b h hargs rfl ha hb
    exact ⟨fun hc => requestRow_doneOr h hargs (handleMasterVolume_sets (s := taken s f rest) hc ha hb) decide_eq_true_iff,
      fun hc => requestRow_answers h hargs (handleMasterVolume_outside hc)⟩
  · exact fun f rest s h h0 h3 => requestRow_answers h rfl (handleMasterVolume_length h0 h3)
  · intro snd i v full
    refine ⟨fun hi => effectiveGain_ducked hi snd v, fun hi => ?_, ?_⟩
    · obtain rfl : i = announceVoice := Fin.ext hi
      exact effectiveGain_announce snd v
    · rcases Nat.lt_or_ge 4 i.val with five | low
      · obtain rfl : i = announceVoice := Fin.ext (Nat.le_antisymm (Nat.le_of_lt_succ i.isLt) five)
        exact (effectiveGain_announce snd v).le
      · rw [effectiveGain_ducked low]
        exact Nat.div_le_of_le_mul (Nat.mul_comm 4096 _ ▸ Nat.mul_le_mul_left _ full)

end Sys2Proof.Machine
end

section
/-! PROOF. O27: TERMINAL_SAMPLE (R142, R143, R147). -/

namespace Sys2Proof.Machine

variable {s : State} {levels : BitVec 40} {i : Fin 27} {t : Fin 40} {k : Fin 8}

/-! ## The conditioned level -/

theorem conditioned_none {p : Params} (sampled : BitVec 40) (h : p.sources[i] = none) : conditioned p sampled i = false := by
  unfold conditioned
  rw [h]

theorem conditioned_some {p : Params} (sampled : BitVec 40) (h : p.sources[i] = some t) : conditioned p sampled i =
    if p.activeHigh[i] then sampled.getLsbD t.val else !sampled.getLsbD t.val := by
  unfold conditioned
  rw [h]
  cases p.activeHigh[i] <;> simp

/-! ## The debounce -/

theorem debounceStep_count (interval count : Nat) (filtered level : Bool) :
    (debounceStep interval count filtered level).1 = if level = filtered then 0 else min (count + 1) 50 := by
  unfold debounceStep
  split <;> rfl

/-- A change falls due at a sample that differs, once the count reaches the interval (R143). -/
theorem debounceStep_due (interval count : Nat) (filtered level : Bool) :
    (debounceStep interval count filtered level).2 = true ↔ level ≠ filtered ∧ interval ≤ count + 1 := by
  unfold debounceStep
  split
  · next h => simp [h]
  · next h => simp [h]

theorem sampleTerminals_debounce : (sampleTerminals s levels).debounce[i] = (debounceAt s levels i).1 := by
  simp [sampleTerminals]

theorem sampleTerminals_changeDue : (sampleTerminals s levels).changeDue[i] = (debounceAt s levels i).2 := by
  simp [sampleTerminals]

/-! ## The loopback check -/

/-- A release terminal mismatches where its level differs from the drive of its seat (R147). -/
theorem mismatches_release (h : s.params.outputs[t] = .release k) :
    mismatches s levels t = true ↔ levels.getLsbD t.val ≠ s.restraint.energised.contains k := by
  unfold mismatches
  rw [h]
  exact bne_iff_ne

theorem mismatches_unchecked (h : ∀ k, s.params.outputs[t] ≠ .release k) : mismatches s levels t = false := by
  unfold mismatches
  split
  · next k hk => exact absurd hk (h k)
  all_goals rfl

theorem sampleTerminals_mismatch : (sampleTerminals s levels).mismatch[t] = mismatchStep s levels t := by
  simp [sampleTerminals]

theorem sampleTerminals_mismatchDue : (sampleTerminals s levels).mismatchDue[t] = true ↔
    s.terminals.mismatchDue[t] = true ∨ (s.terminals.mismatch[t] = 20 ∧ mismatches s levels t = true) := by
  simp [sampleTerminals]

theorem execTerminalSample_complete (h : s.startUp.phase = .complete) :
    exec (.terminalSample levels) s = .next (s.setTerminals (sampleTerminals s levels)) := by
  have counted : countStrapSample (s.setTerminals (sampleTerminals s levels)) = s.setTerminals (sampleTerminals s levels) := by
    unfold countStrapSample
    rw [State.setTerminals_startUp, h]
  exact congrArg Host.Outcome.next counted

/-- Settles O27: each input by its debounce step, each terminal by its output selection. -/
theorem terminalSampleCounts : Obligations.TerminalSampleCounts := by
  intro levels s complete
  refine ⟨sampleTerminals s levels, execTerminalSample_complete complete, rfl, rfl, fun i level hl => ?_, fun t k ht => ?_,
    fun t ht => ?_⟩
  · have hl : level = conditioned s.params levels i := by
      split at hl
      · next h => rw [hl, conditioned_none levels h]
      · next h => rw [hl, conditioned_some levels h]
    rw [sampleTerminals_debounce, sampleTerminals_changeDue, hl]
    exact ⟨debounceStep_count .., debounceStep_due ..⟩
  · rw [sampleTerminals_mismatchDue, sampleTerminals_mismatch, mismatchStep]
    simp only [mismatches_release ht, ne_eq, ite_not, and_self]
  · rw [sampleTerminals_mismatch, mismatchStep, mismatches_unchecked ht]
    rfl

end Sys2Proof.Machine
end

section
/-! PROOF. O48: GENERATOR_CLOCK, and a whole cycle of a density generator (R151). -/

namespace Sys2Proof.Machine

variable {p : Nat} {g : Density}

/-- One clock with and without a carry (R151). -/
theorem Density.clock_eq (p : Nat) (g : Density) : g.clock p =
    if 2 ^ p ≤ g.accumulator + g.code / 2 ^ (16 - p) then
      { g with accumulator := g.accumulator + g.code / 2 ^ (16 - p) - 2 ^ p, bit := true }
    else { g with accumulator := g.accumulator + g.code / 2 ^ (16 - p), bit := false } := rfl

theorem Density.clock_code (p : Nat) (g : Density) : (g.clock p).code = g.code := by
  rw [Density.clock_eq]
  split <;> rfl

/-- The output bit is the carry of the addition: nothing of the accumulator and the code is lost (R151). -/
theorem Density.clock_carry (p : Nat) (g : Density) :
    (g.clock p).accumulator + 2 ^ p * (g.clock p).bit.toNat = g.accumulator + g.code / 2 ^ (16 - p) := by
  rw [Density.clock_eq]
  split
  · next carry => simpa using Nat.sub_add_cancel carry
  · simp

/-- Two summands below 2 to the precision leave a sum below it once the carry is out. -/
theorem Density.clock_accumulator_lt (hc : g.code / 2 ^ (16 - p) < 2 ^ p) (ha : g.accumulator < 2 ^ p) :
    (g.clock p).accumulator < 2 ^ p := by
  rw [Density.clock_eq]
  split
  · exact Nat.sub_lt_left_of_lt_add ‹_› (Nat.add_lt_add ha hc)
  · exact Nat.not_le.1 ‹_›

/-- A precision of at most 16 takes its top bits from a 16-bit code. -/
theorem topBits_lt (hp : p ≤ 16) {code : Nat} (hcode : code < 65536) : code / 2 ^ (16 - p) < 2 ^ p := by
  refine Nat.div_lt_of_lt_mul ?_
  rw [← pow_add, Nat.sub_add_cancel hp]
  exact hcode

/-! ## Runs of clocks -/

theorem Density.clocks_code (p : Nat) (g : Density) (n : Nat) : ((Density.clock p)^[n] g).code = g.code := by
  induction n with
  | zero => rfl
  | succ n ih => rw [Function.iterate_succ_apply', Density.clock_code, ih]

theorem Density.clocks_accumulator_lt (hc : g.code / 2 ^ (16 - p) < 2 ^ p) (ha : g.accumulator < 2 ^ p) (n : Nat) :
    ((Density.clock p)^[n] g).accumulator < 2 ^ p := by
  induction n with
  | zero => exact ha
  | succ n ih =>
    rw [Function.iterate_succ_apply']
    exact Density.clock_accumulator_lt (by rw [Density.clocks_code]; exact hc) ih

/-- How many of the first `n` clocks give an output of 1. -/
def Density.ones (p : Nat) (g : Density) (n : Nat) : Nat :=
  ((List.range n).filter fun m => ((Density.clock p)^[m + 1] g).bit).length

theorem Density.ones_succ (p : Nat) (g : Density) (n : Nat) :
    g.ones p (n + 1) = g.ones p n + ((Density.clock p)^[n + 1] g).bit.toNat := by
  unfold Density.ones
  rw [List.range_succ, List.filter_append, List.length_append]
  cases h : ((Density.clock p)^[n + 1] g).bit <;> simp only [List.filter_cons, h] <;> rfl

/-- `n` clocks add `n` times the top bits: what the accumulator does not hold has gone out as carries. -/
theorem Density.clocks_sum (p : Nat) (g : Density) (n : Nat) :
    ((Density.clock p)^[n] g).accumulator + 2 ^ p * g.ones p n = g.accumulator + n * (g.code / 2 ^ (16 - p)) := by
  induction n with
  | zero => simp [Density.ones]
  | succ n ih =>
    have carry := Density.clock_carry p ((Density.clock p)^[n] g)
    rw [Density.clocks_code] at carry
    rw [Density.ones_succ, Nat.mul_add, Nat.succ_mul, Function.iterate_succ_apply']
    omega

/-- Over a whole cycle the accumulator comes back, and the carries are the top bits of the code (R151). -/
theorem Density.cycle (hc : g.code / 2 ^ (16 - p) < 2 ^ p) (ha : g.accumulator < 2 ^ p) :
    ((Density.clock p)^[2 ^ p] g).accumulator = g.accumulator ∧ g.ones p (2 ^ p) = g.code / 2 ^ (16 - p) := by
  have sum := Density.clocks_sum p g (2 ^ p)
  have back : ((Density.clock p)^[2 ^ p] g).accumulator = g.accumulator := by
    have hmod := congrArg (· % 2 ^ p) sum
    simpa [Nat.mod_eq_of_lt (Density.clocks_accumulator_lt hc ha _), Nat.mod_eq_of_lt ha] using hmod
  refine ⟨back, Nat.eq_of_mul_eq_mul_left (Nat.two_pow_pos p) ?_⟩
  rw [back] at sum
  exact Nat.add_left_cancel sum

/-- Settles O48: one clock by its carry, and a whole cycle by the sum of its clocks. -/
theorem generatorClocksKeepDensity : Obligations.GeneratorClocksKeepDensity := by
  refine ⟨?_, ?_, ?_⟩
  · rintro g s p c running rfl rfl
    exact congrArg Host.Outcome.next (if_pos running)
  · intro g s stopped
    exact congrArg Host.Outcome.next (if_neg (by rw [stopped]; exact nofun))
  · intro p g _ hp hcode ha
    have hc := topBits_lt hp hcode
    obtain ⟨back, ones⟩ := Density.cycle hc ha
    exact ⟨Density.clocks_accumulator_lt hc ha, back, ones⟩

end Sys2Proof.Machine
end

section
/-! SUPPORT. A seat outside a release, and the READY evaluation while a seat lacks readiness: what permit, faults and mode changes
leave of the Restraint Monitor (R7, R79). -/

namespace Sys2Proof.Machine

variable {s t : State} {i : Fin 8}

/-! ## A seat outside a release -/

/-- Whatever becomes of a release, a seat that has no part in it keeps its record and takes none, and the summary stays set. -/
structure SparesSeat (i : Fin 8) (q r : Restraint) : Prop where
  seat : i ∉ q.queue → i ∉ q.energised → r.seats[i] = q.seats[i] ∧ i ∉ r.queue ∧ i ∉ r.energised
  summary : q.summary = true → r.summary = true

theorem SparesSeat.refl (i : Fin 8) (r : Restraint) : SparesSeat i r r := ⟨fun hq he => ⟨rfl, hq, he⟩, id⟩

theorem SparesSeat.trans {a b c : Restraint} (h : SparesSeat i a b) (k : SparesSeat i b c) : SparesSeat i a c where
  seat hq he :=
    have ⟨hb, hbq, hbe⟩ := h.seat hq he
    have ⟨hc, hcq, hce⟩ := k.seat hbq hbe
    ⟨hc.trans hb, hcq, hce⟩
  summary := k.summary ∘ h.summary

theorem SparesSeat.of_eq {q r : Restraint} (h : r = q) : SparesSeat i q r := h ▸ .refl i r

theorem SparesSeat.of_cases (h : t.restraint = s.restraint ∨ t.restraint = (endRelease s).restraint) :
    SparesSeat i s.restraint t.restraint := by
  rcases h with h | h
  · exact .of_eq h
  · have ended := ReleaseEnded.of_restraint h
    exact ⟨fun hq he => ⟨ended.others i hq he, by rw [ended.queue]; exact List.not_mem_nil,
      by rw [ended.energised]; exact List.not_mem_nil⟩, fun _ => ended.summary⟩

theorem refreshPermit_spares (i : Fin 8) (s : State) : SparesSeat i s.restraint (refreshPermit s).restraint :=
  .of_cases (refreshPermit_restraint_cases s)

theorem releaseAtModeChange_spares (i : Fin 8) (old : Mode) (s : State) :
    SparesSeat i s.restraint (releaseAtModeChange old s).restraint := by
  unfold releaseAtModeChange
  split
  · exact .of_cases (.inr rfl)
  · exact .of_cases (judgeRelease_restraint_cases s)

theorem enterMode_spares (i : Fin 8) (new : Mode) (held : HeldFrom) (s : State) :
    SparesSeat i s.restraint (enterMode new held s).restraint := by
  have formed := refreshPermit_spares i (tellBlocks s.mc.mode new (modMc s (ModeController.enter new held)))
  rw [tellBlocks_entered] at formed
  have judged := releaseAtModeChange_spares i s.mc.mode
    (formCeilings (refreshPermit (tellBlocks s.mc.mode new (modMc s (ModeController.enter new held)))))
  rw [formCeilings_restraint] at judged
  exact formed.trans (judged.trans (.of_eq (dispatchScene_restraint (s := releaseAtModeChange ..) _)))

theorem raiseFault_spares (i : Fin 8) (k : FaultKind) (sub : SubCause) (d : Nat) (s : State) :
    SparesSeat i s.restraint (raiseFault k sub d s).restraint := by
  unfold raiseFault
  dsimp only
  split
  · exact .refl ..
  · exact .refl ..
  all_goals exact enterMode_spares i _ _ (recordFault k sub d s)

theorem rcCheck_spares (i : Fin 8) (s : State) : SparesSeat i s.restraint (rcCheck s).restraint := by
  unfold rcCheck
  split
  · exact raiseFault_spares i _ _ _ (modWli s fun w => { w with rcReported := true })
  · exact .refl ..

theorem takeFault_spares (i : Fin 8) (k : FaultKind) (sub : SubCause) (d : Nat) (s : State) :
    SparesSeat i s.restraint (takeFault k sub d s).restraint := by
  have raised := raiseFault_spares i k sub d s
  unfold takeFault
  dsimp only
  split
  · exact raised
  · exact raised.trans (rcCheck_spares ..)

theorem changeMode_spares (i : Fin 8) (new : Mode) (held : HeldFrom) (s : State) :
    SparesSeat i s.restraint (changeMode new held s).restraint :=
  (enterMode_spares i new held s).trans (rcCheck_spares ..)

theorem evalReady_spares (i : Fin 8) (s : State) : SparesSeat i s.restraint (evalReady s).restraint := by
  unfold evalReady
  split
  · split
    · exact changeMode_spares ..
    · exact .refl ..
  · split
    · exact .refl ..
    · exact changeMode_spares ..
  all_goals exact .refl ..

theorem seatMoved_spares (i j : Fin 8) (old : SeatState) (s : State) :
    SparesSeat i s.restraint (seatMoved j old s).restraint := by
  have formed := refreshPermit_spares i s
  unfold seatMoved
  dsimp only
  split
  · exact .refl ..
  · split
    · exact formed.trans ((takeFault_spares ..).trans (evalReady_spares ..))
    · exact formed.trans (evalReady_spares ..)

/-- Energising takes seats from the queue alone (R74). -/
theorem energiseOne_spares (i : Fin 8) (pulse : Nat) (r : Restraint) : SparesSeat i r (r.energiseOne pulse) := by
  cases hq : r.queue with
  | nil => exact .of_eq (energiseOne_nil pulse hq)
  | cons j rest =>
    by_cases full : r.energised.length < 2
    · obtain ⟨queue, energised, seats⟩ := energiseOne_cons pulse hq full
      have summary : (r.energiseOne pulse).summary = r.summary := by
        simp [Restraint.energiseOne, hq, full, Restraint.modSeat]
      refine ⟨fun hi he => ?_, fun h => summary.trans h⟩
      obtain ⟨hij, hrest⟩ : i ≠ j ∧ i ∉ rest := by simpa [hq] using hi
      rw [seats, if_neg hij, queue, energised, mem_insertSeat]
      exact ⟨rfl, hrest, not_or.2 ⟨hij, he⟩⟩
    · exact .of_eq (energiseOne_full pulse (Nat.not_lt.1 full))

theorem fill_spares (i : Fin 8) (pulse : Nat) (r : Restraint) : SparesSeat i r (r.fill pulse) :=
  (energiseOne_spares i pulse r).trans (energiseOne_spares i pulse _)

/-! ## The READY evaluation while a seat lacks readiness -/

theorem readyConditions_unready (h : ¬RestReady s) : readyConditions s = false := by
  rw [← Bool.not_eq_true, readyConditions_iff]
  exact fun met => h (readyMet_iff.1 met).1

theorem evalReady_unready_ready (hm : s.mc.mode = .ready) (h : ¬RestReady s) : evalReady s = changeMode .load .none s := by
  simp [evalReady, hm, readyConditions_unready h]

theorem evalReady_unready (hm : s.mc.mode ≠ .ready) (h : ¬RestReady s) : evalReady s = s := by
  cases mode : s.mc.mode <;> simp_all [evalReady, readyConditions_unready h]

/-- Judged once, the READY conditions that fail are not judged otherwise the second time. -/
theorem evalReady_again (h : ¬RestReady s) : evalReady (evalReady s) = evalReady s := by
  by_cases hm : s.mc.mode = .ready
  · rw [evalReady_unready_ready hm h]
    have mode : (enterMode .load .none s).mc.mode = .load := enterMode_mode ..
    have unready : ¬RestReady (enterMode .load .none s) := fun hr => h (restReady_of_enterMode hr)
    unfold changeMode rcCheck
    split
    · refine evalReady_halted (.inl ?_)
      rw [raiseFault_mc, if_neg (by simp [ModeController.enter])]
      rfl
    · exact evalReady_unready (by rw [mode]; exact nofun) unready
  · rw [evalReady_unready hm h, evalReady_unready hm h]

/-! ## A release that goes on -/

/-- The release condition holds, and a seat without readiness keeps the permit at STOP or EMERGENCY (R79, R155). -/
structure ReleaseStands (s : State) : Prop where
  allowed : ReleaseAllowed s
  unready : ¬SeatsReady s

theorem ReleaseStands.restReady (h : ReleaseStands s) : ¬RestReady s := fun hr => h.unready hr.1

theorem ReleaseStands.still (h : ReleaseStands s) : s.permit.level.still = true := (still_iff _).2 h.allowed.permit

theorem ReleaseStands.of_blocks (h : ReleaseStands s) (hm : t.mc = s.mc) (hr : t.restraint = s.restraint)
    (hl : t.permit.level.still = true) (hs : t.permit.stationary = s.permit.stationary) : ReleaseStands t where
  allowed := releaseCondition_iff.1
    ((releaseCondition_congr hm (hl.trans h.still.symm) hs).trans (releaseCondition_iff.2 h.allowed))
  unready := by simpa only [SeatsReady, seatState, hr] using h.unready

theorem permitLevelOf_unready (h : ¬SeatsReady s) : (permitLevelOf s).still = true := by
  rw [still_iff]
  by_cases he : s.mc.mode = .halt ∨ s.terminals.filtered[(25 : Fin 27)] = true
  · exact .inr (permitLevelOf_formed.emergency he)
  · obtain ⟨hh, hstop⟩ := not_or.1 he
    exact .inl (permitLevelOf_formed.stop hh (Bool.eq_false_iff.2 hstop) (.inr h))

theorem refreshPermit_still (h : s.permit.level.still = true) (hn : (permitLevelOf s).still = true) :
    (refreshPermit s).permit.level.still = true := by
  unfold refreshPermit
  dsimp only
  split
  · exact h
  · rw [judgeRelease_permit]
    exact hn

theorem refreshPermit_stands (h : ReleaseStands s) :
    (refreshPermit s).restraint = s.restraint ∧ ReleaseStands (refreshPermit s) := by
  have formed := permitLevelOf_unready h.unready
  have goes : (refreshPermit s).restraint = s.restraint := refreshPermit_restraint_goes fun _ =>
    releaseCondition_iff.2 (h.of_blocks (t := s.setPermit { s.permit with level := permitLevelOf s }) rfl rfl formed rfl).allowed
  exact ⟨goes, h.of_blocks (refreshPermit_mc ..) goes (refreshPermit_still h.still formed) (refreshPermit_formed s).stationary⟩

/-- A release in READY goes on in LOAD: both ask for a stationary vehicle (R79). -/
theorem enterMode_load_stands (hm : s.mc.mode = .ready) (h : ReleaseStands s) :
    (enterMode .load .none s).restraint = s.restraint := by
  obtain ⟨v, hv⟩ : ∃ v, v = tellBlocks s.mc.mode .load (modMc s (ModeController.enter .load .none)) := ⟨_, rfl⟩
  have rest : v.restraint = s.restraint := by rw [hv, tellBlocks_entered]
  have permit : v.permit = s.permit := by rw [hv, tellBlocks_permit]; rfl
  have mode : v.mc.mode = .load := by rw [hv, tellBlocks_mc]; rfl
  have told : ReleaseStands v :=
    { allowed :=
        { permit := by rw [permit]; exact h.allowed.permit
          ground := fun _ => by rw [permit]; exact h.allowed.ground (.inr (.inl hm))
          unload := fun hu => by simp [mode] at hu
          hold := fun hu => by simp [mode] at hu
          run := by simp [mode] }
      unready := by simpa only [SeatsReady, seatState, rest] using h.unready }
  obtain ⟨goes, stands⟩ := refreshPermit_stands told
  have ceilings : ReleaseStands (formCeilings (refreshPermit v)) :=
    stands.of_blocks (formCeilings_mc ..) (formCeilings_restraint ..) stands.still (formCeilings_formed _).stationary
  rw [enterMode_undispatched (by simp), ← hv]
  unfold releaseAtModeChange
  rw [if_neg (by simp [hm]), judgeRelease_allowed ceilings.allowed, formCeilings_restraint, goes, rest]

theorem evalReady_stands (hc : s.startUp.phase = .complete) (h : ReleaseStands s) :
    (evalReady s).restraint = s.restraint := by
  by_cases hm : s.mc.mode = .ready
  · have entered := enterMode_load_stands hm h
    have stationary : (enterMode .load .none s).permit.stationary = true :=
      (enterMode_formed ..).stationary.trans (h.allowed.ground (.inr (.inl hm)))
    rw [evalReady_unready_ready hm h.restReady]
    exact (rcCheck_goes (by rw [enterMode_startUp]; exact hc) fun _ => stationary).trans entered
  · rw [evalReady_unready hm h.restReady]

/-! ## A seat's change of state, judged -/

/-- A change that is no RESTRAINT_OPEN forms the permit and has the READY conditions judged (R67). -/
theorem seatMoved_judged {old : SeatState} (hn : seatState s i ≠ old)
    (hopen : opensRestraint s old (seatState s i) = false) : seatMoved i old s = evalReady (refreshPermit s) := by
  unfold seatMoved
  dsimp only
  rw [if_neg hn, hopen]
  rfl

/-- No change of a seat is a RESTRAINT_OPEN in LOAD and READY (R82). -/
theorem opensRestraint_boarding {old new : SeatState} (hm : s.mc.mode = .load ∨ s.mc.mode = .ready) :
    opensRestraint s old new = false := by
  rcases hm with hm | hm <;> simp [opensRestraint, watched, hm]

theorem evalReady_refreshed (hm : s.mc.mode = .load ∨ s.mc.mode = .ready) (hc : RcHeard s) :
    ReadyDecided (evalReady (refreshPermit s)) :=
  evalReady_decided (by simpa using hm) (by simpa [RcHeard] using hc)

end Sys2Proof.Machine
end

section
/-! PROOF. O28: FILTERED_CHANGE and its consumers (R143, R144): the Terminal Matrix, then a seat in evaluation (R64, R68, R82), then
a bar that rises (R76). -/

namespace Sys2Proof.Machine

variable {s t u : State} {i : Fin 27} {k : Fin 8} {j : Fin 3} {level : Bool} {before : Picture} {old : SeatState}

/-! ## The Terminal Matrix -/

theorem setFiltered_self (i : Fin 27) (level : Bool) (s : State) :
    (setFiltered i level s).terminals.filtered[i] = level ∧ (setFiltered i level s).terminals.debounce[i] = 0 ∧
      (setFiltered i level s).terminals.changeDue[i] = false := by
  simp [setFiltered]

theorem setFiltered_ne {m : Fin 27} (h : m ≠ i) :
    (setFiltered i level s).terminals.filtered[m] = s.terminals.filtered[m] ∧
      (setFiltered i level s).terminals.debounce[m] = s.terminals.debounce[m] := by
  have hv : i.val ≠ m.val := fun e => h (Fin.ext e.symm)
  simp [setFiltered, hv]

theorem execFilteredChange_due (h : s.terminals.changeDue[i] = true) :
    exec (.filteredChange i) s = .next (changeInput i (!s.terminals.filtered[i]) s) :=
  congrArg Host.Outcome.next (if_pos h)

theorem execFilteredChange_idle (h : s.terminals.changeDue[i] = false) : exec (.filteredChange i) s = .next s :=
  congrArg Host.Outcome.next (if_neg (by rw [h]; exact nofun))

/-! ## The consumer of an input (R141) -/

theorem seatOfInput_seat (h : i.val = 3 * k.val + j.val) : seatOfInput i = some (k, j) := by
  have hk : i.val / 3 = k.val := by omega
  have hj : i.val % 3 = j.val := by omega
  simp [seatOfInput, hk, hj, show i.val < 24 by omega]

theorem changeInput_seat (h : i.val = 3 * k.val + j.val) (level : Bool) (s : State) :
    changeInput i level s = seatInputChanged k j level (picture s k) (setFiltered i level s) := by
  simp only [changeInput, seatOfInput_seat h]

theorem changeInput_ampReady (level : Bool) (s : State) :
    changeInput 24 level s = ampReadyChanged level (setFiltered 24 level s) := rfl

theorem changeInput_onboardStop (level : Bool) (s : State) :
    changeInput 25 level s = onboardStopChanged level (setFiltered 25 level s) := rfl

theorem changeInput_strap (level : Bool) (s : State) : changeInput 26 level s = setFiltered 26 level s := rfl

/-! ## What a filtered change leaves alone -/

theorem changeInput_ground (i : Fin 27) (level : Bool) (s : State) :
    SameGround (setFiltered i level s) (changeInput i level s) := by
  unfold changeInput
  dsimp only
  split
  · exact (seatInputChanged_keeps ..).toSameGround
  · exact (Keeps.ite (ampReadyChanged_keeps ..) (.ite (onboardStopChanged_keeps ..) (.refl _))).toSameGround

/-- The seats alone have moved, and the Terminal Matrix that reports them. -/
def OnlySeats (s t : State) : Prop := t = (s.setTerminals t.terminals).setRestraint t.restraint

theorem OnlySeats.trans (h : OnlySeats s t) (m : OnlySeats t u) : OnlySeats s u :=
  Eq.trans m (by rw [show t = _ from h]; rfl)

theorem OnlySeats.mc (h : OnlySeats s t) : t.mc = s.mc := by rw [show t = _ from h]; rfl
theorem OnlySeats.permit (h : OnlySeats s t) : t.permit = s.permit := by rw [show t = _ from h]; rfl
theorem OnlySeats.tracker (h : OnlySeats s t) : t.tracker = s.tracker := by rw [show t = _ from h]; rfl
theorem OnlySeats.clock (h : OnlySeats s t) : t.clock = s.clock := by rw [show t = _ from h]; rfl
theorem OnlySeats.wli (h : OnlySeats s t) : t.wli = s.wli := by rw [show t = _ from h]; rfl
theorem OnlySeats.startUp (h : OnlySeats s t) : t.startUp = s.startUp := by rw [show t = _ from h]; rfl
theorem OnlySeats.params (h : OnlySeats s t) : t.params = s.params := by rw [show t = _ from h]; rfl

theorem OnlySeats.rcHeard (h : OnlySeats s t) (hc : RcHeard s) : RcHeard t := by rwa [RcHeard, h.wli]

theorem OnlySeats.watched (h : OnlySeats s t) : RestraintsWatched t ↔ RestraintsWatched s := by
  simp only [RestraintsWatched, h.mc]

theorem OnlySeats.allowed (h : OnlySeats s t) (ha : ReleaseAllowed s) : ReleaseAllowed t := by
  rw [← releaseCondition_iff] at ha ⊢
  exact (releaseCondition_congr h.mc (by rw [h.permit]) (by rw [h.permit])).trans ha

theorem setFiltered_only (i : Fin 27) (level : Bool) (s : State) : OnlySeats s (setFiltered i level s) := rfl

theorem latchChange_only (k : Fin 8) (j : Fin 3) (level : Bool) (s : State) : OnlySeats s (latchChange k j level s) := by
  unfold latchChange
  split <;> rfl

theorem barRose_only (k : Fin 8) (s : State) : OnlySeats s (barRose k s) := rfl

theorem seatMoved_tracker (k : Fin 8) (old : SeatState) (s : State) : (seatMoved k old s).tracker = s.tracker := by
  unfold seatMoved
  dsimp only
  split
  · rfl
  · rw [evalReady_tracker]
    split
    · rw [takeFault_tracker, refreshPermit_tracker]
    · exact refreshPermit_tracker ..

theorem seatInputChanged_tracker (k : Fin 8) (j : Fin 3) (level : Bool) (before : Picture) (s : State) :
    (seatInputChanged k j level before s).tracker = s.tracker := by
  have latched := (latchChange_only k j level s).tracker
  unfold seatInputChanged
  dsimp only
  split
  · exact latched
  · exact latched
  · split
    · rw [evalReady_tracker, seatMoved_tracker, (barRose_only ..).tracker, latched]
    · exact latched
  all_goals exact (seatMoved_tracker ..).trans latched

theorem changeInput_tracker (i : Fin 27) (level : Bool) (s : State) : (changeInput i level s).tracker = s.tracker := by
  unfold changeInput ampReadyChanged onboardStopChanged
  dsimp only
  split
  · exact seatInputChanged_tracker ..
  · split_ifs
    · rfl
    · rfl
    · rw [takeFault_tracker, refreshPermit_tracker]
      rfl
    · exact refreshPermit_tracker ..
    · rfl

/-! ## AMP_READY and ONBOARD_STOP (R60, R164) -/

theorem ampReadyChanged_steering (level : Bool) (s : State) :
    (ampReadyChanged level s).steering = if level then { s.steering with ampWait := 0 } else s.steering := by
  unfold ampReadyChanged
  split <;> rfl

theorem onboardStopChanged_halts (h : s.mc.mode ≠ .offline) :
    (onboardStopChanged true s).mc.mode = .halt ∧ .onboardStop ∈ (onboardStopChanged true s).permit.active := by
  have taken := takeFault_taken .onboardStop 0 (s := refreshPermit s) (by rwa [refreshPermit_mc])
  exact ⟨taken.halt, taken.active⟩

/-! ## The change latches (R68) -/

theorem EdgeSense.matches_iff (e : EdgeSense) (level : Bool) : e.matches level = true ↔
    e = .both ∨ (e = .rising ∧ level = true) ∨ (e = .falling ∧ level = false) := by
  cases e <;> simp [EdgeSense.matches]

theorem modSeat_seat (r : Restraint) (k : Fin 8) (f : Seat → Seat) : (r.modSeat k f).seats[k] = f r.seats[k] := by
  simp [Restraint.modSeat]

theorem latch_seat (r : Restraint) (k : Fin 8) (f : Latches → Latches) :
    (r.latch k f).seats[k] = { r.seats[k] with latches := f (r.seats[k]).latches } :=
  modSeat_seat r k fun seat => { seat with latches := f seat.latches }

theorem latchChange_seatState (k : Fin 8) (j : Fin 3) (level : Bool) (s : State) :
    seatState (latchChange k j level s) k = seatState s k := by
  unfold latchChange
  split
  · have seat := latch_seat s.restraint k (setChangeLatch j)
    exact (congrArg Seat.state seat :)
  · rfl

theorem latchChange_release (k : Fin 8) (j : Fin 3) (level : Bool) (s : State) :
    (latchChange k j level s).restraint.queue = s.restraint.queue ∧
      (latchChange k j level s).restraint.energised = s.restraint.energised := by
  unfold latchChange
  split <;> exact ⟨rfl, rfl⟩

theorem latchChange_terminals (k : Fin 8) (j : Fin 3) (level : Bool) (s : State) :
    (latchChange k j level s).terminals = s.terminals := by
  unfold latchChange
  split <;> rfl

theorem latchChange_matched (he : seatState s k ≠ .disabled) (hm : (s.params.edgeSense[j]).matches level = true) :
    (latchChange k j level s).restraint = s.restraint.latch k (setChangeLatch j) := by
  unfold latchChange
  rw [if_pos (by simpa [he] using hm)]
  rfl

theorem picture_congr (h : t.terminals = s.terminals) : picture t k = picture s k := by simp only [picture, h]

/-! ## A seat in evaluation (R64) -/

/-- The seat follows its picture, with its change latch set by the edge sense (R64, R68). -/
def followChange (k : Fin 8) (j : Fin 3) (level : Bool) (before : Picture) (s : State) : State :=
  modRestraint (latchChange k j level s) fun r => r.modSeat k (Seat.follow before (picture s k))

theorem followChange_only : OnlySeats s (followChange k j level before s) := (latchChange_only k j level s).trans rfl

theorem followChange_seat : (followChange k j level before s).restraint.seats[k] =
    Seat.follow before (picture s k) (latchChange k j level s).restraint.seats[k] := modSeat_seat ..

theorem followChange_release : (followChange k j level before s).restraint.queue = s.restraint.queue ∧
    (followChange k j level before s).restraint.energised = s.restraint.energised := latchChange_release ..

/-- The state that R64 gives, DISAGREE holding until the conflict ends (R66). -/
theorem followChange_seatState : seatState (followChange k j level before s) k =
    if seatState s k = .disagree ∧ (picture s k).conflict = true then .disagree else (picture s k).seatState := by
  rw [← latchChange_seatState k j level s, seatState, followChange_seat]
  rfl

theorem Picture.seatState_inEvaluation (p : Picture) : p.seatState.inEvaluation = true := by
  unfold Picture.seatState
  split_ifs <;> rfl

theorem followChange_inEvaluation : (seatState (followChange k j level before s) k).inEvaluation = true := by
  rw [followChange_seatState]
  split
  · rfl
  · exact Picture.seatState_inEvaluation _

theorem followChange_matched (he : seatState s k ≠ .disabled) (hm : (s.params.edgeSense[j]).matches level = true) :
    (followChange k j level before s).restraint.summary = true ∧
      ((followChange k j level before s).restraint.seats[k]).latches = setChangeLatch j (s.restraint.seats[k]).latches := by
  have latched := latchChange_matched he hm
  refine ⟨congrArg Restraint.summary latched, ?_⟩
  rw [followChange_seat, latched, latch_seat]
  rfl

theorem seatInputChanged_evaluated (h : (seatState s k).inEvaluation = true) :
    seatInputChanged k j level before s = seatMoved k (seatState s k) (followChange k j level before s) := by
  unfold seatInputChanged
  simp only [latchChange_seatState, picture_congr (latchChange_terminals k j level s)]
  split
  · next e => simp [e, SeatState.inEvaluation] at h
  · next e => simp [e, SeatState.inEvaluation] at h
  · next e => simp [e, SeatState.inEvaluation] at h
  all_goals rfl

/-! ## RESTRAINT_OPEN, or none (R82) -/

theorem seatMoved_taken (h : opensRestraint s old (seatState s k) = true) :
    seatMoved k old s = takeFault .restraintOpen .none (k.val + 1) (refreshPermit s) ∧ s.mc.mode ≠ .offline := by
  have hn : seatState s k ≠ old := by
    rintro e
    simp [opensRestraint, e] at h
  have hm : s.mc.mode ≠ .offline := by
    intro e
    simp [opensRestraint, watched, e] at h
  refine ⟨?_, hm⟩
  unfold seatMoved
  dsimp only
  rw [if_neg hn, if_pos h]
  exact evalReady_halted (.inl (by rw [takeFault_mode, refreshPermit_mc, if_neg hm]))

/-- A RESTRAINT_OPEN of a seat that has moved beside an unchanged rest of the part; the first-fault record stands. -/
theorem OnlySeats.opens (h : OnlySeats s u) (hw : RestraintsWatched s) (ho : old = .verified ∨ old = .locked)
    (hv : seatState u k ≠ .verified) (hn : seatState u k ≠ old) (he : (seatState u k).inEvaluation = true) :
    FaultTaken .restraintOpen (k.val + 1) s (seatMoved k old u) ∧
      ∀ r, s.permit.first = some r → (seatMoved k old u).permit.first = some r := by
  have hb : seatState u k ≠ .bypassed := fun e => by simp [e, SeatState.inEvaluation] at he
  have hd : seatState u k ≠ .disabled := fun e => by simp [e, SeatState.inEvaluation] at he
  have hopen : opensRestraint u old (seatState u k) = true := by
    rcases ho with rfl | rfl <;> simp_all [opensRestraint, watched_iff.2 (h.watched.2 hw)]
  obtain ⟨taken, hm⟩ := seatMoved_taken hopen
  obtain ⟨logged, active, halt⟩ := seatMoved_opens (h.watched.2 hw) ho hv hn hb hd
  rw [h.tracker, h.clock, h.mc] at logged
  refine ⟨⟨logged, active, halt⟩, fun r hr => ?_⟩
  rw [taken, takeFault_first (by rwa [refreshPermit_mc]), (refreshPermit_formed u).first, h.permit, hr]
  rfl

theorem OnlySeats.quiet (h : OnlySeats s u) (hc : RcHeard s) (hq : ¬RestraintsWatched s ∨
    (old ≠ .verified ∧ old ≠ .locked) ∨ seatState u k = .verified ∨ seatState u k = old) :
    NoFaultTaken s (seatMoved k old u) := by
  obtain ⟨log, active, first⟩ := seatMoved_quiet (h.rcHeard hc) (by rwa [h.watched])
  rw [h.permit] at log active first
  exact ⟨log, active, first⟩

/-- In LOAD and READY a seat's change of state has the READY conditions judged (R7, R67). -/
theorem OnlySeats.decided (h : OnlySeats s u) (hn : seatState u k ≠ old) (hm : s.mc.mode = .load ∨ s.mc.mode = .ready)
    (hc : RcHeard s) : ReadyDecided (seatMoved k old u) := by
  have hm : u.mc.mode = .load ∨ u.mc.mode = .ready := by rwa [h.mc]
  rw [seatMoved_judged hn (opensRestraint_boarding hm)]
  exact evalReady_refreshed hm (h.rcHeard hc)

/-! ## A bar that rises (R76) -/

theorem seatInputChanged_releasing (h : seatState s k = .releasing) : seatInputChanged k 2 false before s =
    evalReady (seatMoved k .releasing (barRose k (latchChange k 2 false s))) := by
  unfold seatInputChanged
  simp [latchChange_seatState, h]

/-- The seat whose bar has risen, out of the queue and the energised set, before the place it leaves is filled. -/
def Restraint.barRaised (k : Fin 8) (p : Picture) (r : Restraint) : Restraint :=
  ((r.leaveRelease k).modSeat k (Seat.enterEvaluation p)).latch k fun l => { l with releaseDone := true }

theorem barRose_restraint (k : Fin 8) (s : State) :
    (barRose k s).restraint = (s.restraint.barRaised k (picture s k)).fill s.params.releasePulseTime := rfl

theorem barRaised_seat (k : Fin 8) (p : Picture) (r : Restraint) : (r.barRaised k p).seats[k] =
    { r.seats[k] with
      state := p.seatState, verifyElapsed := 0, disagreeElapsed := 0, pulseElapsed := 0
      latches := { (r.seats[k]).latches with releaseDone := true } } := by
  rw [Restraint.barRaised, latch_seat, modSeat_seat, Restraint.leaveRelease]
  simp only [modSeat_seat]
  rfl

/-- The seat after its release: its record, its places, and the summary. -/
structure BarUp (k : Fin 8) (p : Picture) (r : Restraint) : Prop where
  state : (r.seats[k]).state = p.seatState
  latched : (r.seats[k]).latches.releaseDone = true
  pulse : (r.seats[k]).pulseElapsed = 0
  queue : k ∉ r.queue
  energised : k ∉ r.energised
  summary : r.summary = true

theorem BarUp.spared {p : Picture} {q r : Restraint} (h : BarUp k p q) (m : SparesSeat k q r) : BarUp k p r := by
  obtain ⟨seat, queue, energised⟩ := m.seat h.queue h.energised
  exact ⟨seat ▸ h.state, seat ▸ h.latched, seat ▸ h.pulse, queue, energised, m.summary h.summary⟩

theorem barRose_up (k : Fin 8) (s : State) : BarUp k (picture s k) (barRose k s).restraint := by
  have seat := barRaised_seat k (picture s k) s.restraint
  have left (l : List (Fin 8)) : k ∉ l.filter (· != k) := by simp
  have raised : BarUp k (picture s k) (s.restraint.barRaised k (picture s k)) :=
    ⟨by rw [seat], by rw [seat], by rw [seat], left s.restraint.queue, left s.restraint.energised, rfl⟩
  rw [barRose_restraint]
  exact raised.spared (fill_spares ..)

/-- The head of the queue takes the place that the seat leaves (R74). -/
theorem barRose_filled (k : Fin 8) (hn : (s.restraint.queue ++ s.restraint.energised).Nodup)
    (hb : s.restraint.energised.length ≤ 2) :
    ReleaseFilled (s.restraint.queue.filter fun m => m != k) (s.restraint.energised.filter fun m => m != k)
      s.params.releasePulseTime (barRose k s).restraint := by
  have left : (s.restraint.queue.filter (· != k) ++ s.restraint.energised.filter (· != k)).Nodup := by
    rw [← List.filter_append]
    exact hn.filter _
  rw [barRose_restraint]
  exact fill_filled _ (s.restraint.barRaised k (picture s k)) left ((List.length_filter_le _ _).trans hb)

/-- A seat is RELEASING only after start-up, under the release condition (R79, R191). -/
theorem ReleaseHeld.of_releasing (h : ReleaseHeld s) (hr : seatState s k = .releasing) :
    s.startUp.phase = .complete ∧ ReleaseAllowed s := by
  have waiting := (h.releasing k).2 hr
  refine ⟨?_, h.allowed (waiting.imp List.ne_nil_of_mem List.ne_nil_of_mem)⟩
  by_contra hc
  obtain ⟨noQueue, noSet⟩ := h.startUp hc
  simp [noQueue, noSet] at waiting

/-- An open seat has the READY conditions judged to the same end twice. -/
theorem openSeat_judged (h : seatState u k = .open) :
    evalReady (seatMoved k .releasing u) = evalReady (refreshPermit u) := by
  have unready : ¬RestReady (refreshPermit u) := fun hr => by simpa [h] using (restReady_of_refreshPermit hr).1 k
  rw [seatMoved_judged (by rw [h]; exact nofun) (by simp [opensRestraint]), evalReady_again unready]

/-! ## The parts of O28 -/

/-- Any filtered change: the Terminal Matrix, and the blocks that no change reaches. -/
theorem changeInput_terminals (h : t = changeInput i (!s.terminals.filtered[i]) s) :
    t.terminals.filtered[i] = !s.terminals.filtered[i] ∧ t.terminals.debounce[i] = 0 ∧ t.terminals.changeDue[i] = false ∧
      ∀ j, j ≠ i → t.terminals.filtered[j] = s.terminals.filtered[j] ∧ t.terminals.debounce[j] = s.terminals.debounce[j] := by
  obtain ⟨filtered, debounce, due⟩ := setFiltered_self i (!s.terminals.filtered[i]) s
  rw [h, (changeInput_ground ..).terminals]
  exact ⟨filtered, debounce, due, fun j hj => setFiltered_ne hj⟩

/-- A seat input in evaluation, up to the report of the seat's change. -/
structure SeatFollows (k : Fin 8) (old : SeatState) (s u t : State) : Prop where
  moved : t = seatMoved k old u
  only : OnlySeats s u
  evaluated : (seatState u k).inEvaluation = true
  seat : t.restraint.seats[k] = u.restraint.seats[k]
  summary : u.restraint.summary = true → t.restraint.summary = true

theorem SeatFollows.state_eq (h : SeatFollows k old s u t) : seatState t k = seatState u k := congrArg Seat.state h.seat

/-- A seat in evaluation has no part in a release, so that whatever its change ends leaves it alone. -/
theorem changeInput_follows (held : ReleaseHeld s) (hi : i.val = 3 * k.val + j.val)
    (he : (seatState s k).inEvaluation = true) : SeatFollows k (seatState s k) s
      (followChange k j level (picture s k) (setFiltered i level s)) (changeInput i level s) := by
  have apart : ¬(k ∈ s.restraint.queue ∨ k ∈ s.restraint.energised) := fun h => by
    simp [(held.releasing k).1 h, SeatState.inEvaluation] at he
  obtain ⟨notQueued, notEnergised⟩ := not_or.1 apart
  have moved : changeInput i level s =
      seatMoved k (seatState s k) (followChange k j level (picture s k) (setFiltered i level s)) :=
    (changeInput_seat hi level s).trans (seatInputChanged_evaluated (s := setFiltered i level s) he)
  have spared := seatMoved_spares k k (seatState s k) (followChange k j level (picture s k) (setFiltered i level s))
  obtain ⟨queue, energised⟩ := followChange_release (k := k) (j := j) (level := level) (before := picture s k)
    (s := setFiltered i level s)
  rw [← moved] at spared
  exact ⟨moved, (setFiltered_only i level s).trans followChange_only, followChange_inEvaluation,
    (spared.seat (queue ▸ notQueued) (energised ▸ notEnergised)).1, spared.summary⟩

/-- A change that its edge sense names sets the latch of its input (R68). -/
theorem SeatFollows.latched (h : SeatFollows k old s (followChange k j level before (setFiltered i level s)) t)
    (he : (seatState s k).inEvaluation = true) (hm : (s.params.edgeSense[j]).matches level = true) :
    t.restraint.summary = true ∧ (j = 0 → (t.restraint.seats[k]).latches.lockA = true) ∧
      (j = 1 → (t.restraint.seats[k]).latches.lockB = true) ∧ (j = 2 → (t.restraint.seats[k]).latches.barDown = true) := by
  have enabled : seatState s k ≠ .disabled := fun e => by simp [e, SeatState.inEvaluation] at he
  obtain ⟨summary, latches⟩ := followChange_matched (s := setFiltered i level s) (before := before) enabled hm
  rw [h.seat, latches]
  refine ⟨h.summary summary, ?_, ?_, ?_⟩ <;> rintro rfl <;> rfl

/-- A RELEASING seat whose bar rises, up to the report of its change. -/
theorem changeInput_barRaised (hi : i.val = 3 * k.val + 2) (hr : seatState s k = .releasing) :
    ∃ v, OnlySeats s v ∧ v.restraint.queue = s.restraint.queue ∧ v.restraint.energised = s.restraint.energised ∧
      seatState (barRose k v) k = .open ∧ changeInput i false s = evalReady (refreshPermit (barRose k v)) := by
  obtain ⟨queue, energised⟩ := latchChange_release k 2 false (setFiltered i false s)
  have bar : (picture (latchChange k 2 false (setFiltered i false s)) k).barDown = false := by
    have hin : seatInput k 2 = i := Fin.ext hi.symm
    rw [picture_congr (latchChange_terminals ..)]
    exact (congrArg (fun m => (setFiltered i false s).terminals.filtered[m]) hin).trans (setFiltered_self i false s).1
  have opened : seatState (barRose k (latchChange k 2 false (setFiltered i false s))) k = .open :=
    (barRose_up ..).state.trans (by rw [Picture.seatState, bar]; rfl)
  refine ⟨_, (setFiltered_only i false s).trans (latchChange_only ..), queue, energised, opened, ?_⟩
  rw [← openSeat_judged opened, changeInput_seat (j := 2) hi]
  exact seatInputChanged_releasing (s := setFiltered i false s) hr

/-- Settles O28: a change that is not due; any change that is; one of a seat in evaluation; and a bar that rises. -/
theorem filteredChangeReachesConsumers : Obligations.FilteredChangeReachesConsumers := by
  refine ⟨fun i s h => execFilteredChange_idle h, fun i s due => ?_, fun k j i s held hi due he => ?_,
    fun k i s hi due active hr => ?_⟩
  · obtain ⟨filtered, debounce, taken, others⟩ := changeInput_terminals (s := s) (i := i) rfl
    have ground := changeInput_ground i (!s.terminals.filtered[i]) s
    refine ⟨_, execFilteredChange_due due, filtered, debounce, taken, others, ground.params, ground.tables,
      changeInput_tracker .., ground.clock, ground.store, ground.localMs, ?_, ?_, ?_⟩
    · rintro rfl
      rw [changeInput_ampReady, ampReadyChanged_steering]
      cases s.terminals.filtered[(24 : Fin 27)] <;> rfl
    · rintro rfl hf hm
      rw [changeInput_onboardStop, hf]
      exact onboardStopChanged_halts hm
    · rintro rfl
      rw [changeInput_strap]
      exact ⟨rfl, rfl, rfl, rfl⟩
  · have follows := changeInput_follows (level := !s.terminals.filtered[i]) held hi he
    have pictured := picture_congr (k := k) (changeInput_ground i (!s.terminals.filtered[i]) s).terminals
    refine ⟨_, execFilteredChange_due due, ?_, fun hw ho hv hn => ?_, fun hq hc => ?_, fun hn hm hc => ?_, fun hm => ?_⟩
    · rw [pictured, follows.state_eq]
      exact followChange_seatState
    · rw [follows.state_eq] at hv hn
      rw [follows.moved]
      exact follows.only.opens hw ho hv hn follows.evaluated
    · rw [follows.state_eq] at hq
      rw [follows.moved]
      exact follows.only.quiet hc hq
    · rw [follows.state_eq] at hn
      rw [follows.moved]
      exact follows.only.decided hn hm hc
    · exact follows.latched he ((EdgeSense.matches_iff ..).2 (by simpa using hm))
  · obtain ⟨v, only, queue, energised, opened, change⟩ := changeInput_barRaised hi hr
    have up := (barRose_up k v).spared ((refreshPermit_spares ..).trans (evalReady_spares k _))
    have moved : OnlySeats s (barRose k v) := only.trans (barRose_only k v)
    refine ⟨evalReady (refreshPermit (barRose k v)), ?_, ?_, up.latched, up.pulse, up.queue, up.energised, up.summary,
      fun hm hc => ?_, fun held => ?_⟩
    · rw [execFilteredChange_due due, active, ← change]
      rfl
    · exact up.state.trans ((barRose_up k v).state.symm.trans opened)
    · exact evalReady_refreshed (by rwa [moved.mc]) (moved.rcHeard hc)
    · obtain ⟨complete, allowed⟩ := held.of_releasing hr
      have stands : ReleaseStands (barRose k v) := ⟨moved.allowed allowed, fun ready => by simpa [opened] using ready k⟩
      obtain ⟨goes, stands⟩ := refreshPermit_stands stands
      rw [evalReady_stands (by rwa [refreshPermit_startUp, moved.startUp]) stands, goes, ← queue, ← energised, ← only.params]
      exact barRose_filled k (by rw [queue, energised]; exact held.distinct) (by rw [energised]; exact held.budget)

end Sys2Proof.Machine
end

section
/-! PROOF. The ceiling ahead for O38: on a route whose segments rise from 0, the spans that touch the stretch ahead are those of
the segments that share a millimetre with it (R26, R158). -/

namespace Sys2Proof.Machine

variable {s : State} {l : List Segment} {g h : Segment} {len next p last : Nat}

/-! ## Segments and their spans (R26) -/

/-- The starts of the segments rise, and lie on the route. -/
structure Rising (len : Nat) (l : List Segment) : Prop where
  rises : l.Pairwise fun g h => g.start < h.start
  inside : ∀ g ∈ l, g.start < len

theorem Rising.tail (r : Rising len (g :: l)) : Rising len l :=
  ⟨r.rises.of_cons, fun h hm => r.inside h (.tail g hm)⟩

/-- A segment covers the millimetres from its start up to the end of its span, which lies on the route. -/
structure Spanned (len : Nat) (l : List Segment) (g : Segment) (next : Nat) : Prop where
  mem : g ∈ l
  rises : g.start < next
  inside : next ≤ len
  covers : ∀ mm, mm < len → (g.Covers l mm ↔ g.start ≤ mm ∧ mm < next)

/-- The first segment covers what lies before the second one. -/
theorem Rising.covers_head (r : Rising len (g :: h :: l)) (mm : Nat) :
    g.Covers (g :: h :: l) mm ↔ g.start ≤ mm ∧ mm < h.start := by
  have second : g.start < h.start := List.rel_of_pairwise_cons r.rises (.head l)
  constructor
  · intro ⟨below, above⟩
    refine ⟨below, Nat.lt_of_not_le fun reached => ?_⟩
    exact absurd (above h (.tail g (.head l)) reached) (Nat.not_le.2 second)
  · intro ⟨below, before⟩
    refine ⟨below, fun k hk reached => ?_⟩
    obtain rfl | hk := List.mem_cons.1 hk
    · exact le_rfl
    · obtain rfl | hk := List.mem_cons.1 hk
      · omega
      · have later : h.start < k.start := List.rel_of_pairwise_cons r.tail.rises hk
        omega

/-- A segment in front does not change what the later ones cover. -/
theorem Rising.covers_tail (r : Rising len (h :: l)) (hg : g ∈ l) (mm : Nat) : g.Covers (h :: l) mm ↔ g.Covers l mm := by
  have front : h.start < g.start := List.rel_of_pairwise_cons r.rises hg
  simp [Segment.Covers, front.le]

theorem Rising.spanned (r : Rising len l) (hg : (g, next) ∈ segmentSpans len l) : Spanned len l g next := by
  fun_induction segmentSpans len l with
  | case1 => simp at hg
  | case2 k =>
    obtain ⟨rfl, rfl⟩ := Prod.mk.inj (List.mem_singleton.1 hg)
    exact ⟨.head [], r.inside g (.head []), le_rfl, fun mm hmm => by simp [Segment.Covers, hmm]⟩
  | case3 k k' rest ih =>
    obtain hg | hg := List.mem_cons.1 hg
    · obtain ⟨rfl, rfl⟩ := Prod.mk.inj hg
      exact ⟨.head _, List.rel_of_pairwise_cons r.rises (.head rest), (r.inside k' (.tail g (.head rest))).le,
        fun mm _ => r.covers_head mm⟩
    · have later := ih r.tail hg
      exact ⟨.tail k later.mem, later.rises, later.inside, fun mm hmm =>
        (r.covers_tail later.mem mm).trans (later.covers mm hmm)⟩

/-- Every segment has its span. -/
theorem segmentSpans_fst (len : Nat) (l : List Segment) : (segmentSpans len l).map Prod.fst = l := by
  fun_induction segmentSpans len l with
  | case1 => rfl
  | case2 => rfl
  | case3 g h rest ih => rw [List.map_cons, ih]

/-- A span touches the stretch from `p` to `last`, or the part of it that goes on from 0 past L, where its segment covers a
millimetre of the stretch (R158). -/
theorem Spanned.touches_iff (sp : Spanned len l g next) (hp : p < len) (hl : p ≤ last) :
    (g.start ≤ last ∧ p < next) ∨ (len ≤ last ∧ g.start ≤ last - len) ↔
      ∃ mm, p ≤ mm ∧ mm ≤ last ∧ g.Covers l (mm % len) := by
  have rises := sp.rises
  have inside := sp.inside
  constructor
  · rintro (⟨reached, ahead⟩ | ⟨past, reached⟩)
    · have within : max g.start p < len := by omega
      refine ⟨max g.start p, le_max_right .., max_le reached hl, ?_⟩
      rw [Nat.mod_eq_of_lt within]
      exact (sp.covers _ within).2 ⟨le_max_left .., by omega⟩
    · refine ⟨g.start + len, by omega, by omega, ?_⟩
      rw [Nat.add_mod_right, Nat.mod_eq_of_lt (by omega)]
      exact (sp.covers _ (by omega)).2 ⟨le_rfl, rises⟩
  · rintro ⟨mm, hpm, hml, hc⟩
    obtain ⟨below, before⟩ := (sp.covers _ (Nat.mod_lt mm (by omega))).1 hc
    obtain within | past := Nat.lt_or_ge mm len
    · rw [Nat.mod_eq_of_lt within] at below before
      exact .inl ⟨by omega, by omega⟩
    · have wrapped : mm % len ≤ mm - len := by
        rw [Nat.mod_eq_sub_mod past]
        exact Nat.mod_le ..
      exact .inr ⟨by omega, by omega⟩

/-- Some segment covers a millimetre at or past the first start: the one with the largest start of those at or below it. -/
theorem exists_covers {mm : Nat} (hg : g ∈ l) (hs : g.start ≤ mm) : ∃ k ∈ l, Segment.Covers l k mm := by
  obtain ⟨k, hk, largest⟩ := Finset.exists_max_image (l.toFinset.filter fun k => k.start ≤ mm) Segment.start
    ⟨g, by simp [hg, hs]⟩
  simp only [Finset.mem_filter, List.mem_toFinset] at hk largest
  exact ⟨k, hk.1, hk.2, fun h hm reached => largest h ⟨hm, reached⟩⟩

/-! ## The ceiling ahead (R158) -/

/-- A VALID route whose segments rise from 0, with the vehicle on it (R24, R26). -/
structure RouteLaid (s : State) : Prop where
  valid : s.tables.route.status = .valid
  rising : Rising s.tables.routeLength s.tables.route.entries
  fromZero : ∃ g ∈ s.tables.route.entries, g.start = 0
  onRoute : s.tracker.p / 10 < s.tables.routeLength

/-- The spans that `ceilingAheadOf` takes the lowest ceiling of. -/
def spansAhead (s : State) : List (Segment × Nat) :=
  (segmentSpans s.tables.routeLength s.tables.route.inUse).filter fun e =>
    decide (e.1.start ≤ s.tracker.p / 10 + s.params.lookahead ∧ s.tracker.p / 10 < e.2) ||
      decide (s.tables.routeLength ≤ s.tracker.p / 10 + s.params.lookahead ∧
        e.1.start ≤ s.tracker.p / 10 + s.params.lookahead - s.tables.routeLength)

theorem ceilingAheadOf_eq (s : State) : ceilingAheadOf s =
    ((spansAhead s).map fun e => e.1.ceilingSeen s.params.creepCeiling).foldl min 3000 := rfl

theorem RouteLaid.inUse (r : RouteLaid s) : s.tables.route.inUse = s.tables.route.entries := if_pos r.valid

theorem RouteLaid.mem_spansAhead (r : RouteLaid s) : (∃ next, (g, next) ∈ spansAhead s) ↔ g.Ahead s := by
  have touches {next : Nat} (hg : (g, next) ∈ segmentSpans s.tables.routeLength s.tables.route.entries) :=
    (r.rising.spanned hg).touches_iff r.onRoute (Nat.le_add_right (s.tracker.p / 10) s.params.lookahead)
  simp only [spansAhead, r.inUse, List.mem_filter, Bool.or_eq_true, decide_eq_true_eq]
  constructor
  · rintro ⟨next, hg, touched⟩
    exact ⟨(r.rising.spanned hg).mem, (touches hg).1 touched⟩
  · rintro ⟨hm, shared⟩
    rw [← segmentSpans_fst s.tables.routeLength s.tables.route.entries] at hm
    obtain ⟨⟨_, next⟩, hg, rfl⟩ := List.mem_map.1 hm
    exact ⟨next, hg, (touches hg).2 shared⟩

theorem RouteLaid.exists_ahead (r : RouteLaid s) : ∃ g : Segment, g.Ahead s := by
  obtain ⟨first, hf, hz⟩ := r.fromZero
  obtain ⟨g, hg, covers⟩ := exists_covers hf (by omega : first.start ≤ s.tracker.p / 10)
  refine ⟨g, hg, s.tracker.p / 10, le_rfl, Nat.le_add_right .., ?_⟩
  rwa [Nat.mod_eq_of_lt r.onRoute]

/-- The lowest of some values that the start value does not undercut is one of them. -/
theorem foldl_min_least {l : List Nat} {top : Nat} (hne : l ≠ []) (hle : ∀ n ∈ l, n ≤ top) :
    l.foldl min top ∈ l ∧ ∀ n ∈ l, l.foldl min top ≤ n := by
  obtain ⟨m, hm⟩ := Option.isSome_iff_exists.1 (List.isSome_min?_of_ne_nil hne)
  have least := List.min?_eq_some_iff.1 hm
  rwa [List.foldl_min, hm, Option.getD_some, min_eq_right (hle m least.1)]

/-- The ceiling ahead is the least of what the segments ahead let the vehicle run (R158). -/
theorem RouteLaid.ceilingAheadOf_least (r : RouteLaid s) (hceil : ∀ g ∈ s.tables.route.entries, g.ceiling ≤ 3000)
    (hcreep : s.params.creepCeiling ≤ 3000) :
    (∀ g : Segment, g.Ahead s → ceilingAheadOf s ≤ g.ceilingSeen s.params.creepCeiling) ∧
      ∃ g : Segment, g.Ahead s ∧ ceilingAheadOf s = g.ceilingSeen s.params.creepCeiling := by
  have seen {n : Nat} : n ∈ (spansAhead s).map (fun e => e.1.ceilingSeen s.params.creepCeiling) ↔
      ∃ g : Segment, g.Ahead s ∧ g.ceilingSeen s.params.creepCeiling = n := by
    simp only [List.mem_map, Prod.exists, ← r.mem_spansAhead, exists_and_right]
  obtain ⟨first, hfirst⟩ := r.exists_ahead
  have bounded : ∀ g : Segment, g.Ahead s → g.ceilingSeen s.params.creepCeiling ≤ 3000 := by
    intro g hg
    rw [Segment.ceilingSeen]
    split
    · exact hcreep
    · exact hceil g hg.1
  obtain ⟨attained, lowest⟩ := foldl_min_least (top := 3000) (List.ne_nil_of_mem (seen.2 ⟨first, hfirst, rfl⟩))
    (fun n hn => by
      obtain ⟨g, hg, rfl⟩ := seen.1 hn
      exact bounded g hg)
  rw [ceilingAheadOf_eq]
  obtain ⟨g, hg, attains⟩ := seen.1 attained
  exact ⟨fun g hg => lowest _ (seen.2 ⟨g, hg, rfl⟩), g, hg, attains.symm⟩

end Sys2Proof.Machine
end

section
/-! PROOF. O38: SET_SPEED_LIMIT (R159), the ceilings (R157, R158), the permit level (R154 to R156) and READ_FAULT_LOG
(R168). -/

namespace Sys2Proof.Machine

variable {s t : State} {f : Frame} {rest : List Frame}

/-! ## The speed ceiling (R157, R161) -/

theorem speedCeilingOf_formed (s : State) (ahead : Nat) :
    CeilingFormed s s.permit.rcLimit ahead (speedCeilingOf s ahead) where
  still h := by obtain h | h := h <;> simp [speedCeilingOf, h]
  run hl hp := by simp [speedCeilingOf, hl, hp]
  creep hl hp := by simp [speedCeilingOf, hl, hp]
  unconfirmed hl hp := by simp [speedCeilingOf, hl, hp]

/-- What a speed ceiling is formed from: the level, the advance, the position, the route and the parameters. -/
structure SameCeilingTerms (s t : State) : Prop where
  level : t.permit.level = s.permit.level
  advance : t.mc.advance = s.mc.advance
  tracker : t.tracker = s.tracker
  tables : t.tables = s.tables
  params : t.params = s.params

theorem SameCeilingTerms.ceilingInForce (h : SameCeilingTerms s t) : ceilingInForce t = ceilingInForce s := by
  have ceiling : segmentCeiling t = segmentCeiling s := by simp only [segmentCeiling, currentSegment, h.tracker, h.tables]
  unfold Machine.ceilingInForce
  rw [h.advance, h.tracker, h.params, ceiling]

theorem SameCeilingTerms.formed {limit ahead ceiling : Nat} (h : SameCeilingTerms s t)
    (k : CeilingFormed t limit ahead ceiling) : CeilingFormed s limit ahead ceiling := by
  obtain ⟨still, run, creep, unconfirmed⟩ := k
  rw [h.level, h.tracker, h.ceilingInForce] at run
  rw [h.level, h.tracker, h.ceilingInForce, h.params] at creep
  rw [h.level, h.tracker, h.params] at unconfirmed
  exact ⟨h.level ▸ still, run, creep, unconfirmed⟩

theorem formCeilings_ceiling (s : State) :
    CeilingFormed s s.permit.rcLimit s.permit.ceilingAhead (formCeilings s).permit.speedCeiling :=
  speedCeilingOf_formed s s.permit.ceilingAhead

/-- A fall of the speed ceiling clears the overspeed count (R161). -/
theorem formCeilings_overspeed (s : State) : (formCeilings s).permit.overspeed =
    if (formCeilings s).permit.speedCeiling < s.permit.speedCeiling then 0 else s.permit.overspeed := rfl

/-! ## The ceiling ahead (R158) -/

theorem looksAhead_iff : looksAhead s = true ↔ s.tracker.position = .sync ∧ s.tables.route.status = .valid := by
  simp [looksAhead, routeValid]

theorem formAhead_looks (h : looksAhead s = true) :
    formAhead s = formCeilings (s.setPermit { s.permit with ceilingAhead := ceilingAheadOf s }) := by
  rw [formAhead, if_pos h]
  rfl

theorem formAhead_blind (h : looksAhead s = false) : formAhead s = formCeilings s := by
  rw [formAhead, h]
  rfl

theorem formCeilings_ahead_looks (h : looksAhead s = true) :
    (formCeilings s).permit.ceilingAhead = s.permit.ceilingAhead := if_pos h

/-- Without a value of its own the ceiling ahead is the speed ceiling. -/
theorem formCeilings_ahead_blind (h : looksAhead s = false) :
    (formCeilings s).permit.ceilingAhead = (formCeilings s).permit.speedCeiling := if_neg (Bool.eq_false_iff.1 h)

theorem formAhead_ahead (h : looksAhead s = true) : (formAhead s).permit.ceilingAhead = ceilingAheadOf s := by
  rw [formAhead_looks h]
  exact formCeilings_ahead_looks (s := s.setPermit { s.permit with ceilingAhead := ceilingAheadOf s }) h

theorem formAhead_ceiling (h : looksAhead s = true) :
    CeilingFormed s s.permit.rcLimit (formAhead s).permit.ceilingAhead (formAhead s).permit.speedCeiling := by
  have terms : SameCeilingTerms s (s.setPermit { s.permit with ceilingAhead := ceilingAheadOf s }) :=
    ⟨rfl, rfl, rfl, rfl, rfl⟩
  rw [formAhead_ahead h, formAhead_looks h]
  exact terms.formed (formCeilings_ceiling _)

/-! ## The permit level (R154 to R156) -/

theorem refreshPermit_startUp_stays (h : s.startUp.phase ≠ .complete) : refreshPermit s = s :=
  if_pos (.inl (by simpa [startingUp] using h))

theorem refreshPermit_same (h : permitLevelOf s = s.permit.level) : refreshPermit s = s := if_pos (.inr h)

/-- A new permit level, with the counts that STOP and EMERGENCY clear (R60, R161). -/
def levelTaken (new : PermitLevel) (s : State) : State :=
  (s.setPermit { s.permit with level := new, overspeed := if new.still then 0 else s.permit.overspeed }).setSteering
    { s.steering with ampWait := if new.still then 0 else s.steering.ampWait }

theorem refreshPermit_moves (hc : s.startUp.phase = .complete) (h : permitLevelOf s ≠ s.permit.level) :
    refreshPermit s = judgeRelease (formCeilings (levelTaken (permitLevelOf s) s)) :=
  if_neg (not_or.2 ⟨by simp [startingUp_false hc], h⟩)

theorem refreshPermit_moves_ceiling (hc : s.startUp.phase = .complete) (h : permitLevelOf s ≠ s.permit.level) :
    CeilingFormed (refreshPermit s) s.permit.rcLimit s.permit.ceilingAhead (refreshPermit s).permit.speedCeiling := by
  have terms : SameCeilingTerms (refreshPermit s) (levelTaken (permitLevelOf s) s) :=
    ⟨(refreshPermit_level hc).symm, congrArg _ (refreshPermit_mc s).symm, (refreshPermit_tracker s).symm,
      (refreshPermit_tables s).symm, (refreshPermit_params s).symm⟩
  apply terms.formed
  rw [refreshPermit_moves hc h, judgeRelease_permit]
  exact formCeilings_ceiling (levelTaken (permitLevelOf s) s)

theorem refreshPermit_moves_still (hc : s.startUp.phase = .complete) (h : permitLevelOf s ≠ s.permit.level)
    (hs : (permitLevelOf s).still = true) :
    (refreshPermit s).permit.overspeed = 0 ∧ (refreshPermit s).steering.ampWait = 0 := by
  rw [refreshPermit_moves hc h, judgeRelease_permit, judgeRelease_steering, formCeilings_steering, formCeilings_overspeed]
  simp [levelTaken, hs]

/-! ## The requests (R159, R168) -/

theorem handleSetSpeedLimit_limits (hi lo : Byte) (s : State) : handleSetSpeedLimit [hi, lo] s =
    doneOr (decide (3000 < 256 * hi.toNat + lo.toNat))
      (be2 (min (256 * hi.toNat + lo.toNat) 3000) ++
        be2 (setSpeedLimit (min (256 * hi.toNat + lo.toNat) 3000) s).permit.speedCeiling)
      (setSpeedLimit (min (256 * hi.toNat + lo.toNat) 3000) s) := by
  rw [← beNat_two]
  rfl

theorem handleSetSpeedLimit_length {args : List Byte} (h : args.length ≠ 2) :
    handleSetSpeedLimit args s = ⟨.argument, [], s⟩ := by
  unfold handleSetSpeedLimit
  split
  · exact absurd rfl h
  · rfl

/-- The ceiling that SET_SPEED_LIMIT forms, in the terms of the state before the request. -/
theorem setSpeedLimit_ceiling (f : Frame) (rest : List Frame) (limit : Nat) (s : State) :
    CeilingFormed s limit s.permit.ceilingAhead (setSpeedLimit limit (taken s f rest)).permit.speedCeiling := by
  have terms : SameCeilingTerms s ((taken s f rest).setPermit { s.permit with rcLimit := limit }) :=
    ⟨rfl, taken_advance (rest := rest), rfl, rfl, rfl⟩
  exact terms.formed (formCeilings_ceiling _)

/-- The fault log's response data, field by field (R168, R186). -/
theorem faultLogData_eq (u : PermitUnit) (start : Nat) : faultLogData u start =
    [BitVec.ofNat 8 u.log.length] ++ be2 u.nextNumber ++ ((u.log.drop start).take 3).flatMap fun e =>
      be2 e.1 ++ [BitVec.ofNat 8 e.2.kind.code, BitVec.ofNat 8 e.2.sub.code] ++ be2 e.2.detail ++ be3 e.2.position ++
        be4 e.2.showMs ++ [BitVec.ofNat 8 e.2.mode.code] := rfl

theorem handleReadFaultLog_reads {b : Byte} (h : b.toNat ≤ 15) (s : State) :
    handleReadFaultLog [b] s = ⟨.done, faultLogData s.permit b.toNat, s⟩ := if_neg (Nat.not_lt.2 h)

theorem handleReadFaultLog_past {b : Byte} (h : 15 < b.toNat) (s : State) :
    handleReadFaultLog [b] s = ⟨.argument, [], s⟩ := if_pos h

theorem handleReadFaultLog_length {args : List Byte} (h : args.length ≠ 1) :
    handleReadFaultLog args s = ⟨.argument, [], s⟩ := by
  unfold handleReadFaultLog
  split
  · exact absurd rfl h
  · rfl

/-! ## O38 -/

/-- Settles O38: the speed limit, the ceiling ahead with and without a value of its own, the permit level, the fault log, and
the argument lengths. -/
theorem speedLimitAndFaultLog : Obligations.SpeedLimitAndFaultLog := by
  refine ⟨fun f rest s hi lo h hargs => ?_, fun s hp hv hrises hzero hbounds hcreep hon => ?_, fun s hblind => ?_,
    fun s t hc ht => ?_, fun s h => refreshPermit_startUp_stays h, fun f rest s b h hargs => ⟨fun hb => ?_, fun hb => ?_⟩,
    fun f rest s => ⟨fun hl h => ?_, fun hl h => ?_⟩⟩
  · obtain ⟨still, run, creep, unconfirmed⟩ :=
      setSpeedLimit_ceiling f rest (min (256 * hi.toNat + lo.toNat) 3000) s
    exact ⟨_, requestRow_doneOr h hargs (handleSetSpeedLimit_limits hi lo _) decide_eq_true_iff, rfl, rfl, rfl, rfl, rfl,
      rfl, still, run, creep, unconfirmed, rfl⟩
  · have looks : looksAhead s = true := looksAhead_iff.2 ⟨hp, hv⟩
    obtain ⟨first, more, hentries, hstart⟩ := hzero
    have laid : RouteLaid s := ⟨hv, ⟨hrises, fun g hg => (hbounds g hg).1⟩, ⟨first, by simp [hentries], hstart⟩, by omega⟩
    obtain ⟨lowest, attained⟩ := laid.ceilingAheadOf_least (fun g hg => (hbounds g hg).2) hcreep
    rw [← formAhead_ahead looks] at lowest attained
    exact ⟨_, formAhead_eq s, lowest, attained, formAhead_ceiling looks⟩
  · have blind : looksAhead s = false := by
      rw [Bool.eq_false_iff, Ne, looksAhead_iff]
      rintro ⟨hp, hv⟩
      obtain hu | hi := hblind
      · exact absurd (hp.symm.trans hu) nofun
      · exact hi hv
    rw [formAhead_blind blind]
    exact ⟨_, formCeilings_eq s, formCeilings_ahead_blind blind, formCeilings_ceiling s⟩
  · subst ht
    rw [refreshPermit_level hc]
    exact ⟨permitLevelOf_formed, refreshPermit_mc s, refreshPermit_tracker s, refreshPermit_same, fun hne =>
      ⟨refreshPermit_moves_ceiling hc hne, fun hs => refreshPermit_moves_still hc hne ((still_iff _).2 hs)⟩⟩
  · rw [← faultLogData_eq]
    exact requestRow_answers h hargs (handleReadFaultLog_reads hb _)
  · exact requestRow_answers h hargs (handleReadFaultLog_past hb _)
  · exact requestRow_answers h rfl (handleSetSpeedLimit_length hl)
  · exact requestRow_answers h rfl (handleReadFaultLog_length hl)

end Sys2Proof.Machine
end

section
/-! PROOF. The Wayside Link Interface's own rows (10.1, 10.2): O9, framing errors and frame timeouts; O10, address characters. -/

namespace Sys2Proof.Machine

variable {s : State} {value : Byte}

/-! ## A frame that breaks (R172, R173) -/

theorem Wli.breakFrame_eq (w : Wli) : w.breakFrame =
    { w with receiver := .hunting, frame := none, brokenFrames := min (w.brokenFrames + 1) 65535 } := rfl

/-- The quiet time that counts is the larger of the operand and the one in the state (log 5). -/
theorem quietTime_ge_iff (n quiet : Nat) (s : State) : n ≤ quietTime s quiet ↔ n ≤ quiet ∨ n ≤ s.wli.quiet := le_max_iff

theorem frameTimedOut_iff (s : State) (quiet : Nat) :
    frameTimedOut s quiet = true ↔ s.wli.receiver = .receiving ∧ (4 ≤ quiet ∨ 4 ≤ s.wli.quiet) := by
  simp [frameTimedOut, quietTime_ge_iff]

theorem execFrameTimeout_due (quiet : Nat) (h : frameTimedOut s quiet = true) :
    exec (.frameTimeout quiet) s = .next (s.setWli s.wli.breakFrame) := congrArg Host.Outcome.next (if_pos h)

theorem execFrameTimeout_idle (quiet : Nat) (h : ¬frameTimedOut s quiet = true) :
    exec (.frameTimeout quiet) s = .next s := congrArg Host.Outcome.next (if_neg h)

/-- Settles O9: by the receiver's state, and by whether the quiet time has passed. -/
theorem brokenFramesAreCounted : Obligations.BrokenFramesAreCounted := by
  refine ⟨fun s ht hr => ?_, fun s ht hr => ?_, fun s ht => ?_, fun quiet s hr hq => ?_, fun quiet s h => ?_⟩
  · simp [exec, execFramingError, ht, hr, Wli.breakFrame_eq, State.setWli]
  · cases hw : s.wli.receiver with
    | receiving => exact absurd hw hr
    | hunting | trailing => simp [exec, execFramingError, ht, hw, State.setWli]
  · simp [exec, execFramingError, ht]
  · exact execFrameTimeout_due quiet ((frameTimedOut_iff s quiet).2 ⟨hr, .inl hq⟩)
  · refine execFrameTimeout_idle quiet fun hd => ?_
    obtain ⟨hr, hq⟩ := (frameTimedOut_iff s quiet).1 hd
    rcases h with h | ⟨h1, h2⟩
    · exact h hr
    · omega

/-! ## Address characters (R173) -/

/-- The receiver once an address character has come, before it is matched: HUNTING, a frame in reception broken. -/
def Wli.readdressed (w : Wli) : Wli :=
  { w with
    quiet := 0, receiver := .hunting, frame := none
    brokenFrames := if w.receiver = .receiving then min (w.brokenFrames + 1) 65535 else w.brokenFrames }

/-- The receiver with a frame begun. -/
def Wli.addressed (w : Wli) (f : PartialFrame) : Wli := { w with receiver := .receiving, frame := some f }

theorem execAddressCharacter_eq (value : Byte) (periods : Nat) (ht : s.wli.transmitting = false) :
    exec (.addressCharacter value periods) s = .next (s.setWli
      ((addressingOf s.params value).elim s.wli.readdressed
        fun a => s.wli.readdressed.addressed ⟨value, a, s.clock.capture periods, []⟩)) := by
  cases hr : s.wli.receiver <;> cases ha : addressingOf s.params value <;>
    simp [exec, execAddressCharacter, ht, hr, ha, Wli.readdressed, Wli.addressed, Wli.breakFrame_eq]

theorem addressingOf_vehicle (h : value.toNat = s.params.vehicleAddress) : addressingOf s.params value = some .unicast :=
  if_pos h

theorem addressingOf_broadcast (hv : value.toNat ≠ s.params.vehicleAddress) (h : value.toNat = 255) :
    addressingOf s.params value = some .broadcast := (if_neg hv).trans (if_pos h)

/-- A group that this vehicle is in: a group number of 0 is none (R173). -/
theorem inGroup_iff (groups : List Nat) (n : Nat) :
    (groups.any fun g => g != 0 && n == 239 + g) = true ↔ ∃ g ∈ groups, g ≠ 0 ∧ n = 239 + g := by simp

theorem addressingOf_group (hv : value.toNat ≠ s.params.vehicleAddress) (hb : value.toNat ≠ 255)
    (h : ∃ g ∈ s.params.groups.toList, g ≠ 0 ∧ value.toNat = 239 + g) : addressingOf s.params value = some .group :=
  (if_neg hv).trans ((if_neg hb).trans (if_pos ((inGroup_iff ..).2 h)))

theorem addressingOf_foreign (hv : value.toNat ≠ s.params.vehicleAddress) (hb : value.toNat ≠ 255)
    (h : ∀ g ∈ s.params.groups.toList, g = 0 ∨ value.toNat ≠ 239 + g) : addressingOf s.params value = none := by
  refine (if_neg hv).trans ((if_neg hb).trans (if_neg fun hg => ?_))
  obtain ⟨g, hmem, h0, heq⟩ := (inGroup_iff ..).1 hg
  exact (h g hmem).elim h0 fun hne => hne heq

/-- Settles O10: the receiver is readdressed, and a character with an addressing of this vehicle begins a frame. -/
theorem addressCharactersStartFrames : Obligations.AddressCharactersStartFrames := by
  intro value periods s ht
  refine ⟨_, execAddressCharacter_eq value periods ht, ?_, ?_, ?_, ?_, fun h => ?_, fun hv h => ?_, fun hv hb h => ?_,
    fun hv hb h => ?_⟩
  · cases addressingOf s.params value <;> rfl
  · cases addressingOf s.params value <;> rfl
  · cases addressingOf s.params value <;> rfl
  · cases addressingOf s.params value <;> rfl
  · rw [addressingOf_vehicle h]
    exact ⟨rfl, rfl⟩
  · rw [addressingOf_broadcast hv h]
    exact ⟨rfl, rfl⟩
  · rw [addressingOf_group hv hb h]
    exact ⟨rfl, rfl⟩
  · rw [addressingOf_foreign hv hb h]
    exact ⟨rfl, rfl⟩

end Sys2Proof.Machine
end

section
/-! PROOF. Data characters (R173, R174): O11, the characters of a frame before its last, and O12, its last character. -/

namespace Sys2Proof.Machine

variable {s : State} {w : Wli} {p : PartialFrame} {value source tag kind n hi lo : Byte} {args : List Byte}

/-! ## A character by the receiver's state (R173) -/

/-- The line is not quiet any more. -/
def Wli.stirred (w : Wli) : Wli := { w with quiet := 0 }

theorem execDataCharacter_receiving (value : Byte) (ht : s.wli.transmitting = false) (hr : s.wli.receiver = .receiving)
    (hf : s.wli.frame = some p) :
    exec (.dataCharacter value) s = .next (s.setWli (s.wli.stirred.append p value)) := by
  simp [exec, execDataCharacter, ht, hr, hf, Wli.stirred]

theorem execDataCharacter_trailing (value : Byte) (ht : s.wli.transmitting = false) (hr : s.wli.receiver = .trailing) :
    exec (.dataCharacter value) s = .next (s.setWli
      { s.wli.stirred with strayCharacters := min (s.wli.strayCharacters + 1) 65535 }) := by
  simp [exec, execDataCharacter, ht, hr, Wli.stirred, bump]

theorem execDataCharacter_hunting (value : Byte) (ht : s.wli.transmitting = false) (hr : s.wli.receiver = .hunting) :
    exec (.dataCharacter value) s = .next (s.setWli s.wli.stirred) := by
  simp [exec, execDataCharacter, ht, hr, Wli.stirred]

/-! ## A character of a frame, by its place (R174) -/

/-- A frame in reception with one character more. -/
def PartialFrame.grown (p : PartialFrame) (value : Byte) : PartialFrame := { p with chars := p.chars ++ [value] }

/-- Source, tag and kind are appended as they come. -/
theorem Wli.append_header (value : Byte) (h : p.chars.length < 3) :
    w.append p value = { w with frame := some (p.grown value) } := by
  obtain ⟨address, addressing, capture, chars⟩ := p
  match chars, h with
  | [], _ => rfl
  | [_], _ => rfl
  | [_, _], _ => rfl

/-- The fourth character is the length of the arguments, at most 48. -/
theorem Wli.append_length (value : Byte) (h : p.chars.length = 3) : w.append p value =
    if 48 < value.toNat then
      { w with receiver := .hunting, frame := none, formatDiscards := min (w.formatDiscards + 1) 65535 }
    else { w with frame := some (p.grown value) } := by
  obtain ⟨address, addressing, capture, chars⟩ := p
  match chars, h with
  | [_, _, _], _ => rfl

/-- From the fifth character on the length says which one is the last. -/
theorem Wli.append_body {more : List Byte} (value : Byte) (h : p.chars = source :: tag :: kind :: n :: more) :
    w.append p value =
      if p.chars.length + 1 = n.toNat + 6 then w.finishFrame (p.grown value)
      else { w with frame := some (p.grown value) } := by
  have length : (p.chars ++ [value]).length = p.chars.length + 1 := List.length_append
  obtain ⟨address, addressing, capture, chars⟩ := p
  subst h
  rw [← length]
  cases more <;> rfl

/-- Settles O11: by the receiver's state, and while RECEIVING by the place of the character in its frame. -/
theorem dataCharactersAreTaken : Obligations.DataCharactersAreTaken := by
  refine ⟨fun value s p ht hr hf hl => ?_, fun value s p ht hr hf hl => ?_,
    fun value s p a b c n more ht hr hf hc hl => ?_, fun value s ht hr => ?_, fun value s ht hr => ?_⟩
  · rw [execDataCharacter_receiving value ht hr hf, Wli.append_header value hl]
    rfl
  · rw [execDataCharacter_receiving value ht hr hf, Wli.append_length value hl]
    rfl
  · rw [execDataCharacter_receiving value ht hr hf, Wli.append_body value hc, if_neg (Nat.ne_of_lt hl)]
    rfl
  · exact execDataCharacter_trailing value ht hr
  · exact execDataCharacter_hunting value ht hr

/-! ## The last character of a frame (R174, R177) -/

/-- The receiver at the end of a frame. -/
def Wli.trailed (w : Wli) : Wli := { w with receiver := .trailing, frame := none }

/-- The frame that a complete reception makes. -/
def PartialFrame.completed (p : PartialFrame) (src : Source) (tag kind : Byte) (args : List Byte) : Frame :=
  ⟨p.address, p.addressing, p.capture, src, tag, kind, args⟩

/-- The characters of a frame but its CRC. -/
def frameBody (source tag kind n : Byte) (args : List Byte) : List Byte := [source, tag, kind, n] ++ args

/-- What the last character does: the CRC-16 of the body, then the source, decide. -/
theorem Wli.finishFrame_eq (hp : p.chars = frameBody source tag kind n args ++ [hi, lo]) : w.finishFrame p =
    if (crc16 (frameBody source tag kind n args)).toNat ≠ 256 * hi.toNat + lo.toNat then
      { w.trailed with crcDiscards := min (w.crcDiscards + 1) 65535 }
    else (Source.ofCode source.toNat).elim { w.trailed with formatDiscards := min (w.formatDiscards + 1) 65535 }
      fun src => (w.trailed.heard src).enqueue (p.completed src tag kind args) := by
  have two : (frameBody source tag kind n args ++ [hi, lo]).length - 2 = (frameBody source tag kind n args).length := by
    simp
  have body : p.chars.take (p.chars.length - 2) = frameBody source tag kind n args := by
    rw [hp, two, List.take_left']
    rfl
  have crc : beNat (p.chars.drop (p.chars.length - 2)) = 256 * hi.toNat + lo.toNat := by
    rw [hp, two, List.drop_left', beNat_two]
    rfl
  unfold Wli.finishFrame
  simp only [body, crc]
  split
  · rfl
  · cases hs : Source.ofCode source.toNat <;> simp [frameBody, hs, Wli.trailed, PartialFrame.completed, bump]

theorem Source.ofCode_byte_one : Source.ofCode (1 : Byte).toNat = some .rc := rfl
theorem Source.ofCode_byte_two : Source.ofCode (2 : Byte).toNat = some .sc := rfl

/-- No other byte is a source (R174). -/
theorem Source.ofCode_other (h1 : source ≠ 1) (h2 : source ≠ 2) : Source.ofCode source.toNat = none := by
  have one : source.toNat ≠ 1 := fun h => h1 (BitVec.eq_of_toNat_eq h)
  have two : source.toNat ≠ 2 := fun h => h2 (BitVec.eq_of_toNat_eq h)
  unfold Source.ofCode
  split
  · next h => exact absurd h one
  · next h => exact absurd h two
  · rfl

/-- The last character of a frame is the one that its length says. -/
theorem execDataCharacter_last (lo : Byte) (ht : s.wli.transmitting = false) (hr : s.wli.receiver = .receiving)
    (ha : args.length = n.toNat)
    (hf : s.wli.frame = some { p with chars := [source, tag, kind, n] ++ args ++ [hi] }) :
    exec (.dataCharacter lo) s = .next (s.setWli
      (if (crc16 (frameBody source tag kind n args)).toNat ≠ 256 * hi.toNat + lo.toNat then
        { s.wli.stirred.trailed with crcDiscards := min (s.wli.crcDiscards + 1) 65535 }
      else (Source.ofCode source.toNat).elim
        { s.wli.stirred.trailed with formatDiscards := min (s.wli.formatDiscards + 1) 65535 }
        fun src => (s.wli.stirred.trailed.heard src).enqueue (p.completed src tag kind args))) := by
  obtain ⟨q, hq⟩ : ∃ q : PartialFrame, q = { p with chars := [source, tag, kind, n] ++ args ++ [hi] } := ⟨_, rfl⟩
  have chars : q.chars = source :: tag :: kind :: n :: (args ++ [hi]) := by rw [hq]; simp
  have last : q.chars.length + 1 = n.toNat + 6 := by rw [chars]; simp [ha]
  have whole : (q.grown lo).chars = frameBody source tag kind n args ++ [hi, lo] := by
    rw [PartialFrame.grown, chars]; simp [frameBody]
  rw [execDataCharacter_receiving lo ht hr (hf.trans (congrArg some hq.symm)), Wli.append_body lo chars, if_pos last,
    Wli.finishFrame_eq whole, hq]
  rfl

/-- Settles O12: the CRC-16 decides first, then the source, then the room in the queue. -/
theorem completeFramesAreQueued : Obligations.CompleteFramesAreQueued := by
  intro s p source tag kind n hi lo args ht hr ha hf
  have last := execDataCharacter_last lo ht hr ha hf
  refine ⟨fun crc => ?_, fun crc => last.trans (congrArg (Host.Outcome.next ∘ s.setWli) (if_pos crc))⟩
  replace last := last.trans (congrArg (Host.Outcome.next ∘ s.setWli) (if_neg (not_not.2 crc)))
  refine ⟨fun hs => ?_, fun hs => ?_, fun h1 h2 => ?_⟩
  · rw [hs, Source.ofCode_byte_one] at last
    exact last
  · rw [hs, Source.ofCode_byte_two] at last
    exact last
  · rw [Source.ofCode_other h1 h2] at last
    exact last

end Sys2Proof.Machine
end

section
/-! PROOF. O13: responses on the line and the link rate (R176, R179). -/

namespace Sys2Proof.Machine

variable {s : State}

theorem canRespond_iff (s : State) (quiet : Nat) : canRespond s quiet = true ↔
    s.wli.outgoing ≠ [] ∧ s.wli.transmitting = false ∧ s.wli.receiver ≠ .receiving ∧ (2 ≤ quiet ∨ 2 ≤ s.wli.quiet) := by
  simp [canRespond, quietTime_ge_iff, and_assoc]

theorem execResponseStart_due (quiet : Nat) (h : canRespond s quiet = true) :
    exec (.responseStart quiet) s = .next { s with wli := { s.wli with transmitting := true } } :=
  congrArg Host.Outcome.next (if_pos h)

theorem execResponseStart_idle (quiet : Nat) (h : ¬canRespond s quiet = true) :
    exec (.responseStart quiet) s = .next s := congrArg Host.Outcome.next (if_neg h)

theorem linkRateDue_iff (s : State) : linkRateDue s = true ↔
    s.startUp.phase = .complete ∧ s.wli.linkRate ≠ s.params.linkRate ∧ s.wli.outgoing = [] ∧
      s.wli.receiver = .hunting := by
  simp [linkRateDue, startingUp, and_assoc]

theorem execLinkRateApply_due (h : linkRateDue s = true) :
    exec .linkRateApply s = .next { s with wli := { s.wli with linkRate := s.params.linkRate } } :=
  congrArg Host.Outcome.next (if_pos h)

theorem execLinkRateApply_idle (h : ¬linkRateDue s = true) : exec .linkRateApply s = .next s :=
  congrArg Host.Outcome.next (if_neg h)

/-- Settles O13: each row by the condition on which it is due. -/
theorem responsesAreSent : Obligations.ResponsesAreSent := by
  refine ⟨fun quiet s ho ht hr hq => ?_, fun quiet s h => ?_, fun s r rest ht ho => ?_, fun s hc ho hr => ?_, fun s h => ?_⟩
  · exact execResponseStart_due quiet ((canRespond_iff s quiet).2 ⟨ho, ht, hr, .inl hq⟩)
  · refine execResponseStart_idle quiet fun hd => ?_
    obtain ⟨ho, ht, hr, hq⟩ := (canRespond_iff s quiet).1 hd
    rcases h with h | h | h | ⟨h1, h2⟩
    · exact ho h
    · exact absurd (ht.symm.trans h) nofun
    · exact hr h
    · omega
  · simp [exec, execResponseSent, ht, ho, State.setWli]
  · by_cases same : s.wli.linkRate = s.params.linkRate
    · have idle : ¬linkRateDue s = true := fun hd => by
        obtain ⟨-, changed, -⟩ := (linkRateDue_iff s).1 hd
        exact changed same
      rw [execLinkRateApply_idle idle, ← same]
    · exact execLinkRateApply_due ((linkRateDue_iff s).2 ⟨hc, same, ho, hr⟩)
  · refine execLinkRateApply_idle fun hd => ?_
    obtain ⟨-, -, ho, hr⟩ := (linkRateDue_iff s).1 hd
    exact h.elim (· ho) (· hr)

end Sys2Proof.Machine
end

section
/-! PROOF. O6: a unicast frame that waits for room, or is answered STARTING (R175, R191). -/

namespace Sys2Proof.Machine

variable {k : Kind} {f : Frame} {rest : List Frame} {s : State} {handle : Handler}

/-- Start-up takes a unicast frame off the queue and answers it, without asking the owner of its kind (R191). -/
theorem takeRequest_starting (hq : s.wli.queue = f :: rest) (hk : f.kind.toNat = k.code) (hu : f.addressing = .unicast)
    (ho : s.wli.outgoing.length < 2) (hs : s.startUp.phase ≠ .complete) :
    takeRequest (some k) handle s = answered f .starting [] { s with wli := { s.wli with queue := rest } } := by
  have takes : Kind.ofCode f.kind = some k ∧ takable s f = true := ⟨Kind.ofCode_eq hk, by simp [takable, hu, ho]⟩
  have starts : startingUp (modWli s fun w => { w with queue := rest }) = true := by simpa [startingUp] using hs
  unfold takeRequest
  rw [hq]
  simp only [if_pos takes, takeFrame, hu, if_pos starts]
  rfl

/-- Settles O6: the outgoing list decides whether the frame is taken, start-up how it is answered. -/
theorem unicastWaitsAndAnswersStarting : Obligations.UnicastWaitsAndAnswersStarting := by
  intro k f rest s hq hk hu
  obtain ⟨handle, he⟩ := exec_command k s
  rw [he]
  exact ⟨fun ho => congrArg _ (takeRequest_full hq hu ho), fun ho hs => congrArg _ (takeRequest_starting hq hk hu ho hs)⟩

end Sys2Proof.Machine
end

section
/-! PROOF. O14: the records of STATUS and SHOW_STATUS (R178, R186). -/

namespace Sys2Proof.Machine

variable {f : Frame} {rest : List Frame} {s : State}

/-! ## Fields of the records -/

theorem be1_flag (b : Bool) : be1 b.toNat = [if b then (1 : Byte) else 0] := by cases b <;> rfl

theorem flatMap_be1 {α : Type} (l : List α) (f : α → Nat) :
    (l.flatMap fun i => be1 (f i)) = l.map fun i => BitVec.ofNat 8 (f i) := List.flatMap_pure_eq_map ..

/-- Kind k stands in bit k - 1 of a set of fault kinds. -/
theorem kindMask_eq_sum (set : List FaultKind) :
    kindMask set = (FaultKind.all.map fun k => if k ∈ set then 2 ^ (k.code - 1) else 0).sum := by
  have weight (k : FaultKind) (n : Nat) : (if k ∈ set then n else 0) = n * (set.contains k).toNat := by
    by_cases h : k ∈ set <;> simp [h]
  simp only [kindMask, weight, bits, FaultKind.all, List.map_cons, List.map_nil, List.foldr_cons, List.foldr_nil,
    List.sum_cons, List.sum_nil, FaultKind.code]
  ring

theorem firstFaultBytes_some (r : FaultRecord) : firstFaultBytes (some r) =
    [1, BitVec.ofNat 8 r.kind.code, BitVec.ofNat 8 r.sub.code] ++ be2 r.detail ++ be3 r.position ++ be4 r.showMs ++
      [BitVec.ofNat 8 r.mode.code] := rfl

theorem firstFaultBytes_length (first : Option FaultRecord) : (firstFaultBytes first).length = 13 := by
  cases first <;> rfl

theorem expectedMarkerId_eq (s : State) : expectedMarkerId s =
    (s.tracker.expected.bind fun i => s.tables.markers.inUse[i]?).elim 0 Marker.id := by
  unfold expectedMarkerId
  cases s.tracker.expected.bind fun i => s.tables.markers.inUse[i]? <;> rfl

theorem lastDcSpeed_eq (d : Dli) : lastDcSpeed d = d.lastAccepted.elim 0 fun r =>
    if r.forward then ((min r.speed 32767 : Nat) : Int) else -((min r.speed 32767 : Nat) : Int) := by
  unfold lastDcSpeed
  cases d.lastAccepted <;> simp

theorem voiceFlags_eq (v : Voice) :
    be1 (voiceFlags (some v)) = [v.timing.elim (0 : Byte) fun tm => if tm.unsynced then 3 else 2] := by
  cases ht : v.timing with
  | none => simp [voiceFlags, ht, be1]
  | some tm => cases hu : tm.unsynced <;> simp [voiceFlags, ht, hu, be1, bits]

theorem voiceSummary_some (v : Voice) : voiceSummary (some v) =
    [BitVec.ofNat 8 (voiceCode (some v)), BitVec.ofNat 8 v.clip,
      v.timing.elim (0 : Byte) fun tm => if tm.unsynced then 3 else 2] := by
  rw [voiceSummary, voiceFlags_eq]
  rfl

theorem voiceSummary_length (v : Option Voice) : (voiceSummary v).length = 3 := rfl

/-! ## The records -/

theorem be1_length (n : Nat) : (be1 n).length = 1 := rfl
theorem beInt2_length (i : Int) : (beInt2 i).length = 2 := rfl
theorem beInt3_length (i : Int) : (beInt3 i).length = 3 := rfl
theorem flag_length (b : Bool) : (flag b).length = 1 := rfl

theorem statusRecord_length (s : State) : (statusRecord s).length = 72 := by
  have seats : (allSeats.flatMap fun i => be1 (seatState s i).code).length = 8 := rfl
  unfold statusRecord
  simp only [List.length_append, seats, be1_length, be2_length, be3_length, beInt2_length, beInt3_length, flag_length,
    firstFaultBytes_length]

theorem showStatusRecord_length (s : State) : (showStatusRecord s).length = 32 := by
  have voices : (allVoices.flatMap fun i => voiceSummary (voiceAt s i)).length = 18 := rfl
  unfold showStatusRecord
  simp only [List.length_append, voices, be1_length, be2_length, be3_length]

/-- No field of the record is of the request queue or of a preface slot. -/
theorem statusRecord_taken : statusRecord (taken s f rest) = statusRecord s := by
  unfold statusRecord
  simp only [expectedMarkerId, seatState, taken_mode, taken_heldFrom, taken_berthed, taken_berthReached, taken_advance,
    taken_protectionFaults, taken_dispatchCount, taken_permit, taken_tracker, taken_tables, taken_restraint, taken_store,
    taken_clock, taken_dli, taken_wli]

theorem showStatusRecord_taken : showStatusRecord (taken s f rest) = showStatusRecord s := by
  unfold showStatusRecord
  simp only [voiceAt, taken_mode, taken_tracker, taken_cues, taken_sound, taken_clock]

theorem allSeats_eq : allSeats = List.finRange 8 := by decide
theorem allVoices_eq : allVoices = List.finRange 6 := by decide

theorem handleStatus_eq (s : State) : handleStatus [] s = ⟨.done, statusRecord s, s⟩ := rfl
theorem handleShowStatus_eq (s : State) : handleShowStatus [] s = ⟨.done, showStatusRecord s, s⟩ := rfl
theorem handleStatus_refuses {args : List Byte} (h : args ≠ []) (s : State) :
    handleStatus args s = ⟨.argument, [], s⟩ := if_neg h
theorem handleShowStatus_refuses {args : List Byte} (h : args ≠ []) (s : State) :
    handleShowStatus args s = ⟨.argument, [], s⟩ := if_neg h

/-- Settles O14: each record, field by field; arguments are refused. -/
theorem statusRecordsAreAnswered : Obligations.StatusRecordsAreAnswered := by
  refine ⟨fun f rest s h ha => ?_, fun f rest s h ha => ?_, fun f rest s ha => ⟨fun h => ?_, fun h => ?_⟩⟩
  · refine ⟨_, requestRow_answers h ha (handleStatus_eq _), statusRecord_length _, ?_⟩
    rw [statusRecord_taken]
    unfold statusRecord
    simp only [be1_flag, flag, beq_iff_eq, kindMask_eq_sum, expectedMarkerId_eq, lastDcSpeed_eq, allSeats_eq,
      flatMap_be1]
    simp only [be1, List.append_assoc, List.cons_append, List.nil_append]
    cases s.permit.first <;> cases s.dli.lastAccepted <;>
      cases s.tracker.expected.bind fun i => s.tables.markers.inUse[i]? <;> rfl
  · refine ⟨_, requestRow_answers h ha (handleShowStatus_eq _), showStatusRecord_length _, ?_⟩
    rw [showStatusRecord_taken]
    unfold showStatusRecord
    simp only [allVoices_eq, voiceAt]
    refine congrArg (fun voices => be1 s.mc.mode.code ++ be3 (s.tracker.p / 10) ++ be1 s.cues.scene ++ be3 s.cues.timer ++
      voices ++ be1 s.cues.notices.length ++ be2 s.cues.lostNotices ++ be1 s.clock.state.code ++ be2 s.clock.steps)
      (List.flatMap_congr fun i _ => ?_)
    cases s.sound.voices[i] with
    | none => rfl
    | some v =>
      rw [voiceSummary_some]
      dsimp only
      cases v.timing <;> rfl
  · exact requestRow_answers h rfl (handleStatus_refuses ha _)
  · exact requestRow_answers h rfl (handleShowStatus_refuses ha _)

end Sys2Proof.Machine
end

section
/-! PROOF. O33: table entries read back from their bytes (R26, R27, R86, R87, R117, R186). -/

namespace Sys2Proof.Machine

/-! ## Fields read back from their bytes -/

theorem byte_toNat {n : Nat} (h : n < 256) : (BitVec.ofNat 8 n).toNat = n := by
  rw [BitVec.toNat_ofNat]
  exact Nat.mod_eq_of_lt h

theorem beNat_be1 {n : Nat} (h : n < 256) : beNat (be1 n) = n := by
  rw [be1, beNat_one, byte_toNat h]

theorem beInt_beInt2 {i : Int} (hlo : -32768 ≤ i) (hhi : i < 32768) : beInt (beInt2 i) = i := by
  have nat : beNat (beInt2 i) = (i % 65536).toNat := beNat_be2 (n := (i % 65536).toNat) (by omega)
  have length : (beInt2 i).length = 2 := rfl
  simp only [beInt, nat, length]
  split_ifs with h <;> omega

theorem Zone.ofCode_byte (z : Zone) : Zone.ofCode (BitVec.ofNat 8 z.code).toNat = some z := Zone.ofCode_code z
theorem HoldBehaviour.ofCode_byte (h : HoldBehaviour) : HoldBehaviour.ofCode (BitVec.ofNat 8 h.code).toNat = some h :=
  HoldBehaviour.ofCode_code h
theorem runIndex_byte_four (v : Fin 4) : runIndex 0 4 (BitVec.ofNat 8 v.val).toNat = some v := runIndex_voice v
theorem runIndex_byte_twelve (c : Fin 12) : runIndex 0 12 (BitVec.ofNat 8 c.val).toNat = some c := runIndex_channel c

/-! ## Segments, markers, clips -/

theorem Segment.parse_bytes (len : Nat) (g : Segment) (hl : len ≤ 2000000) (h : g.inRange len = true) :
    Segment.parse len g.bytes = some g := by
  have range := h
  simp only [Segment.inRange, Bool.and_eq_true, decide_eq_true_eq] at range
  obtain ⟨⟨⟨⟨start, low⟩, high⟩, ceiling⟩, scene⟩ := range
  have hstart : beNat (be3 g.start) = g.start := beNat_be3 (by omega)
  have hfeed : beInt (beInt2 g.feedforward) = g.feedforward := beInt_beInt2 (by omega) (by omega)
  have hceiling : beNat (be2 g.ceiling) = g.ceiling := beNat_be2 (by omega)
  have hscene : beNat (be1 g.scene) = g.scene := beNat_be1 (by omega)
  have parsed : Segment.parse len g.bytes =
      (Zone.ofCode (BitVec.ofNat 8 g.zone.code).toNat).bind fun zone =>
        (runIndex 0 4 (BitVec.ofNat 8 g.gainSet.val).toNat).bind fun gainSet =>
          let entry : Segment := ⟨beNat (be3 g.start), beInt (beInt2 g.feedforward), beNat (be2 g.ceiling), zone,
            beNat (be1 g.scene), gainSet⟩
          if entry.inRange len then some entry else none := rfl
  rw [parsed, Zone.ofCode_byte, runIndex_byte_four, hstart, hfeed, hceiling, hscene]
  exact if_pos h

theorem Marker.parse_bytes (m : Marker) (h : m.inRange = true) : Marker.parse m.bytes = some m := by
  have range := h
  simp only [Marker.inRange, Bool.and_eq_true, decide_eq_true_eq] at range
  obtain ⟨⟨⟨⟨-, id⟩, position⟩, -⟩, window⟩ := range
  have hid : beNat (be2 m.id) = m.id := beNat_be2 (by omega)
  have hposition : beNat (be3 m.position) = m.position := beNat_be3 (by omega)
  have hwindow : beNat (be2 m.window) = m.window := beNat_be2 (by omega)
  have parsed : Marker.parse m.bytes =
      let entry : Marker := ⟨beNat (be2 m.id), beNat (be3 m.position), beNat (be2 m.window)⟩
      if entry.inRange then some entry else none := rfl
  rw [parsed, hid, hposition, hwindow]
  exact if_pos h

theorem Clip.parse_bytes (c : Clip) (h : c.inRange = true) : Clip.parse c.bytes = some c := by
  obtain ⟨number, start, length, loopStart⟩ := c
  have range := h
  simp only [Clip.inRange, Bool.and_eq_true, decide_eq_true_eq] at range
  obtain ⟨⟨⟨⟨-, hn⟩, -⟩, region⟩, loops⟩ := range
  replace region : start + length ≤ 8257536 := region
  have hnumber : beNat (be1 number) = number := beNat_be1 (by omega)
  have hstart : beNat (be3 start) = start := beNat_be3 (by omega)
  have hlength : beNat (be3 length) = length := beNat_be3 (by omega)
  cases loopStart with
  | none =>
    have parsed : Clip.parse (Clip.bytes ⟨number, start, length, none⟩) =
        let entry : Clip := ⟨beNat (be1 number), beNat (be3 start), beNat (be3 length), none⟩
        if BitVec.ofNat 8 0 = (0 : Byte) ∧ entry.inRange then some entry else none := rfl
    rw [parsed, hnumber, hstart, hlength]
    exact if_pos ⟨rfl, h⟩
  | some l =>
    have hloop : beNat (be3 l) = l := by
      have below : l < length := of_decide_eq_true loops
      exact beNat_be3 (by omega)
    have parsed : Clip.parse (Clip.bytes ⟨number, start, length, some l⟩) =
        let entry : Clip := ⟨beNat (be1 number), beNat (be3 start), beNat (be3 length), some (beNat (be3 l))⟩
        if BitVec.ofNat 8 1 = (1 : Byte) ∧ entry.inRange then some entry else none := rfl
    rw [parsed, hnumber, hstart, hlength, hloop]
    exact if_pos ⟨rfl, h⟩

/-! ## Cue actions, with the bytes after them -/

/-- The bytes of a start mode of START_VOICE. -/
def CueStart.bytes : CueStart → List Byte
  | .now => be1 0
  | .grid period => be1 1 ++ be2 period

/-- The bytes of an operation of EFFECT. -/
def EffectOp.bytes : EffectOp → List Byte
  | .on => be1 0
  | .off => be1 1
  | .pulse time => be1 2 ++ be2 time

theorem CueStart.parse_bytes (start : CueStart) (rest : List Byte) (h : start.inRange = true) :
    CueStart.parse (start.bytes ++ rest) = some (start, rest) := by
  cases start with
  | now => rfl
  | grid period =>
    have hp : beNat (be2 period) = period := by
      simp only [CueStart.inRange, Bool.and_eq_true, decide_eq_true_eq] at h
      exact beNat_be2 (by omega)
    have parsed : CueStart.parse (CueStart.bytes (.grid period) ++ rest) = some (.grid (beNat (be2 period)), rest) := rfl
    rw [parsed, hp]

theorem EffectOp.parse_bytes (op : EffectOp) (rest : List Byte) (h : op.inRange = true) :
    EffectOp.parse (op.bytes ++ rest) = some (op, rest) := by
  cases op with
  | on => rfl
  | off => rfl
  | pulse time =>
    have ht : beNat (be2 time) = time := by
      simp only [EffectOp.inRange, Bool.and_eq_true, decide_eq_true_eq] at h
      exact beNat_be2 (by omega)
    have parsed : EffectOp.parse (EffectOp.bytes (.pulse time) ++ rest) = some (.pulse (beNat (be2 time)), rest) := rfl
    rw [parsed, ht]

/-- The bytes of an action after its kind byte. -/
def Action.fields : Action → List Byte
  | .startVoice v clip gain hold start => be1 v.val ++ be1 clip ++ be2 gain ++ be1 hold.code ++ start.bytes
  | .stopVoice v fade => be1 v.val ++ be2 fade
  | .setGain v target ramp => be1 v.val ++ be2 target ++ be2 ramp
  | .effect c op => be1 c.val ++ op.bytes
  | .notify code => [code]

/-- The kind byte of an action (R87). -/
def Action.kindByte : Action → Byte
  | .startVoice .. => 1
  | .stopVoice .. => 2
  | .setGain .. => 3
  | .effect .. => 4
  | .notify _ => 5

theorem Action.bytes_eq (a : Action) : a.bytes = a.kindByte :: a.fields := by
  cases a with
  | startVoice v clip gain hold start => cases start <;> rfl
  | effect c op => cases op <;> rfl
  | stopVoice | setGain | notify => rfl

/-- The fields of an action in its ranges are read back. -/
theorem Action.parseKind_fields (a : Action) (rest : List Byte) (h : a.inRange = true) :
    Action.parseKind a.kindByte (a.fields ++ rest) = some (a, rest) := by
  cases a with
  | startVoice v clip gain hold start =>
    simp only [Action.inRange, Bool.and_eq_true, decide_eq_true_eq] at h
    obtain ⟨⟨⟨-, hclip⟩, hgain⟩, hstart⟩ := h
    have clipRead : beNat (be1 clip) = clip := beNat_be1 (by omega)
    have gainRead : beNat (be2 gain) = gain := beNat_be2 (by omega)
    have parsed : Action.parseKind 1 (Action.fields (.startVoice v clip gain hold start) ++ rest) =
        (runIndex 0 4 (BitVec.ofNat 8 v.val).toNat).bind fun voice =>
          (HoldBehaviour.ofCode (BitVec.ofNat 8 hold.code).toNat).bind fun hold =>
            (CueStart.parse (start.bytes ++ rest)).map fun (start, rest) =>
              (.startVoice voice (beNat (be1 clip)) (beNat (be2 gain)) hold start, rest) := rfl
    rw [Action.kindByte, parsed, runIndex_byte_four, HoldBehaviour.ofCode_byte, CueStart.parse_bytes start rest hstart,
      clipRead, gainRead]
    rfl
  | stopVoice v fade =>
    simp only [Action.inRange, decide_eq_true_eq] at h
    have fadeRead : beNat (be2 fade) = fade := beNat_be2 (by omega)
    have parsed : Action.parseKind 2 (Action.fields (.stopVoice v fade) ++ rest) =
        (runIndex 0 4 (BitVec.ofNat 8 v.val).toNat).map fun voice => (.stopVoice voice (beNat (be2 fade)), rest) := rfl
    rw [Action.kindByte, parsed, runIndex_byte_four, fadeRead]
    rfl
  | setGain v target ramp =>
    simp only [Action.inRange, Bool.and_eq_true, decide_eq_true_eq] at h
    obtain ⟨htarget, hramp⟩ := h
    have targetRead : beNat (be2 target) = target := beNat_be2 (by omega)
    have rampRead : beNat (be2 ramp) = ramp := beNat_be2 (by omega)
    have parsed : Action.parseKind 3 (Action.fields (.setGain v target ramp) ++ rest) =
        (runIndex 0 4 (BitVec.ofNat 8 v.val).toNat).map fun voice =>
          (.setGain voice (beNat (be2 target)) (beNat (be2 ramp)), rest) := rfl
    rw [Action.kindByte, parsed, runIndex_byte_four, targetRead, rampRead]
    rfl
  | effect c op =>
    have parsed : Action.parseKind 4 (Action.fields (.effect c op) ++ rest) =
        (runIndex 0 12 (BitVec.ofNat 8 c.val).toNat).bind fun channel =>
          (EffectOp.parse (op.bytes ++ rest)).map fun (op, rest) => (.effect channel op, rest) := rfl
    rw [Action.kindByte, parsed, runIndex_byte_twelve, EffectOp.parse_bytes op rest h]
    rfl
  | notify code => rfl

theorem Action.parse_bytes (a : Action) (rest : List Byte) (h : a.inRange = true) :
    Action.parse (a.bytes ++ rest) = some (a, rest) := by
  rw [Action.bytes_eq, List.cons_append, Action.parse, Action.parseKind_fields a rest h]
  exact if_pos h

/-! ## Cues -/

theorem parseActions_bytes (actions : List Action) (h : actions.all Action.inRange = true) :
    parseActions actions.length (actions.flatMap Action.bytes) = some actions := by
  induction actions with
  | nil => rfl
  | cons a actions ih =>
    simp only [List.all_cons, Bool.and_eq_true] at h
    obtain ⟨ha, hall⟩ := h
    rw [List.flatMap_cons, List.length_cons, parseActions, Action.parse_bytes a _ ha]
    simp [ih hall]

theorem Trigger.parse_bytes (t : Trigger) (rest : List Byte) (h : t.inRange = true) :
    Trigger.parse (t.bytes ++ rest) = some (t, rest) := by
  cases t with
  | position mm =>
    simp only [Trigger.inRange, decide_eq_true_eq] at h
    have read : beNat (be3 mm) = mm := beNat_be3 (by omega)
    have parsed : Trigger.parse (Trigger.bytes (.position mm) ++ rest) = some (.position (beNat (be3 mm)), rest) := rfl
    rw [parsed, read]
  | scene n offset =>
    simp only [Trigger.inRange, Bool.and_eq_true, decide_eq_true_eq] at h
    obtain ⟨⟨-, hn⟩, hoffset⟩ := h
    have sceneRead : beNat (be1 n) = n := beNat_be1 (by omega)
    have offsetRead : beNat (be3 offset) = offset := beNat_be3 (by omega)
    have parsed : Trigger.parse (Trigger.bytes (.scene n offset) ++ rest) =
        some (.scene (beNat (be1 n)) (beNat (be3 offset)), rest) := rfl
    rw [parsed, sceneRead, offsetRead]

/-- RUN_ONLY is read back from its byte (log 42). -/
theorem parseFlag_byte (b : Bool) : parseFlag (BitVec.ofNat 8 b.toNat) = some b := by cases b <;> rfl

/-- What the bytes after a cue's trigger say. -/
theorem Cue.parse_header (i1 i0 runOnly count : Byte) (t : Trigger) (rest : List Byte) (h : t.inRange = true) :
    Cue.parse (i1 :: i0 :: (t.bytes ++ runOnly :: count :: rest)) =
      (parseFlag runOnly).bind fun runOnly => (parseActions count.toNat rest).bind fun actions =>
        if (⟨beNat [i1, i0], t, runOnly, actions⟩ : Cue).inRange then some ⟨beNat [i1, i0], t, runOnly, actions⟩
        else none := by
  rw [Cue.parse, Trigger.parse_bytes t _ h]
  rfl

theorem Cue.bytes_eq (c : Cue) : c.bytes = BitVec.ofNat 8 (c.id / 256) :: BitVec.ofNat 8 c.id ::
    (c.trigger.bytes ++ BitVec.ofNat 8 c.runOnly.toNat :: BitVec.ofNat 8 c.actions.length ::
      c.actions.flatMap Action.bytes) := by
  simp [Cue.bytes, be1, be2]

theorem Cue.parse_bytes (c : Cue) (h : c.inRange = true) : Cue.parse c.bytes = some c := by
  have range := h
  simp only [Cue.inRange, Bool.and_eq_true, decide_eq_true_eq] at range
  obtain ⟨⟨⟨⟨⟨-, hid⟩, htrigger⟩, -⟩, hcount⟩, hactions⟩ := range
  have idRead : beNat [BitVec.ofNat 8 (c.id / 256), BitVec.ofNat 8 c.id] = c.id := beNat_be2 (by omega)
  rw [Cue.bytes_eq, Cue.parse_header _ _ _ _ _ _ htrigger, idRead, parseFlag_byte, byte_toNat (by omega)]
  simp only [Option.bind_some, parseActions_bytes c.actions hactions]
  exact if_pos h

/-- Settles O33: each field by the reading of its bytes, the actions of a cue one after the other. -/
theorem tableEntriesRoundTrip : Obligations.TableEntriesRoundTrip :=
  ⟨Segment.parse_bytes, Marker.parse_bytes, Clip.parse_bytes, Cue.parse_bytes, Action.parse_bytes⟩

end Sys2Proof.Machine
end

section
/-! PROOF. O49: the start of a drive exchange, and the checks at its end (R181 to R183, R185). -/

namespace Sys2Proof.Machine

variable {s : State} {out : DriveRecord} {edges : Nat} {bytes body : List Byte} {r last : DcRecord}

/-! ## EXCHANGE_START (R183) -/

theorem execExchangeStart_idle (h : s.dli.outgoing = none) : exec .exchangeStart s =
    .next (s.setDli { s.dli with outgoing := some (driveRecordOf s), heldOver := false }) := by
  simp [exec, execExchangeStart, h]

theorem execExchangeStart_busy (h : s.dli.outgoing = some out) : exec .exchangeStart s = .next s := by
  simp [exec, execExchangeStart, h]

/-- The cycle count echoed is that of the last accepted record, 0 before the first. -/
theorem driveRecordOf_echo (echo : Byte) (h : echo = s.dli.lastAccepted.elim 0 DcRecord.cycle) : driveRecordOf s =
    if s.startUp.phase = .complete then
      ⟨echo, s.permit.level, s.permit.speedCeiling, s.permit.ceilingAhead, s.tracker.p / 10, s.steering.y⟩
    else ⟨echo, .emergency, 0, 0, 0, 0⟩ := by
  have echoed : (s.dli.lastAccepted.map (·.cycle)).getD 0 = echo := by
    rw [h]
    cases s.dli.lastAccepted <;> rfl
  unfold driveRecordOf
  rw [echoed]
  by_cases hc : s.startUp.phase = .complete <;> simp [startingUp, hc]

/-! ## The record that an exchange shifted in (R181) -/

theorem DcRecord.parse_length (h : DcRecord.parse bytes = some r) : bytes.length = 12 := by
  unfold DcRecord.parse at h
  split at h
  · rfl
  · exact absurd h nofun

theorem checkedRecord_bad (h : edges ≠ 96 ∨ bytes.length ≠ 12 ∨ bytes.drop 11 ≠ [crc8 (bytes.take 11)]) :
    checkedRecord edges bytes = none := by
  unfold checkedRecord
  split
  · next good =>
    obtain ⟨he, hc⟩ := good
    have agrees : bytes.drop 11 = [crc8 (bytes.take 11)] := by simpa [crc8Agrees] using hc
    have short : bytes.length ≠ 12 := (h.resolve_left (· he)).resolve_right (· agrees)
    cases hp : DcRecord.parse bytes with
    | none => rfl
    | some r => exact absurd (DcRecord.parse_length hp) short
  · rfl

/-- A record of 11 bytes with their CRC-8 passes the checks. -/
theorem checkedRecord_good (h : DcRecord.parse (body ++ [crc8 body]) = some r) :
    checkedRecord 96 (body ++ [crc8 body]) = some r := by
  have length : body.length = 11 := by simpa using DcRecord.parse_length h
  have agrees : crc8Agrees (body ++ [crc8 body]) = true := by
    simp [crc8Agrees, List.drop_left' length, List.take_left' length]
  exact (if_pos ⟨rfl, agrees⟩).trans h

/-! ## DRIVE_EXCHANGE (R181, R182, R185) -/

theorem execDriveExchange_idle (edges : Nat) (bytes : List Byte) (h : s.dli.outgoing = none) :
    exec (.driveExchange edges bytes) s = .next s := by
  simp [exec, execDriveExchange, h]

theorem execDriveExchange_busy (edges : Nat) (bytes : List Byte) (h : s.dli.outgoing = some out) :
    exec (.driveExchange edges bytes) s = .next (endExchange out edges bytes s) := by
  simp [exec, execDriveExchange, h]

theorem endExchange_bad (h : checkedRecord edges bytes = none) : endExchange out edges bytes s =
    s.setDli { s.dli.ended with badExchanges := min (s.dli.badExchanges + 1) 65535 } := by
  simp only [endExchange, h]
  rfl

theorem endExchange_duplicate (h : checkedRecord edges bytes = some r) (hd : s.dli.isDuplicate r = true) :
    endExchange out edges bytes s = s.setDli { s.dli.ended with duplicates := min (s.dli.duplicates + 1) 65535 } := by
  simp only [endExchange, h, if_pos hd]
  rfl

/-- The DLI once it has accepted a record, its exchange ended (R182). -/
def Dli.accepted (d : Dli) (r : DcRecord) : Dli := d.ended.accept r

theorem endExchange_alone (h : checkedRecord edges bytes = some r) (hd : s.dli.isDuplicate r = false)
    (ha : dliAlone s = true) : endExchange out edges bytes s = s.setDli (s.dli.accepted r) := by
  simp [endExchange, h, hd, ha, Dli.accepted]

theorem endExchange_passesOn (h : checkedRecord edges bytes = some r) (hd : s.dli.isDuplicate r = false)
    (ha : dliAlone s = false) :
    endExchange out edges bytes s = passOn r out.speedCeiling (s.setDli (s.dli.accepted r)) := by
  simp [endExchange, h, hd, ha, Dli.accepted]

theorem Dli.isDuplicate_some {d : Dli} (h : d.lastAccepted = some last) (hc : last.cycle = r.cycle) :
    d.isDuplicate r = true := by simp [Dli.isDuplicate, h, hc]

theorem Dli.isDuplicate_fresh {d : Dli} (h : ∀ last, d.lastAccepted = some last → last.cycle ≠ r.cycle) :
    d.isDuplicate r = false := by
  cases hl : d.lastAccepted with
  | none => simp [Dli.isDuplicate, hl]
  | some last => simpa [Dli.isDuplicate, hl] using h last hl

theorem dliAlone_iff : dliAlone s = true ↔ s.startUp.phase ≠ .complete ∨ s.dli.heldOver = true := by
  simp [dliAlone, startingUp]

/-- The exchanges missed are the cycle counts between the two records. -/
theorem Dli.accepted_eq (d : Dli) (r : DcRecord) : d.accepted r =
    { d with
      outgoing := none, heldOver := false, lastAccepted := some r, silence := 0, live := true
      missedExchanges := min (d.missedExchanges + d.lastAccepted.elim 0 fun last => (r.cycle - last.cycle - 1).toNat)
        65535 } := by
  unfold Dli.accepted Dli.accept Dli.gap Dli.ended
  cases d.lastAccepted <;> rfl

/-- Settles O49: whether an exchange is in progress, then the checks of its record in their order. -/
theorem driveExchangesAreChecked : Obligations.DriveExchangesAreChecked := by
  refine ⟨fun s echo ho he => ?_, fun s ho => ?_, fun s edges bytes ho => execDriveExchange_idle edges bytes ho,
    fun s edges bytes ho hb => ?_, fun s body r last ho hp hl hc => ?_, fun s body r ho ha hp hn => ?_⟩
  · have echoed : echo = s.dli.lastAccepted.elim 0 DcRecord.cycle := by
      rw [he]
      cases s.dli.lastAccepted <;> rfl
    rw [execExchangeStart_idle ho, driveRecordOf_echo echo echoed]
    rfl
  · obtain ⟨out, hout⟩ := Option.ne_none_iff_exists'.1 ho
    exact execExchangeStart_busy hout
  · obtain ⟨out, hout⟩ := Option.ne_none_iff_exists'.1 ho
    rw [execDriveExchange_busy edges bytes hout, endExchange_bad (checkedRecord_bad hb)]
    rfl
  · obtain ⟨out, hout⟩ := Option.ne_none_iff_exists'.1 ho
    rw [execDriveExchange_busy 96 _ hout, endExchange_duplicate (checkedRecord_good hp) (Dli.isDuplicate_some hl hc)]
    rfl
  · obtain ⟨out, hout⟩ := Option.ne_none_iff_exists'.1 ho
    rw [execDriveExchange_busy 96 _ hout,
      endExchange_alone (checkedRecord_good hp) (Dli.isDuplicate_fresh hn) (dliAlone_iff.2 ha), Dli.accepted_eq]
    cases s.dli.lastAccepted <;> rfl

end Sys2Proof.Machine
end

section
/-! SUPPORT. The moves of the vehicle in an exchange: the Position Tracker's part and the Steering Computer's update as chains of
the vehicle's operations, so that what each operation keeps is proved once for the chain (R30 to R57). -/

namespace Sys2Proof.Machine

variable {s t u : State}

/-- A chain of operations of the vehicle, of which none ends stationary or takes the DC's report. -/
inductive VehicleMoves : State → State → Prop where
  | refl (s : State) : VehicleMoves s s
  | trans {s t u : State} : VehicleMoves s t → VehicleMoves t u → VehicleMoves s u
  | shows {s t : State} : OnlyShow s t → VehicleMoves s t
  | tracks (s : State) (x : Tracker) : VehicleMoves s (s.setTracker x)
  | steers (s : State) (x : Steering) : x.guidePresent = s.steering.guidePresent → VehicleMoves s (s.setSteering x)
  | codes (s : State) (x : Vector Density 3) : VehicleMoves s (s.setDensity x)
  | advances (s : State) (x : Option Advance) : s.mc.advance ≠ none → VehicleMoves s (s.setMc { s.mc with advance := x })
  | counts (s : State) (n : Nat) : VehicleMoves s (s.setPermit { s.permit with overspeed := n })
  | formsAhead (s : State) : VehicleMoves s (formAhead s)
  | formsCeilings (s : State) : VehicleMoves s (formCeilings s)
  | formsLevel (s : State) : VehicleMoves s (refreshPermit s)
  | judgesRelease (s : State) : VehicleMoves s (judgeRelease s)
  | judgesBerth (s : State) : VehicleMoves s (evalBerth s)
  | judgesReady (s : State) : VehicleMoves s (evalReady s)
  | changesZone (s : State) : VehicleMoves s (zoneChange s)
  | faults (k : FaultKind) (sub : SubCause) (d : Nat) (s : State) : VehicleMoves s (takeFault k sub d s)

theorem VehicleMoves.ite {c : Prop} [Decidable c] (h : VehicleMoves s t) (k : VehicleMoves s u) :
    VehicleMoves s (if c then t else u) := by
  split
  · exact h
  · exact k

/-! ## Permit and position faults -/

theorem permitMoved_moves (s : State) : VehicleMoves s (permitMoved s) :=
  (VehicleMoves.formsLevel s).trans ((VehicleMoves.formsCeilings _).trans (.judgesRelease _))

/-- A position state that changed has the permit, the ceilings and the READY conditions formed again (R39, R34). -/
theorem reformed_moves (s : State) : VehicleMoves s (evalReady (formCeilings (refreshPermit s))) :=
  (VehicleMoves.formsLevel s).trans ((VehicleMoves.formsCeilings _).trans (.judgesReady _))

theorem positionFault_moves (sub : SubCause) (detail : Nat) (s : State) : VehicleMoves s (positionFault sub detail s) :=
  (VehicleMoves.tracks s _).trans ((VehicleMoves.shows (.setCues _ _)).trans
    ((VehicleMoves.faults _ sub detail _).trans (reformed_moves _)))

/-! ## Movements (R32) -/

/-- The end of an advance that is present. -/
theorem endAdvance_moves (h : s.mc.advance ≠ none) : VehicleMoves s (endAdvance s) :=
  (VehicleMoves.advances s none h).trans ((permitMoved_moves _).trans ((VehicleMoves.judgesBerth _).trans (.judgesReady _)))

theorem zoneReport_moves (s : State) : VehicleMoves s (zoneReport s) := by
  have changed := VehicleMoves.changesZone s
  refine VehicleMoves.trans (t := if advanceEndsHere (zoneChange s) then endAdvance (zoneChange s) else zoneChange s) ?_
    (.judgesBerth _)
  split
  · next ends =>
    exact changed.trans (endAdvance_moves fun hn => by simp [advanceEndsHere_none hn] at ends)
  · exact changed

theorem lookup_moves (s : State) : VehicleMoves s (lookup s) :=
  (VehicleMoves.tracks s _).trans ((VehicleMoves.formsAhead _).trans (zoneReport_moves _))

theorem rollbackCheck_moves (s : State) : VehicleMoves s (rollbackCheck s) :=
  .ite (.tracks s _) (.ite (positionFault_moves ..) (.refl s))

theorem movement_moves (before after : Nat) (forward wrap : Bool) (s : State) :
    VehicleMoves s (movement before after forward wrap s) :=
  (lookup_moves s).trans (.ite ((VehicleMoves.shows (cueMovement_only ..)).trans (rollbackCheck_moves _)) (.refl _))

theorem advanceTravel_moves (d : Int) (s : State) : VehicleMoves s (advanceTravel d s) := by
  unfold advanceTravel
  split
  · exact .refl s
  · next a ha =>
    have moved := VehicleMoves.advances s (some { a with remaining := a.remaining - d }) (by rw [ha]; exact nofun)
    exact .ite (moved.trans (endAdvance_moves nofun)) moved

theorem integrate_vehicleMoves (d : Int) (s : State) : VehicleMoves s (integrate d s) :=
  (VehicleMoves.tracks s _).trans ((VehicleMoves.ite (positionFault_moves ..) (.refl _)).trans (movement_moves ..))

/-! ## Marker reads (R33 to R37) -/

theorem acquire_moves (i : Nat) (m : Marker) (s : State) : VehicleMoves s (acquire i m s) := by
  rw [acquire_eq]
  exact (VehicleMoves.tracks s _).trans ((lookup_moves _).trans
    ((VehicleMoves.shows (cursorPlaced_only _)).trans (reformed_moves _)))

theorem missExpected_moves (s : State) : VehicleMoves s (missExpected s) := by
  unfold missExpected
  split
  · exact .refl s
  · exact .ite ((VehicleMoves.tracks s _).trans (positionFault_moves ..)) (.tracks s _)

theorem capture_moves (i : Nat) (m : Marker) (s : State) : VehicleMoves s (capture i m s).1 := by
  unfold capture correct
  dsimp only
  split
  · exact positionFault_moves ..
  · exact (VehicleMoves.tracks s _).trans ((VehicleMoves.tracks _ _).trans (movement_moves ..))

theorem placedAfter_moves (i : Nat) (m : Marker) (h : VehicleMoves s t) : VehicleMoves s (placedAfter i m t).1 := by
  unfold placedAfter
  split
  · exact h.trans (capture_moves ..)
  · exact h

/-- A read while SYNC, by its place after the expected marker (R35). -/
theorem placeRead_moves (i : Nat) (m : Marker) (s : State) : VehicleMoves s (placeRead i m s).1 := by
  have once := missExpected_moves s
  match place : readPlace s i with
  | 0 => rw [placeRead_expected place]; exact capture_moves ..
  | 1 => rw [placeRead_one place]; exact placedAfter_moves i m once
  | 2 => rw [placeRead_two place]; exact placedAfter_moves i m (.ite (once.trans (missExpected_moves _)) once)
  | k + 3 => rw [placeRead_order (by omega)]; exact positionFault_moves ..

theorem markerRead_moves (id : Nat) (s : State) : VehicleMoves s (markerRead id s).1 := by
  unfold markerRead
  repeat' split
  · exact .refl s
  · exact .tracks s _
  · exact .refl s
  · exact placeRead_moves ..
  · exact acquire_moves ..

theorem overdueCheck_moves (n : Nat) (s : State) : VehicleMoves s (overdueCheck n s) := by
  induction n generalizing s with
  | zero => exact .refl s
  | succ n ih => exact .ite ((missExpected_moves s).trans (ih _)) (.refl s)

theorem trackExchange_moves (distance : Int) (marker : Nat) (s : State) :
    VehicleMoves s (trackExchange distance marker s) := by
  have travelled := (advanceTravel_moves (clampedDistance distance) s).trans
    (integrate_vehicleMoves (clampedDistance distance) _)
  have read (b : Bool) (t : State) (h : VehicleMoves s t) :
      VehicleMoves s (if b then (t, false) else markerRead marker t).1 := by
    split
    · exact h
    · exact h.trans (markerRead_moves ..)
  exact .ite (.refl s) (.ite ((read _ _ travelled).trans (overdueCheck_moves ..)) (read _ _ travelled))

/-! ## Steering and overspeed (R45, R161) -/

theorem update_guidePresent (p : Params) (set : Fin 4) (f g d : Int) (now : Nat) (c : Steering) :
    ((c.first g).update p set f g d now).guidePresent = c.guidePresent := by
  unfold Steering.update Steering.first
  split <;> rfl

theorem steeringUpdate_moves (g d : Int) (s : State) : VehicleMoves s (steeringUpdate g d s) := by
  have faulted (k : FaultKind) (b : Bool) (t : State) (h : VehicleMoves s t) :
      VehicleMoves s (if b then takeFault k .none 0 t else t) := .ite (h.trans (.faults ..)) h
  exact faulted _ _ _ (faulted _ _ _ ((VehicleMoves.steers s _ (update_guidePresent ..)).trans (.codes _ _)))

theorem steerExchange_moves (guide distance : Int) (s : State) : VehicleMoves (guided guide s) (steerExchange guide distance s) :=
  .ite (steeringUpdate_moves ..) (.refl _)

theorem superviseSpeed_moves (speed ceiling : Nat) (s : State) : VehicleMoves s (superviseSpeed speed ceiling s) := by
  have counted := VehicleMoves.counts s (min (s.permit.overspeed + 1) 6)
  exact .ite (.refl s) (.ite (.ite (counted.trans (.faults ..)) counted) (.counts s 0))

end Sys2Proof.Machine
end

section
/-! SUPPORT. What the moves of an exchange leave of the Permit Unit and the guide report: the last DC report, the standstill
run, the RC speed limit, and that the vehicle stays online (R47, R159, R162, R164). -/

namespace Sys2Proof.Machine

variable {s t u : State}

/-- The items that neither a fault nor a mode change nor the forming of the permit moves. -/
structure ItemsKept (s t : State) : Prop where
  rcLimit : t.permit.rcLimit = s.permit.rcLimit
  stationary : t.permit.stationary = s.permit.stationary
  standstill : t.permit.standstill = s.permit.standstill
  reportSpeed : t.permit.reportSpeed = s.permit.reportSpeed
  reportBrake : t.permit.reportBrake = s.permit.reportBrake
  reportFault : t.permit.reportFault = s.permit.reportFault
  reportCode : t.permit.reportCode = s.permit.reportCode
  guidePresent : t.steering.guidePresent = s.steering.guidePresent
  online : StaysOnline s t

theorem ItemsKept.refl (s : State) : ItemsKept s s := ⟨rfl, rfl, rfl, rfl, rfl, rfl, rfl, rfl, id⟩

theorem ItemsKept.trans (h : ItemsKept s t) (k : ItemsKept t u) : ItemsKept s u :=
  ⟨k.rcLimit.trans h.rcLimit, k.stationary.trans h.stationary, k.standstill.trans h.standstill,
    k.reportSpeed.trans h.reportSpeed, k.reportBrake.trans h.reportBrake, k.reportFault.trans h.reportFault,
    k.reportCode.trans h.reportCode, k.guidePresent.trans h.guidePresent, k.online ∘ h.online⟩

theorem ItemsKept.ite {c : Prop} [Decidable c] (h : ItemsKept s t) (k : ItemsKept s u) :
    ItemsKept s (if c then t else u) := by
  split
  · exact h
  · exact k

/-- The permit was formed again, and the Steering Computer kept its guide report. -/
theorem ItemsKept.of_formed (hp : PermitFormed s.permit t.permit) (hg : t.steering.guidePresent = s.steering.guidePresent)
    (ho : StaysOnline s t) : ItemsKept s t :=
  ⟨hp.rcLimit, hp.stationary, hp.standstill, hp.reportSpeed, hp.reportBrake, hp.reportFault, hp.reportCode, hg, ho⟩

theorem ItemsKept.of_blocks (hp : t.permit = s.permit) (hg : t.steering.guidePresent = s.steering.guidePresent)
    (hm : t.mc.mode = s.mc.mode) : ItemsKept s t :=
  .of_formed (by rw [hp]; exact .refl _) hg fun h => by rwa [hm]

theorem StaysOnline.of_mode (h : t.mc.mode = s.mc.mode) : StaysOnline s t := fun ho => by rwa [h]

/-! ## Permit and modes -/

theorem refreshPermit_items (s : State) : ItemsKept s (refreshPermit s) :=
  .of_formed (refreshPermit_formed s) (by rw [refreshPermit_steering]) (.of_mode (by rw [refreshPermit_mc]))

theorem formCeilings_items (s : State) : ItemsKept s (formCeilings s) :=
  .of_formed (formCeilings_formed s) (by rw [formCeilings_steering]) (.of_mode (by rw [formCeilings_mc]))

theorem formAhead_items (s : State) : ItemsKept s (formAhead s) :=
  .of_formed (formAhead_formed s) (by rw [formAhead_steering]) (.of_mode (by rw [formAhead_mc]))

theorem judgeRelease_items (s : State) : ItemsKept s (judgeRelease s) :=
  .of_blocks (judgeRelease_permit s) (by rw [judgeRelease_steering]) (by rw [judgeRelease_mc])

theorem permitMoved_items (s : State) : ItemsKept s (permitMoved s) :=
  (refreshPermit_items s).trans ((formCeilings_items _).trans (judgeRelease_items _))

theorem react_guidePresent (mode : Mode) (active : List FaultKind) (now : Nat) (c : Steering) :
    (c.react mode active now).guidePresent = c.guidePresent := by
  unfold Steering.react
  split <;> (repeat' split) <;> rfl

theorem tellBlocks_guidePresent (old new : Mode) (s : State) :
    (tellBlocks old new s).steering.guidePresent = s.steering.guidePresent := by
  unfold tellBlocks
  dsimp only
  split_ifs <;>
    simp [Steering.track, Steering.rest, steeringReact, react_guidePresent, handCode, densityStart, densityStop]

theorem enterMode_items {new : Mode} (held : HeldFrom) (s : State) (h : new ≠ .offline) :
    ItemsKept s (enterMode new held s) := by
  refine .of_formed (enterMode_formed new held s) ?_ fun _ => by rw [enterMode_mode]; exact h
  simp only [enterMode, dispatchScene_steering, releaseAtModeChange_steering, formCeilings_steering]
  rw [refreshPermit_steering]
  exact tellBlocks_guidePresent ..

/-! ## Faults and the READY conditions -/

theorem recordFault_items (k : FaultKind) (sub : SubCause) (d : Nat) (s : State) : ItemsKept s (recordFault k sub d s) := by
  unfold recordFault
  dsimp only [modPermit_eq]
  split <;> exact ⟨rfl, rfl, rfl, rfl, rfl, rfl, rfl, rfl, id⟩

theorem steeringReact_items (s : State) : ItemsKept s (steeringReact s) := .of_blocks rfl (react_guidePresent ..) rfl

theorem raiseFault_items (k : FaultKind) (sub : SubCause) (d : Nat) (s : State) : ItemsKept s (raiseFault k sub d s) := by
  have recorded := recordFault_items k sub d s
  unfold raiseFault
  dsimp only
  split
  · exact recorded
  · exact recorded.trans (steeringReact_items _)
  all_goals exact recorded.trans (enterMode_items _ _ (by decide))

theorem rcCheck_items (s : State) : ItemsKept s (rcCheck s) := by
  have reported : ItemsKept s (modWli s fun w => { w with rcReported := true }) := .of_blocks rfl rfl rfl
  exact .ite (reported.trans (raiseFault_items ..)) (.refl s)

theorem takeFault_items (k : FaultKind) (sub : SubCause) (d : Nat) (s : State) : ItemsKept s (takeFault k sub d s) :=
  .ite (raiseFault_items ..) ((raiseFault_items ..).trans (rcCheck_items _))

theorem changeMode_items {new : Mode} (held : HeldFrom) (s : State) (h : new ≠ .offline) :
    ItemsKept s (changeMode new held s) := (enterMode_items held s h).trans (rcCheck_items _)

theorem evalReady_items (s : State) : ItemsKept s (evalReady s) := by
  unfold evalReady
  split
  · exact .ite (changeMode_items _ s (by decide)) (.refl s)
  · exact .ite (.refl s) (changeMode_items _ s (by decide))
  all_goals exact .refl s

theorem evalBerth_items (s : State) : ItemsKept s (evalBerth s) := by
  have berthed : ItemsKept s (modMc s fun m => { m with berthed := true, berthReached := true }) := .of_blocks rfl rfl rfl
  exact .ite (berthed.trans (permitMoved_items _)) (.refl s)

theorem zoneChange_items (s : State) : ItemsKept s (zoneChange s) :=
  .ite (changeMode_items _ s (by decide)) (.ite ((changeMode_items _ s (by decide)).trans (evalReady_items _)) (.refl s))

/-! ## The chain, and the end of stationary -/

theorem VehicleMoves.items (h : VehicleMoves s t) : ItemsKept s t := by
  induction h with
  | refl s => exact .refl s
  | trans _ _ ih₁ ih₂ => exact ih₁.trans ih₂
  | shows h => exact .of_blocks h.permit (by rw [h.steering]) (by rw [h.mc])
  | tracks | codes | advances => exact .of_blocks rfl rfl rfl
  | steers s x hx => exact .of_blocks rfl hx rfl
  | counts => exact ⟨rfl, rfl, rfl, rfl, rfl, rfl, rfl, rfl, id⟩
  | formsAhead s => exact formAhead_items s
  | formsCeilings s => exact formCeilings_items s
  | formsLevel s => exact refreshPermit_items s
  | judgesRelease s => exact judgeRelease_items s
  | judgesBerth s => exact evalBerth_items s
  | judgesReady s => exact evalReady_items s
  | changesZone s => exact zoneChange_items s
  | faults k sub d s => exact takeFault_items k sub d s

/-- The vehicle as it stops being stationary, before the permit hears of it (R4, R10). -/
def unrested (s : State) : State :=
  modMc (modPermit s fun u => { u with stationary := false, standstill := none }) fun m => { m with berthed := false }

theorem stopStationary_eq (s : State) : stopStationary s = evalReady (permitMoved (unrested s)) := rfl

theorem stopStationary_items (s : State) : ItemsKept (unrested s) (stopStationary s) :=
  (permitMoved_items _).trans (evalReady_items _)

end Sys2Proof.Machine
end

section
/-! SUPPORT. A release in progress through the moves of an exchange (R79): it goes on while the vehicle is stationary, and ends
with the end of stationary. -/

namespace Sys2Proof.Machine

variable {s t u : State}

/-! ## A release that rides -/

/-- Outside start-up a stationary vehicle is online, its release condition holds, and a seat lacks readiness. -/
structure ReleaseRides (s : State) : Prop where
  running : s.startUp.phase = .complete
  online : s.mc.mode ≠ .offline
  stationary : s.permit.stationary = true
  berth : BerthHeld s
  stands : ReleaseStands s

/-- A release that rides is left alone, and goes on riding. -/
structure RidesOn (s t : State) : Prop where
  restraint : ReleaseRides s → t.restraint = s.restraint
  rides : ReleaseRides s → ReleaseRides t

theorem RidesOn.refl (s : State) : RidesOn s s := ⟨fun _ => rfl, id⟩

theorem RidesOn.trans (h : RidesOn s t) (k : RidesOn t u) : RidesOn s u :=
  ⟨fun r => (k.restraint (h.rides r)).trans (h.restraint r), k.rides ∘ h.rides⟩

theorem RidesOn.ite {c : Prop} [Decidable c] (h : RidesOn s t) (k : RidesOn s u) : RidesOn s (if c then t else u) := by
  split
  · exact h
  · exact k

/-- It is enough to show what the move does to a release that rides. -/
theorem RidesOn.of (h : ReleaseRides s → RidesOn s t) : RidesOn s t := ⟨fun r => (h r).restraint r, fun r => (h r).rides r⟩

/-- Start-up, the Restraint Monitor, the level and the stationary condition stay, and the Mode Controller's items that a release
is judged by. -/
theorem RidesOn.of_blocks (hu : t.startUp = s.startUp) (hm : t.mc = s.mc) (hr : t.restraint = s.restraint)
    (hl : t.permit.level = s.permit.level) (hs : t.permit.stationary = s.permit.stationary) : RidesOn s t where
  restraint _ := hr
  rides r :=
    { running := by rw [hu]; exact r.running
      online := by rw [hm]; exact r.online
      stationary := hs.trans r.stationary
      berth := (BerthKept.of_mc hm hs).held r.berth
      stands := r.stands.of_blocks hm hr (by rw [hl]; exact r.stands.still) hs }

/-! ## Permit -/

theorem refreshPermit_ridesOn (s : State) : RidesOn s (refreshPermit s) where
  restraint r := (refreshPermit_stands r.stands).1
  rides r :=
    { running := by rw [refreshPermit_startUp]; exact r.running
      online := by rw [refreshPermit_mc]; exact r.online
      stationary := (refreshPermit_formed s).stationary.trans r.stationary
      berth := (refreshPermit_berthKept s).held r.berth
      stands := (refreshPermit_stands r.stands).2 }

theorem formCeilings_ridesOn (s : State) : RidesOn s (formCeilings s) :=
  .of_blocks (formCeilings_startUp s) (formCeilings_mc s) (formCeilings_restraint s) rfl rfl

theorem formAhead_ridesOn (s : State) : RidesOn s (formAhead s) :=
  .of_blocks (formAhead_startUp s) (formAhead_mc s) (formAhead_restraint s) (by unfold formAhead; split <;> rfl)
    (formAhead_formed s).stationary

theorem judgeRelease_ridesOn (s : State) : RidesOn s (judgeRelease s) :=
  .of fun r => by rw [judgeRelease_allowed r.stands.allowed]; exact .refl s

theorem permitMoved_ridesOn (s : State) : RidesOn s (permitMoved s) :=
  (refreshPermit_ridesOn s).trans ((formCeilings_ridesOn _).trans (judgeRelease_ridesOn _))

/-! ## Mode changes and faults -/

/-- LOAD and HALT ask of a release the level and the stationary condition alone (R79). -/
theorem ReleaseAllowed.of_mode (hm : s.mc.mode = .load ∨ s.mc.mode = .halt) (hl : s.permit.level.still = true)
    (hs : s.permit.stationary = true) : ReleaseAllowed s where
  permit := (still_iff _).1 hl
  ground _ := hs
  unload hu := by rcases hm with hm | hm <;> exact absurd (hm.symm.trans hu) nofun
  hold hh := by rcases hm with hm | hm <;> exact absurd (hm.symm.trans hh) nofun
  run := by rcases hm with hm | hm <;> rw [hm] <;> exact nofun

/-- After a mode change a seat without readiness keeps the permit at STOP or EMERGENCY (R155). -/
theorem enterMode_still (new : Mode) (held : HeldFrom) (hc : s.startUp.phase = .complete) (hu : ¬SeatsReady s) :
    (enterMode new held s).permit.level.still = true := by
  obtain ⟨v, hv⟩ : ∃ v, v = tellBlocks s.mc.mode new (modMc s (ModeController.enter new held)) := ⟨_, rfl⟩
  have running : v.startUp.phase = .complete := by rw [hv, tellBlocks_startUp]; exact hc
  have rest : v.restraint = s.restraint := by rw [hv, tellBlocks_entered]
  have unready : ¬SeatsReady v := by simpa only [SeatsReady, seatState, rest] using hu
  have level : (enterMode new held s).permit.level = (refreshPermit v).permit.level := by
    unfold enterMode
    dsimp only
    rw [dispatchScene_permit, releaseAtModeChange_permit, hv]
    rfl
  rw [level, refreshPermit_level running]
  exact permitLevelOf_unready unready

/-- A mode change into LOAD or HALT that leaves the release alone lets it ride on. -/
theorem enterMode_ridesOn {new : Mode} (held : HeldFrom) (hn : new = .load ∨ new = .halt)
    (hr : ReleaseRides s → (enterMode new held s).restraint = s.restraint) : RidesOn s (enterMode new held s) where
  restraint := hr
  rides r :=
    have mode := enterMode_mode new held s
    have items := enterMode_items (new := new) held s (by rcases hn with hn | hn <;> rw [hn] <;> exact nofun)
    have stationary := items.stationary.trans r.stationary
    { running := by rw [enterMode_startUp]; exact r.running
      online := items.online r.online
      stationary := stationary
      berth := enterMode_berthHeld new held s
      stands :=
        { allowed := .of_mode (by rw [mode]; exact hn) (enterMode_still new held r.running r.stands.unready) stationary
          unready := by simpa only [SeatsReady, seatState, hr r] using r.stands.unready } }

theorem recordFault_level (k : FaultKind) (sub : SubCause) (d : Nat) (s : State) :
    (recordFault k sub d s).permit.level = s.permit.level := by
  unfold recordFault
  dsimp only [modPermit_eq]
  split <;> rfl

theorem recordFault_ridesOn (k : FaultKind) (sub : SubCause) (d : Nat) (s : State) : RidesOn s (recordFault k sub d s) :=
  .of_blocks rfl rfl rfl (recordFault_level ..) (recordFault_stationary ..)

theorem raiseFault_ridesOn (k : FaultKind) (sub : SubCause) (d : Nat) (s : State) : RidesOn s (raiseFault k sub d s) := by
  refine .of fun r => (recordFault_ridesOn k sub d s).trans ?_
  have goes := raiseFault_goes k sub d r.running fun _ => r.stationary
  by_cases hh : s.mc.mode = .halt
  · have raised : raiseFault k sub d s = steeringReact (recordFault k sub d s) := by simp [raiseFault, hh]
    rw [raised]
    exact .of_blocks rfl rfl rfl rfl rfl
  · rw [raiseFault_enter k sub d r.online hh] at goes ⊢
    exact enterMode_ridesOn _ (.inr rfl) fun _ => goes

theorem rcCheck_ridesOn (s : State) : RidesOn s (rcCheck s) := by
  have reported : RidesOn s (modWli s fun w => { w with rcReported := true }) := .of_blocks rfl rfl rfl rfl rfl
  exact .ite (reported.trans (raiseFault_ridesOn ..)) (.refl s)

theorem takeFault_ridesOn (k : FaultKind) (sub : SubCause) (d : Nat) (s : State) : RidesOn s (takeFault k sub d s) :=
  .ite (raiseFault_ridesOn ..) ((raiseFault_ridesOn ..).trans (rcCheck_ridesOn _))

/-! ## READY, berthing, zones -/

/-- READY falls to LOAD where a seat lacks readiness, and the release goes on (R7, R79). -/
theorem evalReady_ridesOn (s : State) : RidesOn s (evalReady s) := by
  refine .of fun r => ?_
  by_cases hm : s.mc.mode = .ready
  · rw [evalReady_unready_ready hm r.stands.restReady]
    exact (enterMode_ridesOn .none (.inl rfl) fun r => enterMode_load_stands hm r.stands).trans (rcCheck_ridesOn _)
  · rw [evalReady_unready hm r.stands.restReady]
    exact .refl s

theorem evalBerth_ridesOn (s : State) : RidesOn s (evalBerth s) := by
  unfold evalBerth
  split
  · next met =>
    obtain ⟨hm, ha, hs, -⟩ := met
    have berthed : RidesOn s (modMc s fun m => { m with berthed := true, berthReached := true }) :=
      { restraint := fun _ => rfl
        rides := fun r =>
          { running := r.running
            online := r.online
            stationary := r.stationary
            berth := ⟨fun _ => ⟨hm, hs, rfl, ha⟩, r.berth.advance⟩
            stands :=
              { allowed :=
                  { permit := r.stands.allowed.permit
                    ground := r.stands.allowed.ground
                    unload := fun _ => rfl
                    hold := fun hh => absurd (hm.symm.trans hh) nofun
                    run := r.stands.allowed.run }
                unready := r.stands.unready } } }
    exact berthed.trans (permitMoved_ridesOn _)
  · exact .refl s

/-- No zone moves a vehicle whose release rides: it is not in RUN, and in UNLOAD it is berthed without an advance (R9, R12). -/
theorem zoneChange_ridesOn (s : State) : RidesOn s (zoneChange s) := by
  refine .of fun r => ?_
  have stays : zoneChange s = s := by
    refine (if_neg fun hc => r.stands.allowed.run hc.1).trans (if_neg fun ⟨hu, _, ha⟩ => ?_)
    obtain ⟨-, -, -, none⟩ := r.berth.berthed (r.stands.allowed.unload hu)
    rw [none] at ha
    exact absurd ha nofun
  rw [stays]
  exact .refl s

/-- An advance that is present does not bear on a release. -/
theorem setAdvance_ridesOn (x : Option Advance) (h : s.mc.advance ≠ none) :
    RidesOn s (s.setMc { s.mc with advance := x }) where
  restraint _ := rfl
  rides r :=
    { running := r.running
      online := r.online
      stationary := r.stationary
      berth := ⟨fun hb => by
          obtain ⟨-, -, -, none⟩ := r.berth.berthed hb
          exact absurd none h, fun _ => r.berth.advance h⟩
      stands := ⟨⟨r.stands.allowed.permit, r.stands.allowed.ground, r.stands.allowed.unload, r.stands.allowed.hold,
        r.stands.allowed.run⟩, r.stands.unready⟩ }

theorem VehicleMoves.ridesOn (h : VehicleMoves s t) : RidesOn s t := by
  induction h with
  | refl s => exact .refl s
  | trans _ _ ih₁ ih₂ => exact ih₁.trans ih₂
  | shows h => exact .of_blocks h.startUp h.mc h.restraint (by rw [h.permit]) (by rw [h.permit])
  | tracks | steers | codes | counts => exact .of_blocks rfl rfl rfl rfl rfl
  | advances s x ha => exact setAdvance_ridesOn x ha
  | formsAhead s => exact formAhead_ridesOn s
  | formsCeilings s => exact formCeilings_ridesOn s
  | formsLevel s => exact refreshPermit_ridesOn s
  | judgesRelease s => exact judgeRelease_ridesOn s
  | judgesBerth s => exact evalBerth_ridesOn s
  | judgesReady s => exact evalReady_ridesOn s
  | changesZone s => exact zoneChange_ridesOn s
  | faults k sub d s => exact takeFault_ridesOn k sub d s

/-- A release in progress rides: of the seats that wait or are energised each is RELEASING, which is no readiness. -/
theorem ReleaseRides.of_held (hr : ReleaseHeld s) (hb : BerthHeld s) (hc : s.startUp.phase = .complete)
    (ho : s.mc.mode ≠ .offline) (hp : s.restraint.queue ≠ [] ∨ s.restraint.energised ≠ []) : ReleaseRides s where
  running := hc
  online := ho
  stationary := release_stationary hr hb ho (releaseInProgress_iff.2 hp)
  berth := hb
  stands :=
    { allowed := hr.allowed hp
      unready := fun ready => by
        obtain ⟨i, hi⟩ : ∃ i, i ∈ s.restraint.queue ∨ i ∈ s.restraint.energised := by
          rcases hp with hp | hp
          · exact (List.exists_mem_of_ne_nil _ hp).imp fun _ => .inl
          · exact (List.exists_mem_of_ne_nil _ hp).imp fun _ => .inr
        have releasing := (hr.releasing i).1 hi
        rcases ready i with h | h | h <;> exact absurd (releasing.symm.trans h) nofun }

/-! ## The end of stationary (R79) -/

theorem takeFault_idle (k : FaultKind) (sub : SubCause) (d : Nat) (h : releaseInProgress s = false) :
    (takeFault k sub d s).restraint = s.restraint := by
  have raised := raiseFault_idle k sub d h
  unfold takeFault
  dsimp only
  split
  · exact raised
  · exact (rcCheck_idle ((releaseInProgress_congr raised).trans h)).trans raised

/-- Online, a vehicle that is neither stationary nor berthed meets the release condition in no mode. -/
theorem releaseCondition_unrested (ho : s.mc.mode ≠ .offline) (hb : s.mc.berthed = false)
    (hs : s.permit.stationary = false) : releaseCondition s = false := by
  cases hm : s.mc.mode with
  | offline => exact absurd hm ho
  | load | ready | run | hold | unload | halt => simp [releaseCondition, hm, hb, hs]

/-- A release whose condition fails whatever the level is ended as the permit moves. -/
theorem permitMoved_restraint_ended (hp : releaseInProgress s = true) (ho : s.mc.mode ≠ .offline)
    (hb : s.mc.berthed = false) (hs : s.permit.stationary = false) :
    (permitMoved s).restraint = (endRelease s).restraint := by
  obtain ⟨v, hv⟩ : ∃ v, v = formCeilings (refreshPermit s) := ⟨_, rfl⟩
  have mc : v.mc = s.mc := by rw [hv, formCeilings_mc, refreshPermit_mc]
  have terminals : v.terminals = s.terminals := by rw [hv, formCeilings_terminals, refreshPermit_terminals]
  have stationary : v.permit.stationary = false := by
    rw [hv]
    exact (refreshPermit_formed s).stationary.trans hs
  have restraint : v.restraint = (refreshPermit s).restraint := by rw [hv, formCeilings_restraint]
  have moved : (permitMoved s).restraint = (judgeRelease v).restraint := by rw [hv]; rfl
  rw [moved]
  rcases refreshPermit_restraint_cases s with kept | ended
  · have same : v.restraint = s.restraint := restraint.trans kept
    have fails : releaseCondition v = false :=
      releaseCondition_unrested (by rw [mc]; exact ho) (by rw [mc]; exact hb) stationary
    have judged : judgeRelease v = endRelease v := if_pos ⟨(releaseInProgress_congr same).trans hp, fails⟩
    rw [judged]
    exact endRelease_restraint_congr same terminals
  · have same : v.restraint = (endRelease s).restraint := restraint.trans ended
    rw [judgeRelease_idle ((releaseInProgress_congr same).trans (endRelease_over s)), same]

theorem stopStationary_restraint_ended (hp : releaseInProgress s = true) (ho : s.mc.mode ≠ .offline) :
    (stopStationary s).restraint = (endRelease s).restraint := by
  have ended : (permitMoved (unrested s)).restraint = (endRelease (unrested s)).restraint :=
    permitMoved_restraint_ended (s := unrested s) hp ho rfl rfl
  have ceased : releaseInProgress (permitMoved (unrested s)) = false :=
    (releaseInProgress_congr ended).trans (endRelease_over _)
  rw [stopStationary_eq, evalReady_idle ceased, ended]
  exact endRelease_restraint_congr rfl rfl

end Sys2Proof.Machine
end

section
/-! PROOF. O50: an accepted exchange, passed to the Position Tracker, the Steering Computer and the Permit Unit in turn (R182). -/

namespace Sys2Proof.Machine

variable {s : State} {r : DcRecord} {d : Int} {id : Nat} {entries : List Marker} {m : Marker}

/-! ## P after an exchange (R30, R34) -/

theorem advanceTravel_tracker (d : Int) (s : State) : (advanceTravel d s).tracker = s.tracker := by
  obtain ⟨none, some⟩ := advanceTravel_answers s d
  cases ha : s.mc.advance with
  | none => rw [none ha]
  | some a =>
    obtain ⟨goes, ends⟩ := some a ha
    by_cases h : d < a.remaining
    · rw [goes h]
    · obtain ⟨-, -, tracker, -⟩ := ends (not_lt.1 h)
      exact tracker

/-- The distance is integrated modulo the route length, also where the integration is a fault (R30). -/
theorem integrate_p (d : Int) (s : State) :
    (integrate d s).tracker.p = (((s.tracker.p : Int) + d) % (10 * s.tables.routeLength : Nat)).toNat := by
  refine (movement_positionKept ..).p.trans ?_
  split
  · exact (positionFault_positionKept ..).p
  · rfl

theorem integrate_unsync (d : Int) (h : s.tracker.position = .unsync) : (integrate d s).tracker.position = .unsync := by
  have looked (t : State) (ht : t.tracker.position = .unsync) : (lookup t).tracker.position = .unsync := by
    rw [lookup_tracker]
    exact ht
  have faultless (sum : Int) : backwardWrapFaults s sum = false := by simp [backwardWrapFaults, isSync, h]
  have moved (before after : Nat) (forward wrap : Bool) (t : State) (ht : t.tracker.position = .unsync) :
      (movement before after forward wrap t).tracker.position = .unsync := by
    rw [movement_unsync _ _ _ _ (looked t ht)]
    exact looked t ht
  refine moved _ _ _ _ _ ?_
  split
  · next hf => exact absurd ((faultless _).symm.trans hf) nofun
  · exact h

theorem missExpected_p (s : State) : (missExpected s).tracker.p = s.tracker.p := by
  unfold missExpected
  split
  · rfl
  · dsimp only
    split
    · exact (positionFault_positionKept ..).p
    · rfl

theorem overdueCheck_p (n : Nat) (s : State) : (overdueCheck n s).tracker.p = s.tracker.p := by
  induction n generalizing s with
  | zero => rfl
  | succ n ih =>
    unfold overdueCheck
    split
    · exact (ih _).trans (missExpected_p s)
    · rfl

/-- The state in which an exchange's marker is read: the distance is travelled. -/
def distanceTaken (distance : Int) (s : State) : State :=
  integrate (clampedDistance distance) (advanceTravel (clampedDistance distance) s)

theorem distanceTaken_p (distance : Int) (s : State) : (distanceTaken distance s).tracker.p =
    (((s.tracker.p : Int) + clampedDistance distance) % (10 * s.tables.routeLength : Nat)).toNat := by
  rw [distanceTaken, integrate_p, advanceTravel_tracker, (advanceTravel_keeps ..).tables]

theorem distanceTaken_tables (distance : Int) (s : State) : (distanceTaken distance s).tables = s.tables :=
  (integrate_keeps ..).tables.trans (advanceTravel_keeps ..).tables

/-- The overdue check, where the exchange moved P forward, leaves P alone. -/
theorem trackExchange_read_p (distance : Int) (hr : s.tables.route.status = .valid)
    (h : s.tracker.position = .unsync ∨ (distanceTaken distance s).tracker.position = .sync) :
    (trackExchange distance id s).tracker.p = (markerRead id (distanceTaken distance s)).1.tracker.p := by
  rw [trackExchange_reads hr rfl h]
  split
  · exact overdueCheck_p ..
  · rfl

/-- Without a valid route table the tracker does nothing (R31). -/
theorem trackExchange_unrouted (distance : Int) (hr : s.tables.route.status ≠ .valid) :
    trackExchange distance id s = s := if_pos (by simpa [routeValid] using hr)

theorem trackExchange_unread_p (distance : Int) (hr : s.tables.route.status = .valid) :
    (trackExchange distance 0 s).tracker.p = (distanceTaken distance s).tracker.p := by
  by_cases h : s.tracker.position = .unsync ∨ (distanceTaken distance s).tracker.position = .sync
  · exact trackExchange_read_p distance hr h
  · obtain ⟨hs, hd⟩ := not_or.1 h
    have sync : s.tracker.position = .sync := by cases hp : s.tracker.position <;> simp_all
    have lost : (distanceTaken distance s).tracker.position = .unsync := by
      cases hp : (distanceTaken distance s).tracker.position <;> simp_all
    rw [trackExchange_faulted hr rfl sync lost]
    rfl

/-- A read while UNSYNC acquires at the first entry of the marker's number, which is the marker itself (R34). -/
theorem markerRead_acquires (hl : MarkersLoaded entries s) (hs : s.tracker.position = .unsync) (hm : m ∈ entries)
    (hid : m.id ≠ 0) (hu : ∀ o ∈ entries, o.id = m.id → o = m) : ∃ i, markerRead m.id s = (acquire i m s, false) := by
  obtain ⟨i, hi⟩ : ∃ i, entries.findIdx? (fun o => o.id == m.id) = some i :=
    Option.isSome_iff_exists.1 (List.findIdx?_isSome.trans (List.any_eq_true.2 ⟨m, hm, beq_self_eq_true _⟩))
  obtain ⟨hlt, hfound, -⟩ := List.findIdx?_eq_some_iff_getElem.1 hi
  have entry : entries[i]? = some m := by
    rw [List.getElem?_eq_getElem hlt, hu _ (List.getElem_mem hlt) (beq_iff_eq.1 hfound)]
  refine ⟨i, ?_⟩
  simp only [markerRead, if_neg hid, hl.inUse, hi, hl.at, entry]
  exact if_neg (by simp [isSync, hs])

theorem trackExchange_acquires_p (distance : Int) (hr : s.tables.route.status = .valid)
    (hs : s.tracker.position = .unsync) (hl : s.tables.markers.status = .valid) (hm : m ∈ s.tables.markers.entries)
    (hid : m.id ≠ 0) (hu : ∀ o ∈ s.tables.markers.entries, o.id = m.id → o = m) :
    (trackExchange distance m.id s).tracker.p = 10 * m.position := by
  have loaded : MarkersLoaded s.tables.markers.entries (distanceTaken distance s) := by
    unfold MarkersLoaded
    rw [distanceTaken_tables, ← hl]
  have unsync : (distanceTaken distance s).tracker.position = .unsync :=
    integrate_unsync _ (by rw [advanceTravel_tracker]; exact hs)
  obtain ⟨i, read⟩ := markerRead_acquires loaded unsync hm hid hu
  rw [trackExchange_read_p distance hr (.inl hs), read, acquire_tracker]
  rfl

/-! ## The blocks after the Position Tracker leave P alone -/

theorem stopStationary_tracker (s : State) : (stopStationary s).tracker = s.tracker :=
  (evalReady_tracker _).trans (permitMoved_tracker _)

theorem steerExchange_tracker (guide distance : Int) (s : State) :
    (steerExchange guide distance s).tracker = s.tracker := by
  have faulted (k : FaultKind) (b : Bool) (t : State) :
      (if b then takeFault k .none 0 t else t).tracker = t.tracker := by
    split
    · exact takeFault_tracker ..
    · rfl
  unfold steerExchange
  dsimp only
  split
  · exact (faulted _ _ _).trans (faulted _ _ _)
  · rfl

theorem permitExchange_tracker (r : DcRecord) (ceiling : Nat) (s : State) :
    (permitExchange r ceiling s).tracker = s.tracker := by
  have speed : (superviseSpeed r.speed ceiling s).tracker = s.tracker := by
    unfold superviseSpeed
    dsimp only
    split_ifs <;> simp [takeFault_tracker]
  have rest (t : State) : (superviseStandstill r t).tracker = t.tracker := by
    unfold superviseStandstill
    split_ifs
    · rfl
    · exact stopStationary_tracker t
    · rfl
  have report (t : State) : (takeReport r t).tracker = t.tracker := by
    unfold takeReport
    dsimp only
    split
    · exact takeFault_tracker ..
    · rfl
  exact (report _).trans ((rest _).trans speed)

theorem passOn_tracker (r : DcRecord) (ceiling : Nat) (s : State) :
    (passOn r ceiling s).tracker = (trackExchange r.distance r.marker s).tracker :=
  (permitExchange_tracker ..).trans (steerExchange_tracker ..)

/-! ## Standstill and the DC's report (R162, R164) -/

theorem DcRecord.standstill_iff (r : DcRecord) : r.standstill = true ↔ r.speed ≤ 5 ∧ r.brake = true := by
  simp [DcRecord.standstill]

/-- The standstill run and the stationary condition as the record gives them. -/
def restJudged (r : DcRecord) (s : State) : State :=
  s.setPermit
    { s.permit with
      stationary := r.standstill && s.permit.stationary
      standstill := if r.standstill then some (s.permit.standstill.getD s.localMs) else none }

theorem ItemsKept.restJudged {t : State} (h : ItemsKept s t) (hl : t.localMs = s.localMs) :
    ItemsKept (restJudged r s) (restJudged r t) where
  rcLimit := h.rcLimit
  stationary := congrArg (r.standstill && ·) h.stationary
  standstill := by
    simp only [Machine.restJudged, State.setPermit_permit, h.standstill, hl]
  reportSpeed := h.reportSpeed
  reportBrake := h.reportBrake
  reportFault := h.reportFault
  reportCode := h.reportCode
  guidePresent := h.guidePresent
  online := h.online

theorem superviseStandstill_still (hr : r.standstill = true) :
    superviseStandstill r s =
      s.setPermit { s.permit with standstill := some (s.permit.standstill.getD s.localMs) } := if_pos hr

theorem superviseStandstill_stops (hr : r.standstill = false) (hs : s.permit.stationary = true) :
    superviseStandstill r s = stopStationary s := by simp [superviseStandstill, hr, hs]

theorem superviseStandstill_moving (hr : r.standstill = false) (hs : s.permit.stationary = false) :
    superviseStandstill r s = s.setPermit { s.permit with standstill := none } := by simp [superviseStandstill, hr, hs]

theorem superviseStandstill_items (r : DcRecord) (s : State) :
    ItemsKept (restJudged r s) (superviseStandstill r s) := by
  have judged (stationary : Bool) (standstill : Option Nat) {t : State}
      (hst : stationary = (r.standstill && s.permit.stationary))
      (hss : standstill = if r.standstill then some (s.permit.standstill.getD s.localMs) else none)
      (h : ItemsKept (s.setPermit { s.permit with stationary := stationary, standstill := standstill }) t) :
      ItemsKept (restJudged r s) t := by
    subst hst hss
    exact h
  cases hr : r.standstill with
  | true =>
    rw [superviseStandstill_still hr]
    exact judged s.permit.stationary _ (by rw [hr, Bool.true_and]) (by rw [hr]; rfl) (.refl _)
  | false =>
    cases hs : s.permit.stationary with
    | true =>
      rw [superviseStandstill_stops hr hs]
      exact judged false none (by rw [hr]; rfl) (by rw [hr]; rfl)
        (ItemsKept.trans (t := unrested s) (.of_blocks rfl rfl rfl) (stopStationary_items s))
    | false =>
      rw [superviseStandstill_moving hr hs]
      exact judged s.permit.stationary none (by rw [hr, hs]; rfl) (by rw [hr]; rfl) (.refl _)

/-- The last DC report as the record gives it. -/
def reported (r : DcRecord) (s : State) : State :=
  modPermit s fun u =>
    { u with reportSpeed := r.speed, reportBrake := r.brake, reportFault := r.dcFault, reportCode := r.faultCode }

theorem ItemsKept.reported {t : State} (h : ItemsKept s t) : ItemsKept (reported r s) (reported r t) :=
  ⟨h.rcLimit, h.stationary, h.standstill, rfl, rfl, rfl, rfl, h.guidePresent, h.online⟩

theorem takeReport_items (r : DcRecord) (s : State) : ItemsKept (reported r s) (takeReport r s) :=
  .ite (takeFault_items ..) (.refl _)

/-- A fault bit that the last report did not carry is DRIVE_REPORTED, online with HALT (R164). -/
theorem takeReport_faults (hf : r.dcFault = true) (hl : s.permit.reportFault = false) (ho : s.mc.mode ≠ .offline) :
    (takeReport r s).mc.mode = .halt ∧ .driveReported ∈ (takeReport r s).permit.active := by
  have raised : takeReport r s = takeFault .driveReported .none r.faultCode.toNat (reported r s) :=
    if_pos (by simp [driveReports, hf, hl])
  have taken : FaultTaken .driveReported r.faultCode.toNat (reported r s) (takeReport r s) :=
    raised ▸ takeFault_taken _ _ ho
  exact ⟨taken.halt, taken.active⟩

theorem takeReport_restraint (h : (takeFault .driveReported .none r.faultCode.toNat (reported r s)).restraint = s.restraint) :
    (takeReport r s).restraint = s.restraint := by
  unfold takeReport
  dsimp only
  split
  · exact h
  · rfl

/-! ## The exchange, block by block -/

/-- The vehicle as the Permit Unit judges its standstill: tracked, steered, and its speed supervised. -/
def supervised (r : DcRecord) (ceiling : Nat) (s : State) : State :=
  superviseSpeed r.speed ceiling (steerExchange r.guide r.distance (trackExchange r.distance r.marker s))

theorem passOn_eq (r : DcRecord) (ceiling : Nat) (s : State) :
    passOn r ceiling s = takeReport r (superviseStandstill r (supervised r ceiling s)) := rfl

theorem supervised_items (r : DcRecord) (ceiling : Nat) (s : State) :
    ItemsKept (guided r.guide s) (supervised r ceiling s) := by
  have tracked := (trackExchange_moves r.distance r.marker s).items
  have guides : ItemsKept (guided r.guide s) (guided r.guide (trackExchange r.distance r.marker s)) :=
    ⟨tracked.rcLimit, tracked.stationary, tracked.standstill, tracked.reportSpeed, tracked.reportBrake, tracked.reportFault,
      tracked.reportCode, rfl, tracked.online⟩
  exact guides.trans ((steerExchange_moves ..).items.trans (superviseSpeed_moves ..).items)

theorem supervised_ridesOn (r : DcRecord) (ceiling : Nat) (s : State) : RidesOn s (supervised r ceiling s) := by
  have guides (t : State) : RidesOn t (guided r.guide t) := .of_blocks rfl rfl rfl rfl rfl
  exact (trackExchange_moves ..).ridesOn.trans ((guides _).trans
    ((steerExchange_moves ..).ridesOn.trans (superviseSpeed_moves ..).ridesOn))

theorem supervised_keeps (r : DcRecord) (ceiling : Nat) (s : State) : Keeps s (supervised r ceiling s) :=
  (trackExchange_keeps ..).trans ((steerExchange_keeps ..).trans (superviseSpeed_keeps ..))

/-- The guide report, the standstill and the DC's report are the record's; the other items stay. -/
theorem passOn_items (r : DcRecord) (ceiling : Nat) (s : State) :
    ItemsKept (reported r (restJudged r (guided r.guide s))) (passOn r ceiling s) := by
  have rested := ((supervised_items r ceiling s).restJudged (r := r) (supervised_keeps r ceiling s).localMs).trans
    (superviseStandstill_items r _)
  exact rested.reported.trans (takeReport_items r _)

/-- A fault bit of the record that the last report did not carry is taken as DRIVE_REPORTED (R164). -/
theorem passOn_faults (ceiling : Nat) (hf : r.dcFault = true) (hl : s.permit.reportFault = false)
    (ho : s.mc.mode ≠ .offline) :
    (passOn r ceiling s).mc.mode = .halt ∧ .driveReported ∈ (passOn r ceiling s).permit.active := by
  have moved := supervised_items r ceiling s
  have rested := superviseStandstill_items r (supervised r ceiling s)
  exact takeReport_faults hf (rested.reportFault.trans (moved.reportFault.trans hl)) (rested.online (moved.online ho))

/-- The first report that is no standstill ends a release (R79, R162). -/
theorem passOn_ends_release (ceiling : Nat) (h : ReleaseRides s) (hp : releaseInProgress s = true)
    (hr : r.standstill = false) : ReleaseEnded s (passOn r ceiling s) := by
  have rides := (supervised_ridesOn r ceiling s).rides h
  have same := (supervised_ridesOn r ceiling s).restraint h
  have ended : (superviseStandstill r (supervised r ceiling s)).restraint = (endRelease (supervised r ceiling s)).restraint := by
    rw [superviseStandstill_stops hr rides.stationary]
    exact stopStationary_restraint_ended ((releaseInProgress_congr same).trans hp) rides.online
  have ceased : releaseInProgress (superviseStandstill r (supervised r ceiling s)) = false :=
    (releaseInProgress_congr ended).trans (endRelease_over _)
  refine .of_restraint ?_
  rw [passOn_eq, takeReport_restraint (takeFault_idle (s := reported r _) _ _ _ ceased), ended]
  exact endRelease_restraint_congr same (supervised_keeps ..).terminals

/-- A report of standstill leaves a release alone (R79). -/
theorem passOn_spares_release (ceiling : Nat) (h : ReleaseRides s) (hr : r.standstill = true) :
    (passOn r ceiling s).restraint = s.restraint := by
  have rides := (supervised_ridesOn r ceiling s).rides h
  rw [passOn_eq, superviseStandstill_still hr]
  refine (takeReport_restraint ?_).trans ((supervised_ridesOn r ceiling s).restraint h)
  exact takeFault_goes _ _ _ (s := reported r _) rides.running fun _ => rides.stationary

/-- The part once the DLI has accepted a record (R182). -/
def driveAccepted (r : DcRecord) (s : State) : State := s.setDli (s.dli.accepted r)

theorem driveAccepted_ridesOn (r : DcRecord) (s : State) : RidesOn s (driveAccepted r s) := .of_blocks rfl rfl rfl rfl rfl

/-- The DLI accepts a record that passes the checks, and passes it on (R182). -/
theorem execDriveExchange_passesOn {out : DriveRecord} {body : List Byte} (ho : s.dli.outgoing = some out)
    (hc : s.startUp.phase = .complete) (hh : s.dli.heldOver = false) (hp : DcRecord.parse (body ++ [crc8 body]) = some r)
    (hn : ∀ last, s.dli.lastAccepted = some last → last.cycle ≠ r.cycle) :
    exec (.driveExchange 96 (body ++ [crc8 body])) s =
      .next (passOn r out.speedCeiling (driveAccepted r s)) := by
  have shared : dliAlone s = false := by simp [dliAlone, startingUp, hc, hh]
  rw [execDriveExchange_busy 96 _ ho, endExchange_passesOn (checkedRecord_good hp) (Dli.isDuplicate_fresh hn) shared]
  rfl

/-- Settles O50: the exchange is passed on, and each of its effects is that of the block it reaches. -/
theorem acceptedExchangesReachTheBlocks : Obligations.AcceptedExchangesReachTheBlocks := by
  refine ⟨fun s out body r ho hc hh hp hn => ?_, fun _ _ _ => rfl⟩
  obtain ⟨t, ht⟩ : ∃ t, t = passOn r out.speedCeiling (driveAccepted r s) := ⟨_, rfl⟩
  have run : exec (.driveExchange 96 (body ++ [crc8 body])) s = .next t := by
    rw [ht]
    exact execDriveExchange_passesOn ho hc hh hp hn
  have kept : Keeps (driveAccepted r s) t := ht ▸ passOn_keeps ..
  have items : ItemsKept (reported r (restJudged r (guided r.guide (driveAccepted r s)))) t := ht ▸ passOn_items ..
  have tracker : t.tracker = (trackExchange r.distance r.marker (driveAccepted r s)).tracker := ht ▸ passOn_tracker ..
  have moving (hm : ¬(r.speed ≤ 5 ∧ r.brake = true)) : r.standstill = false :=
    Bool.eq_false_iff.2 fun h => hm (r.standstill_iff.1 h)
  have rides (hon : s.mc.mode ≠ .offline) (hr : ReleaseHeld s) (hb : BerthHeld s)
      (hq : s.restraint.queue ≠ [] ∨ s.restraint.energised ≠ []) : ReleaseRides (driveAccepted r s) :=
    (driveAccepted_ridesOn r s).rides (.of_held hr hb hc hon hq)
  refine ⟨t, run, ?_, ?_, kept.params, kept.tables, kept.clock, kept.store, kept.terminals, kept.localMs, kept.pending,
    kept.requests, kept.responses, kept.slots.dispatchCount, items.rcLimit, ?_, items.reportSpeed, items.reportBrake,
    items.reportFault, items.reportCode, fun hm => ?_, fun h1 h2 => ?_, fun hf hl hon => ?_,
    fun hon hr hb hq => ⟨fun hm => ?_, fun _ h1 h2 => ?_⟩, fun hroute => ?_, fun hroute hid => ?_,
    fun hroute hs hl m hm hid h0 hu => ?_⟩
  · refine ht.trans (congrArg (fun d => passOn r out.speedCeiling (s.setDli d)) ((Dli.accepted_eq ..).trans ?_))
    cases s.dli.lastAccepted <;> rfl
  · refine kept.dli.trans ((Dli.accepted_eq ..).trans ?_)
    cases s.dli.lastAccepted <;> rfl
  · rw [items.guidePresent]
    exact decide_eq_true_iff
  · rw [items.stationary, items.standstill]
    exact ⟨congrArg (· && _) (moving hm), if_neg (Bool.eq_false_iff.1 (moving hm))⟩
  · rw [items.standstill]
    exact fun h => nomatch (if_pos (r.standstill_iff.2 ⟨h1, h2⟩)).symm.trans h
  · rw [ht]
    exact passOn_faults _ hf hl hon
  · obtain ⟨dropped, others, summary, queue, energised⟩ :=
      passOn_ends_release out.speedCeiling (rides hon hr hb hq) (releaseInProgress_iff.2 hq) (moving hm)
    rw [ht]
    exact ⟨dropped, others, summary, queue, energised⟩
  · rw [ht]
    exact passOn_spares_release out.speedCeiling (rides hon hr hb hq) (r.standstill_iff.2 ⟨h1, h2⟩)
  · rw [tracker, trackExchange_unrouted (s := driveAccepted r s) _ hroute]
    rfl
  · rw [tracker, hid, trackExchange_unread_p (s := driveAccepted r s) _ hroute, distanceTaken_p, clampedDistance_eq]
    rfl
  · rw [tracker, hid]
    exact trackExchange_acquires_p (s := driveAccepted r s) _ hroute hs hl hm h0 hu

end Sys2Proof.Machine
end

section
/-! PROOF. O34: STORE_WRITE, STORE_ERASE and STORE_READ (R189). -/

namespace Sys2Proof.Machine

variable {s : State} {f : Frame} {rest : List Frame}

/-! ## BUSY (R189, R190) -/

theorem voicesIdle_iff : voicesIdle s = true ↔ ∀ v : Fin 6, s.sound.voices[v] = none := by
  simp only [voicesIdle, List.all_eq_true, Vector.mem_toList_iff, Option.isNone_iff_eq_none]
  constructor
  · intro h v
    exact h _ (Vector.getElem_mem v.isLt)
  · intro h x hx
    obtain ⟨i, hi, rfl⟩ := Vector.getElem_of_mem hx
    exact h ⟨i, hi⟩

theorem storeBusy_iff : storeBusy s = true ↔ s.store.activity ≠ .idle ∨ ∃ v : Fin 6, s.sound.voices[v] ≠ none := by
  have store : (!storeIdle s) = true ↔ s.store.activity ≠ .idle := by
    rw [Bool.not_eq_true', Bool.eq_false_iff, ne_eq, storeIdle_iff]
  have voices : (!voicesIdle s) = true ↔ ∃ v : Fin 6, s.sound.voices[v] ≠ none := by
    rw [Bool.not_eq_true', Bool.eq_false_iff, ne_eq, voicesIdle_iff, not_forall]
  rw [storeBusy, Bool.or_eq_true, store, voices]

theorem storeBusy_taken : storeBusy (taken s f rest) = storeBusy s := rfl

/-- A request of the store whose arguments are in order is refused BUSY, or answered once store and voices are IDLE. -/
theorem requestRow_storeGuarded {k : Kind} {handle : Handler} {args : List Byte} {a : Answer} (h : Admitted k f rest s)
    (hargs : f.args = args)
    (hA : handle args (taken s f rest) = if storeBusy (taken s f rest) then refuse .busy (taken s f rest) else a) :
    (s.store.activity ≠ .idle ∨ (∃ v : Fin 6, s.sound.voices[v] ≠ none) →
      requestRow k handle s = .next (answered f .busy [] (taken s f rest))) ∧
    (s.store.activity = .idle → (∀ v : Fin 6, s.sound.voices[v] = none) →
      requestRow k handle s = .next (answered f a.status a.data a.next)) := by
  rw [storeBusy_taken] at hA
  constructor
  · intro busy
    exact requestRow_answers h hargs (hA.trans (if_pos (storeBusy_iff.2 busy)))
  · intro idle silent
    have free : ¬storeBusy s = true := fun busy =>
      (storeBusy_iff.1 busy).elim (absurd idle) fun ⟨v, sounds⟩ => sounds (silent v)
    exact requestRow_answers h hargs (hA.trans (if_neg free))

/-! ## The clip region (R189) -/

theorem clipRange_iff {address count : Nat} :
    clipRange address count = true ↔ 1 ≤ count ∧ count ≤ 32 ∧ address + count ≤ 16515072 := by
  rw [clipRange, Bool.and_eq_true, Bool.and_eq_true, decide_eq_true_iff, decide_eq_true_iff, decide_eq_true_iff, and_assoc]
  rfl

theorem clipRange_false {address count : Nat} (h : count = 0 ∨ 32 < count ∨ 16515072 < address + count) :
    clipRange address count = false := by
  rw [Bool.eq_false_iff, ne_eq, clipRange_iff]
  omega

/-- The bytes that STORE_READ answers, one for each address. -/
theorem Memory.length_readAll (m : Memory) (a n : Nat) : (m.readAll a n).length = n := by
  induction n generalizing a with
  | zero => rfl
  | succ n ih => exact congrArg (· + 1) (ih (a + 1))

theorem Memory.getElem?_readAll (m : Memory) (a : Nat) {n i : Nat} (h : i < n) :
    (m.readAll a n)[i]? = some (m.read (a + i)) := by
  induction n generalizing a i with
  | zero => omega
  | succ n ih =>
    cases i with
    | zero => rfl
    | succ i =>
      rw [Memory.readAll, List.getElem?_cons_succ, ih (a + 1) (by omega), Nat.add_right_comm]
      rfl

/-! ## The handlers -/

theorem handleStoreWrite_outside {a b c : Byte} {data : List Byte}
    (h : clipRange (beNat [a, b, c]) data.length = false) : handleStoreWrite (a :: b :: c :: data) s = refuse .argument s :=
  if_pos h

theorem handleStoreWrite_within {a b c : Byte} {data : List Byte}
    (h : clipRange (beNat [a, b, c]) data.length = true) :
    handleStoreWrite (a :: b :: c :: data) s =
      if storeBusy s then refuse .busy s else done [] (setActivity (.writing (beNat [a, b, c]) data 0) s) :=
  if_neg (by rw [h]; decide)

theorem handleStoreErase_outside {a b c : Byte} (h : b ≠ 0 ∨ c ≠ 0 ∨ 252 ≤ a.toNat) :
    handleStoreErase [a, b, c] s = refuse .argument s := by
  have outside : beNat [a, b, c] % Config.eraseBlockBytes ≠ 0 ∨ Config.clipRegionBytes ≤ beNat [a, b, c] := by
    rw [beNat_three, Config.eraseBlockBytes, Config.clipRegionBytes]
    bv_omega
  exact if_pos outside

theorem handleStoreErase_within {a : Byte} (h : a.toNat < 252) :
    handleStoreErase [a, 0, 0] s =
      if storeBusy s then refuse .busy s else done [] (setActivity (.erasing a.toNat 0) s) := by
  have address : beNat [a, 0, 0] = 65536 * a.toNat := by rw [beNat_three]; rfl
  have block : 65536 * a.toNat / Config.eraseBlockBytes = a.toNat := Nat.mul_div_cancel_left _ (by decide)
  have within : ¬(65536 * a.toNat % Config.eraseBlockBytes ≠ 0 ∨ Config.clipRegionBytes ≤ 65536 * a.toNat) := by
    rw [Config.eraseBlockBytes, Config.clipRegionBytes]
    omega
  simp only [handleStoreErase, address, block, if_neg within]

theorem handleStoreRead_outside {a b c n : Byte} (h : clipRange (beNat [a, b, c]) n.toNat = false) :
    handleStoreRead [a, b, c, n] s = refuse .argument s := if_pos h

theorem handleStoreRead_within {a b c n : Byte} (h : clipRange (beNat [a, b, c]) n.toNat = true) :
    handleStoreRead [a, b, c, n] s =
      if storeBusy s then refuse .busy s else done (s.store.memory.readAll (beNat [a, b, c]) n.toNat) s :=
  if_neg (by rw [h]; decide)

/-- Settles O34: each request by its range, then by the idleness of store and voices. -/
theorem storeRequestsBegin : Obligations.StoreRequestsBegin := by
  refine ⟨fun f rest s a b c data h hargs => ⟨fun outside => ?_, fun hne hle hfits => ?_⟩,
    fun f rest s a b c h hargs => ⟨fun outside => ?_, ?_⟩,
    fun f rest s a b c n h hargs => ⟨fun outside => ?_, fun hne hle hfits => ?_⟩⟩
  · rw [← List.length_eq_zero_iff, ← beNat_three] at outside
    exact requestRow_answers h hargs (handleStoreWrite_outside (clipRange_false outside))
  · rw [← beNat_three] at hfits ⊢
    have within := clipRange_iff.2 ⟨List.length_pos_iff.2 hne, hle, hfits⟩
    exact requestRow_storeGuarded h hargs (handleStoreWrite_within within)
  · exact requestRow_answers h hargs (handleStoreErase_outside outside)
  · rintro rfl rfl within
    exact requestRow_storeGuarded h hargs (handleStoreErase_within within)
  · have hcount : n = 0 → n.toNat = 0 := fun hn => congrArg BitVec.toNat hn
    rw [← beNat_three] at outside
    exact requestRow_answers h hargs (handleStoreRead_outside (clipRange_false (outside.imp_left hcount)))
  · rw [← beNat_three] at hfits ⊢
    have hcount : 1 ≤ n.toNat := by bv_omega
    obtain ⟨busy, reads⟩ :=
      requestRow_storeGuarded h hargs (handleStoreRead_within (clipRange_iff.2 ⟨hcount, hle, hfits⟩))
    exact ⟨busy, fun idle silent =>
      ⟨_, reads idle silent, Memory.length_readAll .., fun i hi => Memory.getElem?_readAll _ _ hi⟩⟩

end Sys2Proof.Machine
end

section
/-! PROOF. O35: the end of a write or an erase of the store (R189). -/

namespace Sys2Proof.Machine

variable {s : State}

/-! ## What the operations leave of the clip region -/

theorem Memory.read_writeAll_within {m : Memory} (h : m.wf = true) (a : Nat) {data : List Byte} {i : Nat}
    (hi : i < data.length) : some ((m.writeAll a data).read (a + i)) = data[i]? := by
  rw [Memory.read_writeAll h, if_pos (Nat.le_add_right a i), Nat.add_sub_cancel_left, List.getElem?_eq_getElem hi]
  rfl

theorem Memory.read_writeAll_outside {m : Memory} (h : m.wf = true) {a x : Nat} {data : List Byte}
    (hx : x < a ∨ a + data.length ≤ x) : (m.writeAll a data).read x = m.read x := by
  rw [Memory.read_writeAll h]
  split
  · rw [List.getElem?_eq_none (by omega)]
    rfl
  · rfl

/-- A write that failed leaves open only the bytes it was to change (log 11). -/
theorem Memory.read_loseWrite_outside {m : Memory} (h : m.wf = true) (n : Nat) {a x count : Nat}
    (hx : x < a ∨ a + count ≤ x) : (m.loseWrite n a count).read x = m.read x := by
  induction count generalizing m a with
  | zero => rfl
  | succ count ih =>
    rw [Memory.loseWrite, ih (Memory.wf_write h a _) (by omega), Memory.read_write h, if_neg (by omega)]

/-- An erase that failed leaves open only the bytes of its block (log 11). -/
theorem Memory.read_loseErase_outside (m : Memory) (n : Nat) {block x : Nat} (hx : x / Config.eraseBlockBytes ≠ block) :
    (m.loseErase n block).read x = m.read x := by
  unfold Memory.read Memory.loseErase Memory.unlisted
  simp only [findCell_filter (p := fun a => a / Config.eraseBlockBytes != block), bne_iff_ne, ne_eq, hx, not_false_eq_true,
    if_true, unlisted_of_mark hx]

/-! ## The rows -/

theorem exec_storeComplete_success (h : clipOperation s.store.activity = true) :
    exec (.storeComplete true) s = .next { s with store := { s.store with
      activity := .idle, errorFlag := false, memory := storeEffect s.store.memory s.store.activity } } :=
  congrArg Host.Outcome.next (if_pos h)

theorem exec_storeComplete_failure (h : clipOperation s.store.activity = true) :
    exec (.storeComplete false) s = .next { s with
      store := { s.store with
        activity := .idle, errorFlag := true, memory := storeLoss s.store.memory s.freeDraws s.store.activity }
      freeDraws := s.freeDraws + 1 } :=
  congrArg Host.Outcome.next (if_pos h)

/-- A passed limit ends the operation as an error does. -/
theorem exec_storeTimeout_late (hc : clipOperation s.store.activity = true) (h : storeTimedOut s = true) :
    exec .storeTimeout s = exec (.storeComplete false) s :=
  congrArg Host.Outcome.next ((if_pos h).trans (if_pos hc).symm)

theorem exec_storeTimeout_early (h : storeTimedOut s = false) : exec .storeTimeout s = .next s :=
  congrArg Host.Outcome.next (if_neg (Bool.eq_false_iff.1 h))

theorem exec_storeComplete_other (success : Bool) (h : clipOperation s.store.activity = false) :
    exec (.storeComplete success) s = .next s := congrArg Host.Outcome.next (if_neg (Bool.eq_false_iff.1 h))

theorem storeTimedOut_writing {address elapsed : Nat} {data : List Byte}
    (h : s.store.activity = .writing address data elapsed) : storeTimedOut s = decide (2 < elapsed) := by
  rw [storeTimedOut, h]

theorem storeTimedOut_erasing {block elapsed : Nat} (h : s.store.activity = .erasing block elapsed) :
    storeTimedOut s = decide (500 < elapsed) := by
  rw [storeTimedOut, h]

theorem storeTimedOut_other (h : clipOperation s.store.activity = false) : storeTimedOut s = false := by
  unfold storeTimedOut
  cases ha : s.store.activity with
  | writing | erasing =>
    rw [ha] at h
    exact absurd h nofun
  | idle | saving | restoring => rfl

/-- Settles O35: a write, an erase, and any other store state. -/
theorem storeOperationsEnd : Obligations.StoreOperationsEnd := by
  refine ⟨fun s address data elapsed canonical writing => ?_, fun s block elapsed erasing => ?_,
    fun s success notWriting notErasing => ?_⟩
  · have running : clipOperation s.store.activity = true := by rw [writing]; rfl
    have limit := storeTimedOut_writing writing
    refine ⟨⟨_, exec_storeComplete_success running, ?_⟩, ⟨_, exec_storeComplete_failure running, ?_⟩,
      fun late => exec_storeTimeout_late running (limit.trans (decide_eq_true late)),
      fun early => exec_storeTimeout_early (limit.trans (decide_eq_false (Nat.not_lt.2 early)))⟩
    · rw [writing]
      exact ⟨fun i hi => Memory.read_writeAll_within canonical address hi,
        fun x hx => Memory.read_writeAll_outside canonical hx⟩
    · rw [writing]
      exact fun x hx => Memory.read_loseWrite_outside canonical _ hx
  · have running : clipOperation s.store.activity = true := by rw [erasing]; rfl
    have limit := storeTimedOut_erasing erasing
    refine ⟨⟨_, exec_storeComplete_success running, ?_⟩, ⟨_, exec_storeComplete_failure running, ?_⟩,
      fun late => exec_storeTimeout_late running (limit.trans (decide_eq_true late)),
      fun early => exec_storeTimeout_early (limit.trans (decide_eq_false (Nat.not_lt.2 early)))⟩
    · rw [erasing]
      exact ⟨fun x hx => (Memory.read_eraseBlock ..).trans (if_pos hx),
        fun x hx => (Memory.read_eraseBlock ..).trans (if_neg hx)⟩
    · rw [erasing]
      exact fun x hx => Memory.read_loseErase_outside _ _ hx
  · have other : clipOperation s.store.activity = false := by
      cases ha : s.store.activity with
      | writing a d e => exact absurd ha (notWriting a d e)
      | erasing b e => exact absurd ha (notErasing b e)
      | idle | saving | restoring => rfl
    exact ⟨exec_storeComplete_other success other, exec_storeTimeout_early (storeTimedOut_other other)⟩

end Sys2Proof.Machine
end

section
/-! PROOF. O36: SAVE and its ends (R190). -/

namespace Sys2Proof.Machine

variable {s : State}

/-! ## SAVE -/

theorem handleSave_nil : handleSave [] s =
    if storeBusy s then refuse .busy s else done [] (setActivity (.saving (imageOf s) 0) s) := rfl

/-! ## An image that is partly new (log 13) -/

theorem cutSection_cases {α : Type} (n i : Nat) (old new : Section α) :
    cutSection n i old new = old ∨ cutSection n i old new = new ∨ cutSection n i old new = .broken := by
  unfold cutSection
  split
  · exact .inl rfl
  · exact .inr (.inl rfl)
  · exact .inr (.inr rfl)

theorem cutImage_config (n : Nat) (old new : Image) :
    (cutImage n old new).config = old.config ∨ (cutImage n old new).config = new.config ∨
      (cutImage n old new).config = none := by
  unfold cutImage
  dsimp only
  split
  · exact .inl rfl
  · exact .inr (.inl rfl)
  · exact .inr (.inr rfl)

/-- The route length goes with the route section. -/
theorem cutImage_route (n : Nat) (old new : Image) :
    ((cutImage n old new).route = old.route ∧ (cutImage n old new).routeLength = old.routeLength) ∨
      (((cutImage n old new).route = new.route ∨ (cutImage n old new).route = .broken) ∧
        (cutImage n old new).routeLength = new.routeLength) := by
  unfold cutImage cutSection
  dsimp only
  split
  · next h => exact .inl ⟨rfl, if_pos h⟩
  · next h => exact .inr ⟨.inl rfl, if_neg (by rw [h]; decide)⟩
  · next h _ => exact .inr ⟨.inr rfl, if_neg h⟩

/-! ## The end of SAVE -/

section
variable {copy : Image} {elapsed : Nat} (h : s.store.activity = .saving copy elapsed)
include h

theorem exec_saveComplete_success : exec (.saveComplete true) s =
    .next { s with store := { s.store with activity := .idle, errorFlag := false, image := copy } } := by
  change Host.Outcome.next _ = _
  rw [h]
  rfl

theorem exec_saveComplete_failure : exec (.saveComplete false) s = .next { s with
    store := { s.store with activity := .idle, errorFlag := true, image := cutImage s.freeDraws s.store.image copy }
    freeDraws := s.freeDraws + 1 } := by
  change Host.Outcome.next _ = _
  rw [h]
  rfl

theorem exec_saveTimeout_late (late : 400 < elapsed) : exec .saveTimeout s = exec (.saveComplete false) s := by
  have out : saveTimedOut s = true := by rw [saveTimedOut, h]; exact decide_eq_true late
  change Host.Outcome.next _ = Host.Outcome.next _
  rw [h]
  exact congrArg Host.Outcome.next (if_pos out)

theorem exec_saveTimeout_early (early : elapsed ≤ 400) : exec .saveTimeout s = .next s := by
  have out : saveTimedOut s = false := by rw [saveTimedOut, h]; exact decide_eq_false (Nat.not_lt.2 early)
  change Host.Outcome.next _ = _
  rw [h]
  exact congrArg Host.Outcome.next (if_neg (Bool.eq_false_iff.1 out))

end

/-- Settles O36: the copy that SAVE takes, its three ends, and the rows while nothing is being saved. -/
theorem saveWritesTheImage : Obligations.SaveWritesTheImage := by
  refine ⟨fun f rest s h hargs => ?_, fun s copy elapsed saving => ?_, fun s success notSaving => ?_⟩
  · obtain ⟨busy, begins⟩ := requestRow_storeGuarded h hargs handleSave_nil
    exact ⟨busy, fun idle silent =>
      ⟨imageOf (taken s f rest), begins idle silent, rfl, rfl, rfl, rfl, rfl, rfl⟩⟩
  · exact ⟨exec_saveComplete_success saving,
      ⟨_, exec_saveComplete_failure saving, cutImage_config .., cutImage_route .., cutSection_cases ..,
        cutSection_cases .., cutSection_cases ..⟩,
      exec_saveTimeout_late saving, exec_saveTimeout_early saving⟩
  · cases ha : s.store.activity with
    | saving copy elapsed => exact absurd ha (notSaving copy elapsed)
    | idle | writing | erasing | restoring =>
      constructor <;> (change Host.Outcome.next _ = _; rw [ha])

end Sys2Proof.Machine
end

section
/-! PROOF. O4: RESTART (R192). -/

namespace Sys2Proof.Machine

variable {s : State}

theorem handleRestart_busy (h : s.store.activity ≠ .idle) : handleRestart [] s = refuse .busy s := if_pos (storeBusy_eq h)

theorem handleRestart_idle (h : s.store.activity = .idle) : handleRestart [] s = done [] (restart s) := by
  have idle : ¬storeIdle s = false := by rw [storeIdle_iff.2 h]; decide
  exact if_neg idle

/-- A restart takes the seats and the generators from `State.reset`. -/
theorem restart_restraint (s : State) : (restart s).restraint = State.reset.restraint := rfl
theorem restart_density (s : State) : (restart s).density = State.reset.density := rfl

/-- The Mode Controller keeps the protection fault count (R192). -/
theorem restart_mc (s : State) :
    (restart s).mc = ⟨.offline, .none, false, false, none, none, none, s.mc.protectionFaults, 0⟩ := rfl

/-- Settles O4: BUSY, or the state after a restart, block by block. -/
theorem restartKeepsLogAndCounters : Obligations.RestartKeepsLogAndCounters := by
  refine fun f rest s h hargs => ⟨fun busy => requestRow_answers h hargs (handleRestart_busy busy), fun idle => ?_⟩
  refine ⟨restart (taken s f rest), requestRow_answers h hargs (handleRestart_idle idle), rfl, rfl, rfl, rfl, ?_, rfl, rfl,
    rfl, rfl, rfl, fun i => ?_, rfl, rfl, rfl, rfl, rfl, rfl, fun g => ?_, rfl, rfl, rfl⟩
  · rw [restart_mc, taken_protectionFaults]
  · rw [restart_restraint]
    exact reset_seat i
  · rw [restart_density]
    exact reset_density g

end Sys2Proof.Machine
end

section
/-! PROOF. O5 fails: the permit level that the completion of start-up forms need not be the one its seats ask for. The statement
gives the level for every state, also for one that is not at rest. In RUN a release in progress ends as the permit rises to RUN
(R79), and its seats are OPEN after the level was formed from them. No start-up reaches such a state: it runs in OFFLINE
(`SteeringHeld.startUp`, O59). -/

namespace Sys2Proof.Machine

variable {s : State}

/-! ## A completion that finds nothing to change in terminals and seats -/

/-- A level that is formed as it stands, with no count and no change due, leaves the terminals as they are. -/
theorem setFiltered_settled {i : Fin 27} {level : Bool} (hf : s.terminals.filtered[i] = level)
    (hd : s.terminals.debounce[i] = 0) (hc : s.terminals.changeDue[i] = false) : setFiltered i level s = s := by
  have filtered : s.terminals.filtered.set i level = s.terminals.filtered := hf ▸ Vector.set_getElem_self _
  have debounce : s.terminals.debounce.set i 0 = s.terminals.debounce := hd ▸ Vector.set_getElem_self _
  have changeDue : s.terminals.changeDue.set i false = s.terminals.changeDue := hc ▸ Vector.set_getElem_self _
  rw [setFiltered, modTerminals_eq, filtered, debounce, changeDue]
  rfl

/-- With the terminals as after a reset, a map without sources forms every level as it is (R145). -/
theorem applyMap_unsourced (ht : s.terminals = State.reset.terminals) (hp : ∀ i : Fin 27, s.params.sources[i] = none) :
    applyMap s = s := by
  have cleared : modTerminals s (fun t =>
      { t with mismatch := Vector.replicate 40 0, mismatchDue := Vector.replicate 40 false }) = s := by
    rw [modTerminals_eq, ht]
    exact (congrArg s.setTerminals ht).symm
  have settled (i : Fin 27) : applyInput s i = s := by
    have inactive : s.terminals.filtered[i] = false := by rw [ht]; exact Vector.getElem_replicate ..
    have unsourced : conditioned s.params s.terminals.sampled i = false := by rw [conditioned, hp i]
    have same : setFiltered i false s = s :=
      setFiltered_settled inactive (by rw [ht]; exact Vector.getElem_replicate ..)
        (by rw [ht]; exact Vector.getElem_replicate ..)
    simp only [applyInput, unsourced, inactive, if_true, same]
  rw [applyMap, cleared]
  exact List.foldl_fixed' settled _

/-- Where every seat is enabled already, none enters evaluation (R62). -/
theorem enableSeats_enabled (h : ∀ i : Fin 8, inMask s.params.seatMask i = true ∧ seatState s i ≠ .disabled) :
    enableSeats s = s := by
  refine List.foldl_fixed' (fun i => ?_) _
  obtain ⟨masked, enabled⟩ := h i
  simp only [maskSeat, masked, if_true, if_neg enabled]

/-- The configuration that start-up has chosen in force, before the permit is formed. -/
def configured (s : State) : State :=
  { s with
    startUp := { s.startUp with phase := .complete }, params := s.startUp.chosen
    store := { s.store with activity := .idle } }

theorem completeStartUp_settled (ht : s.terminals = State.reset.terminals)
    (hp : ∀ i : Fin 27, s.startUp.chosen.sources[i] = none)
    (hs : ∀ i : Fin 8, inMask s.startUp.chosen.seatMask i = true ∧ seatState s i ≠ .disabled) :
    completeStartUp s = formCeilings (refreshPermit (configured s)) := by
  have map := applyMap_unsourced (s := modStore (s.setParams s.startUp.chosen) fun x => { x with activity := .idle }) ht hp
  have seats := enableSeats_enabled (s := modStore (s.setParams s.startUp.chosen) fun x => { x with activity := .idle }) hs
  rw [completeStartUp]
  dsimp only
  rw [map, seats]
  rfl

/-! ## The counterexample -/

/-- The last section is to be read; but the mode is RUN, the position is confirmed, every seat is VERIFIED, and seat 1 waits in
the release queue. -/
def ridingStartUp : State :=
  { State.reset with
    startUp := ⟨.table .clip, Params.defaults⟩
    mc := { State.reset.mc with mode := .run }
    tracker := { State.reset.tracker with position := .sync }
    restraint := { State.reset.restraint with
      seats := Vector.replicate 8 { Seat.afterReset with state := .verified }, queue := [0] } }

/-- The read that fails is the last one, so start-up completes (R191). -/
theorem exec_sectionRead_riding :
    exec (.sectionRead false) ridingStartUp = .next (formCeilings (refreshPermit (configured ridingStartUp))) :=
  congrArg Host.Outcome.next (completeStartUp_settled rfl (by decide) (by decide))

/-- The permit rises to RUN, and the release that it ends leaves seat 1 OPEN (R79). -/
theorem refreshPermit_riding :
    (formCeilings (refreshPermit (configured ridingStartUp))).permit.level = .run ∧
      seatState (formCeilings (refreshPermit (configured ridingStartUp))) 0 = .open := by
  decide

/-- Refutes O5: start-up completes with the permit RUN while seat 1 is OPEN, where R155 asks for STOP. -/
theorem not_startUpReadsStrapAndSections : ¬Obligations.StartUpReadsStrapAndSections := by
  rintro ⟨-, -, -, -, -, -, -, notGood⟩
  obtain ⟨t, reads, goesOn⟩ := notGood ridingStartUp .clip false rfl (.inl rfl)
  obtain rfl := Host.Outcome.next.inj (exec_sectionRead_riding.symm.trans reads)
  have completed := goesOn.completes rfl
  obtain ⟨level, seat⟩ := refreshPermit_riding
  have notReady : ¬SeatsReady (formCeilings (refreshPermit (configured ridingStartUp))) := fun ready =>
    absurd (ready 0) (by rw [seat]; decide)
  have stop := completed.level.stop nofun rfl (.inr notReady)
  exact absurd (level.symm.trans stop) nofun

end Sys2Proof.Machine
end

section
/-! PROOF. O37 fails: a value that names no edge sense is taken as NONE. In the last equation of `EdgeSense.ofCode` the name
`none` is the edge sense NONE, so SET_PARAM of an edge sense answers DONE where R188 refuses ARGUMENT. -/

namespace Sys2Proof.Machine

/-- SET_PARAM of the edge sense of LOCK_A (24 hex) with the value 4, a code of no edge sense. -/
def senselessWrite : Frame :=
  { address := 1, addressing := .unicast, capture := ⟨0, 0, 0, 0⟩, source := .rc, tag := 0,
    kind := BitVec.ofNat 8 Kind.setParam.code, args := [0, 0x24, 0, 0, 0, 4] }

/-- The part after start-up, with that request at the head of the queue. -/
def senselessAsked : State :=
  { State.reset with
    startUp := ⟨.complete, Params.defaults⟩, wli := { State.reset.wli with queue := [senselessWrite] } }

theorem senselessWrite_admitted : Admitted .setParam senselessWrite [] senselessAsked where
  queue := rfl
  kind := rfl
  unicast := rfl
  room := by decide
  running := rfl
  authority := rfl
  preface := nofun
  mode := rfl

/-- The code 4 is read as NONE. -/
theorem EdgeSense.ofCode_four : EdgeSense.ofCode 4 = some EdgeSense.none := rfl

theorem Params.assign_edgeSense_four (p : Params) (i : Fin 3) :
    p.assign (.edgeSense i) 4 = some { p with edgeSense := p.edgeSense.set i .none } := by
  have named : (codeOf 4).bind EdgeSense.ofCode = some .none := EdgeSense.ofCode_four
  simp only [Params.assign, named, Option.map_some]

/-- A write that no check of R188 refuses. -/
theorem writeParam_taken {s : State} {p : Params} {id : ParamId} {value : Int} (number : Nat) (hr : id.readOnly = false)
    (hm : id.anyMode = true ∨ s.mc.mode = .offline) (hb : writeBlocked s id = false)
    (hp : s.params.assign id (id.applied value).1 = some p) :
    writeParam number id value s =
      doneOr (id.applied value).2 (paramData number (id.applied value).1) (paramWritten id (s.setParams p)) := by
  have mode : (id.anyMode || s.mc.mode == .offline) = true := by rcases hm with h | h <;> simp [h]
  simp [writeParam, hr, mode, hb, hp]

theorem handleSetParam_named {n1 n0 v3 v2 v1 v0 : Byte} {id : ParamId} {s : State}
    (h : ParamId.ofNumber (beNat [n1, n0]) = some id) :
    handleSetParam [n1, n0, v3, v2, v1, v0] s = writeParam (beNat [n1, n0]) id (beInt [v3, v2, v1, v0]) s := by
  simp only [handleSetParam, h]

/-- The model takes the value in any mode, and answers DONE. -/
theorem handleSetParam_senseless (s : State) : ∃ data t, handleSetParam [0, 0x24, 0, 0, 0, 4] s = done data t := by
  have named : ParamId.ofNumber (beNat [0, 0x24]) = some (.edgeSense 0) := by
    rw [beNat_two]
    rfl
  have value : beInt [0, 0, 0, 4] = 4 := by decide
  have accepted (number : Nat) := writeParam_taken (s := s) (id := .edgeSense 0) (value := 4) number rfl (.inl rfl) rfl
    (Params.assign_edgeSense_four s.params 0)
  rw [handleSetParam_named named, value, accepted]
  exact ⟨_, _, rfl⟩

/-- Refutes O37: a value that names no edge sense is answered DONE, not ARGUMENT. -/
theorem not_parametersAreWrittenAndRead : ¬Obligations.ParametersAreWrittenAndRead := by
  rintro ⟨-, enumerated, -⟩
  obtain ⟨-, inMode⟩ := enumerated senselessWrite [] senselessAsked 0 0x24 0 0 0 4 (.edgeSense 0)
    senselessWrite_admitted rfl rfl rfl rfl
  obtain ⟨refuses, -⟩ := inMode (.inl rfl)
  have senseless : ¬(ParamId.edgeSense 0).takes (beInt [0, 0, 0, 4]) := fun takes => absurd takes.2 (by decide)
  have refused := refuses senseless
  obtain ⟨data, t, accepted⟩ := handleSetParam_senseless (taken senselessAsked senselessWrite [])
  have answer : exec .setParam senselessAsked = _ := requestRow_admitted senselessWrite_admitted accepted
  exact absurd (answered_status (Host.Outcome.next.inj (answer.symm.trans refused))) nofun

end Sys2Proof.Machine
end

section
/-! PROOF. O1: a step with a command waiting, the third case of a step beside `step_due` and `step_tick`. -/

namespace Sys2Proof.Machine

theorem step_command {c : Instr} {rest : List Instr} {s : State} (hp : s.pending = c :: rest) :
    step s = exec c (s.setPending rest) := by
  unfold step
  rw [hp]

/-- Settles O1: the queue's front is `c`, and what `exec` runs on holds the rest in place of the whole queue. -/
theorem stepTakesFrontCommand : Obligations.StepTakesFrontCommand := by
  intro c rest s
  have restWaits : State.setPending { s with pending := c :: rest } rest = { s with pending := rest } := rfl
  rw [step_command rfl, restWaits]

end Sys2Proof.Machine
end

section
/-! SUPPORT. A release that goes on as it is or is ended (R79): what the permit, mode changes, faults and the judging of READY and
of berthing can do to the Restraint Monitor. -/

namespace Sys2Proof.Machine

variable {s t u : State}

/-! ## The relation -/

/-- The Terminal Matrix and start-up stay, and the Restraint Monitor stays as it is, or its release is ended. -/
structure GoesOrEnds (s t : State) : Prop where
  terminals : t.terminals = s.terminals
  startUp : t.startUp = s.startUp
  restraint : t.restraint = s.restraint ∨ t.restraint = (endRelease s).restraint

theorem GoesOrEnds.refl (s : State) : GoesOrEnds s s := ⟨rfl, rfl, .inl rfl⟩

theorem GoesOrEnds.of_same (ht : t.terminals = s.terminals) (hu : t.startUp = s.startUp)
    (hr : t.restraint = s.restraint) : GoesOrEnds s t := ⟨ht, hu, .inl hr⟩

/-- A release that has ended has nothing left to end. -/
theorem endRelease_again (s : State) : (endRelease (endRelease s)).restraint = (endRelease s).restraint := by
  obtain ⟨-, others, summary, queue, energised⟩ := endRelease_ended (endRelease s)
  have seats : (endRelease (endRelease s)).restraint.seats = (endRelease s).restraint.seats :=
    Vector.ext fun i hi => others ⟨i, hi⟩ List.not_mem_nil List.not_mem_nil
  change Restraint.mk (endRelease (endRelease s)).restraint.seats true [] [] = _
  rw [seats]
  rfl

theorem GoesOrEnds.trans (h : GoesOrEnds s t) (k : GoesOrEnds t u) : GoesOrEnds s u where
  terminals := k.terminals.trans h.terminals
  startUp := k.startUp.trans h.startUp
  restraint := by
    rcases k.restraint with goes | ends
    · rw [goes]
      exact h.restraint
    · right
      rcases h.restraint with same | ended
      · exact ends.trans (endRelease_restraint_congr same h.terminals)
      · exact ends.trans ((endRelease_restraint_congr (s := endRelease s) ended h.terminals).trans (endRelease_again s))

theorem GoesOrEnds.ite {c : Prop} [Decidable c] (h : GoesOrEnds s t) (k : GoesOrEnds s u) :
    GoesOrEnds s (if c then t else u) := by
  split
  · exact h
  · exact k

theorem OnlyShow.goesOrEnds (h : OnlyShow s t) : GoesOrEnds s t := .of_same h.terminals h.startUp h.restraint

/-! ## The operations -/

theorem judgeRelease_goesOrEnds (s : State) : GoesOrEnds s (judgeRelease s) :=
  ⟨judgeRelease_terminals s, judgeRelease_startUp s, judgeRelease_restraint_cases s⟩

theorem refreshPermit_goesOrEnds (s : State) : GoesOrEnds s (refreshPermit s) :=
  ⟨refreshPermit_terminals s, refreshPermit_startUp s, refreshPermit_restraint_cases s⟩

theorem formCeilings_goesOrEnds (s : State) : GoesOrEnds s (formCeilings s) :=
  .of_same (formCeilings_terminals s) (formCeilings_startUp s) (formCeilings_restraint s)

theorem permitMoved_goesOrEnds (s : State) : GoesOrEnds s (permitMoved s) :=
  (refreshPermit_goesOrEnds s).trans ((formCeilings_goesOrEnds _).trans (judgeRelease_goesOrEnds _))

theorem releaseAtModeChange_goesOrEnds (old : Mode) (s : State) : GoesOrEnds s (releaseAtModeChange old s) :=
  .ite ⟨rfl, rfl, .inr rfl⟩ (judgeRelease_goesOrEnds s)

theorem enterMode_goesOrEnds (new : Mode) (held : HeldFrom) (s : State) : GoesOrEnds s (enterMode new held s) := by
  have told : GoesOrEnds s (tellBlocks s.mc.mode new (modMc s (ModeController.enter new held))) :=
    .of_same (tellBlocks_terminals ..) (tellBlocks_startUp ..) (tellBlocks_entered ..)
  exact told.trans ((refreshPermit_goesOrEnds _).trans ((formCeilings_goesOrEnds _).trans
    ((releaseAtModeChange_goesOrEnds _ _).trans (dispatchScene_only _ _).goesOrEnds)))

theorem raiseFault_goesOrEnds (k : FaultKind) (sub : SubCause) (d : Nat) (s : State) :
    GoesOrEnds s (raiseFault k sub d s) := by
  have recorded : GoesOrEnds s (recordFault k sub d s) := .of_same rfl rfl rfl
  unfold raiseFault
  dsimp only
  split
  · exact recorded
  · exact recorded.trans (.of_same rfl rfl rfl)
  all_goals exact recorded.trans (enterMode_goesOrEnds ..)

theorem rcCheck_goesOrEnds (s : State) : GoesOrEnds s (rcCheck s) := by
  have reported : GoesOrEnds s (modWli s fun w => { w with rcReported := true }) := .of_same rfl rfl rfl
  exact .ite (reported.trans (raiseFault_goesOrEnds ..)) (.refl s)

theorem takeFault_goesOrEnds (k : FaultKind) (sub : SubCause) (d : Nat) (s : State) :
    GoesOrEnds s (takeFault k sub d s) :=
  .ite (raiseFault_goesOrEnds ..) ((raiseFault_goesOrEnds ..).trans (rcCheck_goesOrEnds _))

theorem changeMode_goesOrEnds (new : Mode) (held : HeldFrom) (s : State) : GoesOrEnds s (changeMode new held s) :=
  (enterMode_goesOrEnds new held s).trans (rcCheck_goesOrEnds _)

theorem evalReady_goesOrEnds (s : State) : GoesOrEnds s (evalReady s) := by
  unfold evalReady
  split
  · exact .ite (changeMode_goesOrEnds ..) (.refl s)
  · exact .ite (.refl s) (changeMode_goesOrEnds ..)
  all_goals exact .refl s

theorem evalBerth_goesOrEnds (s : State) : GoesOrEnds s (evalBerth s) := by
  have berthed : GoesOrEnds s (modMc s fun m => { m with berthed := true, berthReached := true }) := .of_same rfl rfl rfl
  exact .ite (berthed.trans (permitMoved_goesOrEnds _)) (.refl s)

theorem seatMoved_goesOrEnds (i : Fin 8) (old : SeatState) (s : State) : GoesOrEnds s (seatMoved i old s) :=
  .ite (.refl s) ((refreshPermit_goesOrEnds s).trans
    ((GoesOrEnds.ite (takeFault_goesOrEnds ..) (.refl _)).trans (evalReady_goesOrEnds _)))

/-! ## What such a move leaves of the seats -/

/-- The latches stand, and with them the summary: the end of a release only sets release failed (R69, R79). -/
theorem GoesOrEnds.solenoidFault (h : GoesOrEnds s t) {i : Fin 8}
    (latched : (s.restraint.seats[i]).latches.solenoidFault = true) (summary : s.restraint.summary = true) :
    (t.restraint.seats[i]).latches.solenoidFault = true ∧ t.restraint.summary = true := by
  rcases h.restraint with goes | ends
  · rw [goes]
    exact ⟨latched, summary⟩
  · have ended := ReleaseEnded.of_restraint ends
    refine ⟨?_, ended.summary⟩
    by_cases pending : i ∈ s.restraint.queue ∨ i ∈ s.restraint.energised
    · rw [ended.dropped i pending]
      exact latched
    · obtain ⟨notQueued, notEnergised⟩ := not_or.1 pending
      rw [ended.others i notQueued notEnergised]
      exact latched

end Sys2Proof.Machine
end

section
/-! PROOF. O25: CLEAR_SEAT_EVENTS (R70). The latches that it clears, the summary over those left, and the nine bytes that answer
it. -/

namespace Sys2Proof.Machine

/-- A seat has no latch set exactly where its latches are clear (R68). -/
theorem Latches.any_iff (l : Latches) : l.any = true ↔ l ≠ Latches.clear := by
  obtain ⟨lockA, lockB, barDown, disagree, done, failed, solenoid⟩ := l
  simp only [Latches.any, Latches.clear, ne_eq, Latches.mk.injEq, Bool.or_eq_true, not_and_or, Bool.not_eq_false]
  tauto

theorem Restraint.anyLatch_iff (r : Restraint) :
    r.anyLatch = true ↔ ∃ i : Fin 8, (r.seats[i]).latches ≠ Latches.clear := by
  simp only [Restraint.anyLatch, List.any_eq_true, mem_allSeats, true_and, Latches.any_iff]

theorem clearLatches_seat (mask : Byte) (r : Restraint) (i : Fin 8) : (clearLatches mask r).seats[i] =
    if mask.getLsbD i.val = true ∧ (r.seats[i]).state ≠ .disabled then { r.seats[i] with latches := Latches.clear }
    else r.seats[i] := by
  have seat : (clearLatches mask r).seats[i] = if inMask mask i && (r.seats[i]).state != .disabled then
      { r.seats[i] with latches := Latches.clear } else r.seats[i] := Vector.getElem_ofFn ..
  rw [seat]
  simp only [inMask, Bool.and_eq_true, bne_iff_ne]

/-- One byte of latches for each seat (R186). -/
theorem latchBytes_eq (s : State) :
    latchBytes s = List.ofFn fun i : Fin 8 => BitVec.ofNat 8 (s.restraint.seats[i]).latches.byte := rfl

theorem clearSeatEvents_data (s : State) (b : Byte) :
    (latchBytes s ++ [b]).length = 9 ∧
      (∀ i : Fin 8, (latchBytes s ++ [b])[i.val]? = some (BitVec.ofNat 8 (s.restraint.seats[i]).latches.byte)) ∧
      (latchBytes s ++ [b])[8]? = some b := by
  have length : (latchBytes s).length = 8 := by rw [latchBytes_eq, List.length_ofFn]
  refine ⟨by rw [List.length_append, length]; rfl, fun i => ?_, ?_⟩
  · rw [List.getElem?_append_left (by rw [length]; exact i.isLt), latchBytes_eq, List.getElem?_ofFn, dif_pos i.isLt]
  · rw [List.getElem?_append_right (by rw [length]), length]
    rfl

theorem handleClearSeatEvents_eq (mask : Byte) (s : State) : handleClearSeatEvents [mask] s =
    done (latchBytes s ++ [if (clearLatches mask s.restraint).summary then 1 else 0])
      { s with restraint := clearLatches mask s.restraint } := by
  have flagged (b : Bool) : flag b = [if b then 1 else 0] := by cases b <;> rfl
  rw [← flagged]
  rfl

/-- Settles O25: the named seats lose their latches, and the answer is the latches as they stood with the new summary. -/
theorem clearSeatEventsClearsLatches : Obligations.ClearSeatEventsClearsLatches := by
  intro f rest s mask admitted hargs
  exact ⟨clearLatches mask s.restraint, _,
    requestRow_answers admitted hargs (handleClearSeatEvents_eq mask (taken s f rest)), rfl, rfl, clearLatches_seat mask _,
    Restraint.anyLatch_iff _, clearSeatEvents_data s _⟩

end Sys2Proof.Machine
end

section
/-! PROOF. O29: SOLENOID_MISMATCH (R81, R147) and AMP_NOT_READY (R61). -/

namespace Sys2Proof.Machine

variable {s : State} {n : Fin 40} {k : Fin 8}

/-- A solenoid fault latched; a DISABLED seat has no latches (R68, R81). -/
def solenoidLatched (k : Fin 8) (s : State) : State :=
  if seatState s k = .disabled then s
  else modRestraint s fun r => r.latch k fun l => { l with solenoidFault := true }

theorem solenoidReport_eq (k : Fin 8) (s : State) : solenoidReport k s =
    if (solenoidLatched k s).mc.mode.online then takeFault .solenoid .none (k.val + 1) (solenoidLatched k s)
    else solenoidLatched k s := rfl

theorem solenoidLatched_eq (k : Fin 8) (s : State) :
    solenoidLatched k s = { s with restraint := (solenoidLatched k s).restraint } := by
  unfold solenoidLatched
  split <;> rfl

theorem solenoidLatched_latches (h : seatState s k ≠ .disabled) :
    ((solenoidLatched k s).restraint.seats[k]).latches.solenoidFault = true ∧
      (solenoidLatched k s).restraint.summary = true := by
  rw [solenoidLatched, if_neg h]
  refine ⟨?_, rfl⟩
  rw [modRestraint_eq, State.setRestraint_restraint, latch_seat]

theorem solenoidReport_offline (h : s.mc.mode = .offline) : solenoidReport k s = solenoidLatched k s := by
  rw [solenoidReport_eq, solenoidLatched_eq, if_neg (by simp [Mode.online, h])]

theorem solenoidReport_online (h : s.mc.mode ≠ .offline) :
    solenoidReport k s = takeFault .solenoid .none (k.val + 1) (solenoidLatched k s) := by
  rw [solenoidReport_eq, solenoidLatched_eq, if_pos (by simp [Mode.online, h])]

/-- The latch outlasts the fault that it brings, which can only end a release (R79). -/
theorem solenoidReport_latches (h : seatState s k ≠ .disabled) :
    ((solenoidReport k s).restraint.seats[k]).latches.solenoidFault = true ∧
      (solenoidReport k s).restraint.summary = true := by
  obtain ⟨latched, summary⟩ := solenoidLatched_latches h
  by_cases offline : s.mc.mode = .offline
  · rw [solenoidReport_offline offline]
    exact ⟨latched, summary⟩
  · rw [solenoidReport_online offline]
    exact (takeFault_goesOrEnds ..).solenoidFault latched summary

/-- The report of terminal `n` taken. -/
def mismatchTaken (n : Fin 40) (s : State) : State :=
  modTerminals s fun m => { m with mismatchDue := m.mismatchDue.set n false }

theorem execSolenoidMismatch_release (due : s.terminals.mismatchDue[n] = true)
    (output : s.params.outputs[n] = .release k) :
    exec (.solenoidMismatch n) s = .next (solenoidReport k (mismatchTaken n s)) := by
  change Host.Outcome.next (if s.terminals.mismatchDue[n] = true then _ else s) = _
  rw [if_pos due, output]
  rfl

theorem execSolenoidMismatch_idle (h : s.terminals.mismatchDue[n] = false) : exec (.solenoidMismatch n) s = .next s := by
  change Host.Outcome.next (if s.terminals.mismatchDue[n] = true then _ else s) = _
  rw [if_neg (by simp [h])]

theorem solenoidReport_terminals (k : Fin 8) (s : State) : (solenoidReport k s).terminals = s.terminals := by
  rw [(solenoidReport_keeps k s).terminals]

theorem solenoidReport_tracker (k : Fin 8) (s : State) : (solenoidReport k s).tracker = s.tracker := by
  rw [solenoidReport_eq]
  split
  · rw [takeFault_tracker, solenoidLatched_eq]
  · rw [solenoidLatched_eq]

theorem execAmpNotReady_due (online : s.mc.mode ≠ .offline) (due : 101 ≤ s.steering.ampWait) :
    exec .ampNotReady s = .next (takeFault .ampNotReady .none 0 s) :=
  congrArg Host.Outcome.next (if_pos (by simp [ampNotReadyDue, Mode.online, online, due]))

theorem execAmpNotReady_idle (h : s.mc.mode = .offline ∨ s.steering.ampWait ≤ 100) : exec .ampNotReady s = .next s := by
  refine congrArg Host.Outcome.next (if_neg ?_)
  rcases h with offline | early
  · simp [ampNotReadyDue, Mode.online, offline]
  · have : ¬101 ≤ s.steering.ampWait := by omega
    simp [ampNotReadyDue, this]

/-- Settles O29: the latch, and online the fault. -/
theorem outputFaultsAreReported : Obligations.OutputFaultsAreReported := by
  refine ⟨fun n k s due output => ⟨_, execSolenoidMismatch_release due output, ?_, ?_, fun enabled => ?_, fun offline => ?_,
    fun online => ?_⟩, fun n s => execSolenoidMismatch_idle, fun s online due => ?_, fun s => execAmpNotReady_idle⟩
  · rw [solenoidReport_terminals]
    exact Vector.getElem_set_self ..
  · exact solenoidReport_tracker k _
  · exact solenoidReport_latches (s := mismatchTaken n s) enabled
  · rw [solenoidReport_offline (s := mismatchTaken n s) offline, solenoidLatched_eq]
    exact ⟨rfl, rfl⟩
  · have faulted : FaultTaken .solenoid (k.val + 1) (solenoidLatched k (mismatchTaken n s))
        (solenoidReport k (mismatchTaken n s)) := by
      rw [solenoidReport_online (s := mismatchTaken n s) online]
      exact takeFault_taken _ _ (by rw [solenoidLatched_eq]; exact online)
    exact ⟨faulted.halt, faulted.active⟩
  · have faulted := takeFault_taken .ampNotReady 0 online
    exact ⟨_, execAmpNotReady_due online due, (takeFault_keeps ..).toSameGround, takeFault_tracker .., faulted.halt,
      faulted.active⟩

end Sys2Proof.Machine
end

section
/-! SUPPORT. The order of a release and the permit level as kept conditions (R74, R79, R155): what they ask of a state, the three
relations in which operations keep them, and the permit, mode changes, faults and judgings of the vehicle. -/

namespace Sys2Proof.Machine

variable {s t u : State}

/-! ## A release in order -/

/-- The seats that wait for their solenoid or drive it are the RELEASING ones, each once, and two at most drive it. -/
structure Restraint.Ordered (r : Restraint) : Prop where
  distinct : (r.queue ++ r.energised).Nodup
  budget : r.energised.length ≤ 2
  releasing : ∀ i : Fin 8, (i ∈ r.queue ∨ i ∈ r.energised) ↔ (r.seats[i]).state = .releasing

/-- None waits while fewer than two are energised. -/
def Restraint.Filled (r : Restraint) : Prop := r.queue ≠ [] → r.energised.length = 2

/-- A release in order, of which there is none during start-up. -/
structure ReleaseOrdered (s : State) : Prop where
  order : s.restraint.Ordered
  startUp : s.startUp.phase ≠ .complete → s.restraint.queue = [] ∧ s.restraint.energised = []

/-- A release in progress meets its condition (R79). -/
def ReleaseJudged (s : State) : Prop := releaseInProgress s = true → releaseCondition s = true

theorem releaseHeld_iff : ReleaseHeld s ↔ ReleaseOrdered s ∧ s.restraint.Filled ∧ ReleaseJudged s := by
  constructor
  · intro h
    exact ⟨⟨⟨h.distinct, h.budget, h.releasing⟩, h.startUp⟩, h.filled,
      fun hp => releaseCondition_iff.2 (h.allowed (releaseInProgress_iff.1 hp))⟩
  · rintro ⟨⟨order, startUp⟩, filled, judged⟩
    have allowed : s.restraint.queue ≠ [] ∨ s.restraint.energised ≠ [] → ReleaseAllowed s := fun hp =>
      releaseCondition_iff.1 (judged (releaseInProgress_iff.2 hp))
    exact ⟨order.distinct, order.budget, filled, allowed, order.releasing,
      fun i hi => (allowed (((order.releasing i).2 hi).imp List.ne_nil_of_mem List.ne_nil_of_mem)).permit, startUp⟩

theorem Picture.seatState_unready (p : Picture) : p.seatState.ready = false ∧ p.seatState ≠ .releasing := by
  unfold Picture.seatState
  split_ifs <;> exact ⟨rfl, nofun⟩

theorem ReleaseEnded.ordered (h : ReleaseEnded s t) (ho : s.restraint.Ordered) : t.restraint.Ordered where
  distinct := by
    rw [h.queue, h.energised]
    exact List.nodup_nil
  budget := by
    rw [h.energised]
    exact Nat.zero_le 2
  releasing i := by
    have none : ¬(i ∈ t.restraint.queue ∨ i ∈ t.restraint.energised) := by simp [h.queue, h.energised]
    refine ⟨fun hi => absurd hi none, fun hi => ?_⟩
    by_cases pending : i ∈ s.restraint.queue ∨ i ∈ s.restraint.energised
    · rw [h.dropped i pending] at hi
      exact absurd hi (Picture.seatState_unready _).2
    · obtain ⟨notQueued, notEnergised⟩ := not_or.1 pending
      rw [h.others i notQueued notEnergised] at hi
      exact absurd ((ho.releasing i).2 hi) pending

theorem GoesOrEnds.ordered (h : GoesOrEnds s t) (ho : ReleaseOrdered s) : ReleaseOrdered t := by
  rcases h.restraint with goes | ends
  · exact ⟨goes ▸ ho.order, by rw [goes, h.startUp]; exact ho.startUp⟩
  · have ended := ReleaseEnded.of_restraint ends
    exact ⟨ended.ordered ho.order, fun _ => ⟨ended.queue, ended.energised⟩⟩

theorem GoesOrEnds.filled (h : GoesOrEnds s t) (hf : s.restraint.Filled) : t.restraint.Filled := by
  rcases h.restraint with goes | ends
  · rwa [goes]
  · exact fun hq => absurd (ReleaseEnded.of_restraint ends).queue hq

/-- Neither a RELEASING seat nor one that leaves its release has readiness. -/
theorem GoesOrEnds.ready (h : GoesOrEnds s t) (ho : s.restraint.Ordered) (i : Fin 8) :
    (seatState t i).ready = (seatState s i).ready := by
  rcases h.restraint with goes | ends
  · rw [seatState, goes]
    rfl
  · have ended := ReleaseEnded.of_restraint ends
    by_cases pending : i ∈ s.restraint.queue ∨ i ∈ s.restraint.energised
    · have before : seatState s i = .releasing := (ho.releasing i).1 pending
      rw [seatState, ended.dropped i pending, before]
      exact (Picture.seatState_unready _).1
    · obtain ⟨notQueued, notEnergised⟩ := not_or.1 pending
      rw [seatState, ended.others i notQueued notEnergised]
      rfl

/-! ## The permit level -/

/-- Until start-up completes the permit is EMERGENCY (R154). -/
def PermitRests (s : State) : Prop := s.startUp.phase ≠ .complete → s.permit.level = .emergency

/-- The four terms leave the level no choice. -/
theorem LevelFormed.unique {a b : PermitLevel} (ha : LevelFormed s a) (hb : LevelFormed s b) : a = b := by
  by_cases emergency : s.mc.mode = .halt ∨ s.terminals.filtered[(25 : Fin 27)] = true
  · rw [ha.emergency emergency, hb.emergency emergency]
  · obtain ⟨notHalt, stop⟩ := not_or.1 emergency
    have stop : s.terminals.filtered[(25 : Fin 27)] = false := Bool.eq_false_iff.2 stop
    by_cases stops : ModeStops s ∨ ¬SeatsReady s
    · rw [ha.stop notHalt stop stops, hb.stop notHalt stop stops]
    · obtain ⟨goes, ready⟩ := not_or.1 stops
      have ready := not_not.1 ready
      by_cases creeps : s.tracker.position = .unsync ∨
          (s.mc.advance ≠ none ∧ (s.mc.mode = .load ∨ s.mc.mode = .unload))
      · rw [ha.creep notHalt stop goes ready creeps, hb.creep notHalt stop goes ready creeps]
      · obtain ⟨notUnsync, noAdvance⟩ := not_or.1 creeps
        have sync : s.tracker.position = .sync := by
          cases position : s.tracker.position
          · exact absurd position notUnsync
          · rfl
        have runs : s.mc.mode = .run ∨ (s.mc.mode = .unload ∧ s.mc.advance = none ∧ s.mc.berthed = false) := by
          simp only [ModeStops, not_or, not_and] at goes
          cases mode : s.mc.mode <;> simp_all
        rw [ha.run stop ready sync runs, hb.run stop ready sync runs]

theorem levelHeld_iff :
    LevelHeld s ↔ PermitRests s ∧ (s.startUp.phase = .complete → s.permit.level = permitLevelOf s) :=
  ⟨fun h => ⟨h.startUp, fun hc => (h.formed hc).unique permitLevelOf_formed⟩,
    fun ⟨rests, formed⟩ => ⟨rests, fun hc => formed hc ▸ permitLevelOf_formed⟩⟩

/-- The level is a function of the mode permit, the position state, the seats' readiness and ONBOARD_STOP (R155). -/
theorem permitLevelOf_congr (hm : modePermit t.mc = modePermit s.mc) (hp : t.tracker.position = s.tracker.position)
    (hr : ∀ i, (seatState t i).ready = (seatState s i).ready) (ho : onboardStop t = onboardStop s) :
    permitLevelOf t = permitLevelOf s := by
  have ready : allReady t = allReady s := by simp only [allReady, hr]
  simp only [permitLevelOf, hm, hp, ready, ho]

/-! ## Three relations -/

/-- A release stays in order, with its energised set filled, and the permit rests until start-up completes. -/
structure OrderKept (s t : State) : Prop where
  ordered : ReleaseOrdered s → ReleaseOrdered t
  filled : ReleaseOrdered s → s.restraint.Filled → t.restraint.Filled
  rests : ReleaseOrdered s → PermitRests s → PermitRests t

theorem OrderKept.refl (s : State) : OrderKept s s := ⟨id, fun _ => id, fun _ => id⟩

theorem OrderKept.trans (h : OrderKept s t) (k : OrderKept t u) : OrderKept s u :=
  ⟨k.ordered ∘ h.ordered, fun ho hf => k.filled (h.ordered ho) (h.filled ho hf),
    fun ho hr => k.rests (h.ordered ho) (h.rests ho hr)⟩

theorem OrderKept.of_goes (h : GoesOrEnds s t) (hl : PermitRests s → PermitRests t) : OrderKept s t :=
  ⟨h.ordered, fun _ => h.filled, fun _ => hl⟩

theorem OrderKept.of_same (hr : t.restraint = s.restraint) (hu : t.startUp.phase = .complete ↔ s.startUp.phase = .complete)
    (hl : t.permit.level = s.permit.level) : OrderKept s t :=
  ⟨fun h => ⟨hr ▸ h.order, by rw [hr, ne_eq, hu]; exact h.startUp⟩, fun _ hf => hr ▸ hf, fun _ h hc => by
    rw [hl]
    exact h (hu.not.1 hc)⟩

/-- And a release in progress goes on meeting its condition. -/
structure JudgedKept (s t : State) : Prop extends OrderKept s t where
  judged : ReleaseOrdered s → ReleaseJudged s → ReleaseJudged t

theorem JudgedKept.refl (s : State) : JudgedKept s s := ⟨.refl s, fun _ => id⟩

theorem JudgedKept.trans (h : JudgedKept s t) (k : JudgedKept t u) : JudgedKept s u :=
  ⟨h.toOrderKept.trans k.toOrderKept, fun ho hj => k.judged (h.ordered ho) (h.judged ho hj)⟩

theorem JudgedKept.of_same (hr : t.restraint = s.restraint)
    (hu : t.startUp.phase = .complete ↔ s.startUp.phase = .complete) (hl : t.permit.level = s.permit.level)
    (hc : releaseCondition t = releaseCondition s) : JudgedKept s t :=
  ⟨.of_same hr hu hl, fun _ hj hp => hc.trans (hj ((releaseInProgress_congr hr).symm.trans hp))⟩

/-- And the permit level stays formed from its terms. -/
structure DeviceKept (s t : State) : Prop extends JudgedKept s t where
  level : ReleaseOrdered s → LevelHeld s → LevelHeld t

theorem DeviceKept.refl (s : State) : DeviceKept s s := ⟨.refl s, fun _ => id⟩

theorem DeviceKept.trans (h : DeviceKept s t) (k : DeviceKept t u) : DeviceKept s u :=
  ⟨h.toJudgedKept.trans k.toJudgedKept, fun ho hl => k.level (h.ordered ho) (h.level ho hl)⟩

theorem DeviceKept.ite {c : Prop} [Decidable c] (h : DeviceKept s t) (k : DeviceKept s u) :
    DeviceKept s (if c then t else u) := by
  split
  · exact h
  · exact k

/-- A row that does something only where its event is due. -/
theorem DeviceKept.whenDue {c : Prop} [Decidable c] (h : DeviceKept s t) : DeviceKept s (if c then t else s) :=
  .ite h (.refl s)

/-- What the conditions read, as it was. -/
theorem DeviceKept.of_same (hr : t.restraint = s.restraint)
    (hu : t.startUp.phase = .complete ↔ s.startUp.phase = .complete) (hl : t.permit.level = s.permit.level)
    (hc : releaseCondition t = releaseCondition s) (hp : permitLevelOf t = permitLevelOf s) : DeviceKept s t where
  toJudgedKept := .of_same hr hu hl hc
  level ho h := by
    obtain ⟨rests, formed⟩ := levelHeld_iff.1 h
    exact levelHeld_iff.2 ⟨(OrderKept.of_same hr hu hl).rests ho rests, fun hcomplete => by
      rw [hl, hp]
      exact formed (hu.1 hcomplete)⟩

/-- It is enough to show what a move does to releases in order. -/
theorem DeviceKept.of_ordered (h : ReleaseOrdered s → DeviceKept s t) : DeviceKept s t :=
  ⟨⟨⟨fun ho => (h ho).ordered ho, fun ho => (h ho).filled ho, fun ho => (h ho).rests ho⟩, fun ho => (h ho).judged ho⟩,
    fun ho => (h ho).level ho⟩

theorem OnlyShow.deviceKept (h : OnlyShow s t) : DeviceKept s t :=
  .of_same h.restraint (by rw [h.startUp]) (by rw [h.permit]) (releaseCondition_congr h.mc (by rw [h.permit]) (by rw [h.permit]))
    (permitLevelOf_congr (by rw [h.mc]) (by rw [h.tracker]) (fun i => by rw [seatState, h.restraint]; rfl)
      (by rw [onboardStop, h.terminals]; rfl))

/-- A level that is formed stays formed as a release goes on or is ended. -/
theorem GoesOrEnds.levelHeld (h : GoesOrEnds s t) (ho : ReleaseOrdered s) (hl : t.permit.level = s.permit.level)
    (hm : t.mc = s.mc) (ht : t.tracker = s.tracker) (held : LevelHeld s) : LevelHeld t := by
  obtain ⟨rests, formed⟩ := levelHeld_iff.1 held
  have terms : permitLevelOf t = permitLevelOf s :=
    permitLevelOf_congr (by rw [hm]) (by rw [ht]) (h.ready ho.order) (by rw [onboardStop, h.terminals]; rfl)
  refine levelHeld_iff.2 ⟨fun hc => ?_, fun hc => ?_⟩
  · rw [hl]
    exact rests (h.startUp ▸ hc)
  · rw [hl, terms]
    exact formed (h.startUp ▸ hc)

/-! ## The permit formed -/

/-- `t` with the permit level formed from the terms as they stand in it. -/
structure LevelForms (s t : State) : Prop extends OrderKept s t where
  level : ReleaseOrdered s → PermitRests s → LevelHeld t

theorem LevelForms.trans (h : LevelForms s t) (k : DeviceKept t u) : LevelForms s u :=
  ⟨h.toOrderKept.trans k.toOrderKept, fun ho hr => k.level (h.ordered ho) (h.level ho hr)⟩

/-- The terms moved and the level formed again. -/
theorem LevelForms.deviceKept (h : LevelForms t u) (pre : OrderKept s t)
    (hj : ReleaseOrdered s → ReleaseJudged s → ReleaseJudged u) : DeviceKept s u :=
  ⟨⟨pre.trans h.toOrderKept, hj⟩, fun ho hl => h.level (pre.ordered ho) (pre.rests ho hl.startUp)⟩

theorem judgeRelease_judged (s : State) : ReleaseJudged (judgeRelease s) := by
  unfold judgeRelease
  split
  · exact fun hp => absurd hp nofun
  · next h =>
    intro hp
    by_contra fails
    exact h ⟨hp, Bool.eq_false_iff.2 fails⟩

theorem judgeRelease_deviceKept (s : State) : DeviceKept s (judgeRelease s) where
  toOrderKept := .of_goes (judgeRelease_goesOrEnds s) fun h hc => by
    rw [judgeRelease_permit]
    exact h (by rwa [judgeRelease_startUp] at hc)
  judged _ _ := judgeRelease_judged s
  level ho hl := (judgeRelease_goesOrEnds s).levelHeld ho (by rw [judgeRelease_permit]) (judgeRelease_mc s)
    (judgeRelease_tracker s) hl

theorem formCeilings_deviceKept (s : State) : DeviceKept s (formCeilings s) := .of_same rfl .rfl rfl rfl rfl

theorem formAhead_deviceKept (s : State) : DeviceKept s (formAhead s) := by
  unfold formAhead
  split
  · exact DeviceKept.trans (t := modPermit s fun u => { u with ceilingAhead := ceilingAheadOf s })
      (.of_same rfl .rfl rfl rfl rfl) (formCeilings_deviceKept _)
  · exact formCeilings_deviceKept s

/-- During start-up the level is not formed (R154). -/
theorem refreshPermit_startingUp (h : s.startUp.phase ≠ .complete) : refreshPermit s = s :=
  if_pos (.inl (by simp [startingUp, h]))

theorem refreshPermit_rests (s : State) (h : PermitRests s) : PermitRests (refreshPermit s) := fun hc => by
  rw [refreshPermit_startUp] at hc
  rw [refreshPermit_startingUp hc]
  exact h hc

theorem refreshPermit_forms (s : State) : LevelForms s (refreshPermit s) where
  toOrderKept := .of_goes (refreshPermit_goesOrEnds s) (refreshPermit_rests s)
  level ho hr := by
    refine levelHeld_iff.2 ⟨refreshPermit_rests s hr, fun hc => ?_⟩
    rw [refreshPermit_startUp] at hc
    rw [refreshPermit_level hc]
    exact (permitLevelOf_congr (by rw [refreshPermit_mc]) (by rw [refreshPermit_tracker])
      ((refreshPermit_goesOrEnds s).ready ho.order) (by rw [onboardStop, refreshPermit_terminals]; rfl)).symm

theorem refreshPermit_judged (h : ReleaseJudged s) : ReleaseJudged (refreshPermit s) := by
  unfold refreshPermit
  dsimp only
  split
  · exact h
  · exact judgeRelease_judged _

theorem refreshPermit_deviceKept (s : State) : DeviceKept s (refreshPermit s) :=
  (refreshPermit_forms s).deviceKept (.refl s) fun _ => refreshPermit_judged

theorem permitMoved_forms (s : State) : LevelForms s (permitMoved s) :=
  (refreshPermit_forms s).trans ((formCeilings_deviceKept _).trans (judgeRelease_deviceKept _))

/-- A change of berthed, of the advance or of the stationary condition, with what `permitMoved` makes of it. -/
theorem permitMoved_deviceKept (hr : t.restraint = s.restraint) (hu : t.startUp = s.startUp)
    (hl : t.permit.level = s.permit.level) : DeviceKept s (permitMoved t) :=
  (permitMoved_forms t).deviceKept (.of_same hr (by rw [hu]) hl) fun _ _ => judgeRelease_judged _

/-! ## Mode changes and faults -/

theorem releaseAtModeChange_judged (old : Mode) (s : State) : ReleaseJudged (releaseAtModeChange old s) := by
  unfold releaseAtModeChange
  split
  · exact fun hp => absurd hp nofun
  · exact judgeRelease_judged s

theorem releaseAtModeChange_deviceKept (old : Mode) (s : State) : DeviceKept s (releaseAtModeChange old s) where
  toOrderKept := .of_goes (releaseAtModeChange_goesOrEnds old s) fun h hc => by
    rw [releaseAtModeChange_permit]
    exact h (by rwa [releaseAtModeChange_startUp] at hc)
  judged _ _ := releaseAtModeChange_judged old s
  level ho hl := (releaseAtModeChange_goesOrEnds old s).levelHeld ho (by rw [releaseAtModeChange_permit])
    (releaseAtModeChange_mc s old) (releaseAtModeChange_tracker s old) hl

theorem ReleaseJudged.of_show (h : OnlyShow s t) (hj : ReleaseJudged s) : ReleaseJudged t := fun hp => by
  rw [releaseCondition_congr h.mc (by rw [h.permit]) (by rw [h.permit])]
  exact hj (by rwa [← releaseInProgress_congr h.restraint])

/-- Every mode change forms the level and judges a release, whatever the modes. -/
theorem enterMode_deviceKept (new : Mode) (held : HeldFrom) (s : State) : DeviceKept s (enterMode new held s) := by
  have told : OrderKept s (tellBlocks s.mc.mode new (modMc s (ModeController.enter new held))) :=
    .of_same (tellBlocks_entered ..) (by rw [tellBlocks_startUp]; rfl) (by rw [tellBlocks_permit]; rfl)
  have formed : LevelForms (tellBlocks s.mc.mode new (modMc s (ModeController.enter new held))) (enterMode new held s) :=
    (refreshPermit_forms _).trans ((formCeilings_deviceKept _).trans
      ((releaseAtModeChange_deviceKept ..).trans (dispatchScene_only _ _).deviceKept))
  exact formed.deviceKept told fun _ _ => .of_show (dispatchScene_only _ _) (releaseAtModeChange_judged _ _)

end Sys2Proof.Machine
end

section
/-! SUPPORT. The order of a release and the permit level through faults, judgings, movements and an accepted exchange, in the order
in which `BerthKept` is proved (R30 to R39, R155, R161 to R164). -/

namespace Sys2Proof.Machine

variable {s t u : State}

/-! ## Faults and judgings -/

theorem recordFault_deviceKept (k : FaultKind) (sub : SubCause) (d : Nat) (s : State) :
    DeviceKept s (recordFault k sub d s) :=
  .of_same rfl .rfl (recordFault_level ..)
    (releaseCondition_congr rfl (by rw [recordFault_level]) (recordFault_stationary ..)) rfl

theorem raiseFault_deviceKept (k : FaultKind) (sub : SubCause) (d : Nat) (s : State) :
    DeviceKept s (raiseFault k sub d s) := by
  have recorded := recordFault_deviceKept k sub d s
  unfold raiseFault
  dsimp only
  split
  · exact recorded
  · exact recorded.trans (.of_same rfl .rfl rfl rfl rfl)
  all_goals exact recorded.trans (enterMode_deviceKept ..)

theorem rcCheck_deviceKept (s : State) : DeviceKept s (rcCheck s) := by
  have reported : DeviceKept s (modWli s fun w => { w with rcReported := true }) := .of_same rfl .rfl rfl rfl rfl
  exact .whenDue (reported.trans (raiseFault_deviceKept ..))

theorem takeFault_deviceKept (k : FaultKind) (sub : SubCause) (d : Nat) (s : State) :
    DeviceKept s (takeFault k sub d s) :=
  .ite (raiseFault_deviceKept ..) ((raiseFault_deviceKept ..).trans (rcCheck_deviceKept _))

theorem changeMode_deviceKept (new : Mode) (held : HeldFrom) (s : State) : DeviceKept s (changeMode new held s) :=
  (enterMode_deviceKept new held s).trans (rcCheck_deviceKept _)

theorem evalReady_deviceKept (s : State) : DeviceKept s (evalReady s) := by
  unfold evalReady
  split
  · exact .whenDue (changeMode_deviceKept ..)
  · exact .ite (.refl s) (changeMode_deviceKept ..)
  all_goals exact .refl s

theorem evalBerth_deviceKept (s : State) : DeviceKept s (evalBerth s) := .whenDue (permitMoved_deviceKept rfl rfl rfl)

theorem endAdvance_deviceKept (s : State) : DeviceKept s (endAdvance s) :=
  (permitMoved_deviceKept (s := s) (t := modMc s fun m => { m with advance := none }) rfl rfl rfl).trans
    ((evalBerth_deviceKept _).trans (evalReady_deviceKept _))

/-- The release condition judged anew, where the terms of the level stand. -/
theorem DeviceKept.judging (hr : t.restraint = s.restraint) (hu : t.startUp = s.startUp)
    (hl : t.permit.level = s.permit.level) (hp : permitLevelOf t = permitLevelOf s) : DeviceKept s (judgeRelease t) where
  toOrderKept := (OrderKept.of_same hr (by rw [hu]) hl).trans (judgeRelease_deviceKept t).toOrderKept
  judged _ _ := judgeRelease_judged t
  level ho held := by
    have same := OrderKept.of_same hr (by rw [hu]) hl
    obtain ⟨rests, formed⟩ := levelHeld_iff.1 held
    exact (judgeRelease_deviceKept t).level (same.ordered ho) (levelHeld_iff.2 ⟨same.rests ho rests, fun hc => by
      rw [hl, hp]
      exact formed (hu ▸ hc)⟩)

theorem becomeStationary_deviceKept (s : State) : DeviceKept s (becomeStationary s) :=
  (DeviceKept.judging (s := s) (t := modPermit s fun u => { u with stationary := true }) rfl rfl rfl rfl).trans
    ((evalBerth_deviceKept _).trans (evalReady_deviceKept _))

theorem stopStationary_deviceKept (s : State) : DeviceKept s (stopStationary s) :=
  (permitMoved_deviceKept (s := s) (t := unrested s) rfl rfl rfl).trans (evalReady_deviceKept _)

theorem startAdvance_deviceKept (mm : Nat) (s : State) : DeviceKept s (startAdvance mm s) := by
  have formed (x : ModeController) : DeviceKept s (permitMoved (s.setMc x)) := permitMoved_deviceKept rfl rfl rfl
  exact (formed _).trans (evalReady_deviceKept _)

/-! ## The position state (R39) -/

/-- Terms of the level that a move changes, and the level formed again. -/
theorem JudgedKept.refreshed (h : JudgedKept s t) : DeviceKept s (refreshPermit t) :=
  (refreshPermit_forms t).deviceKept h.toOrderKept fun ho hj => refreshPermit_judged (h.judged ho hj)

theorem JudgedKept.setTracker (s : State) (x : Tracker) : JudgedKept s (s.setTracker x) := .of_same rfl .rfl rfl rfl

/-- Items of the Position Tracker other than the position state. -/
theorem DeviceKept.setTracker (s : State) (x : Tracker) (h : x.position = s.tracker.position) :
    DeviceKept s (s.setTracker x) :=
  .of_same rfl .rfl rfl rfl (permitLevelOf_congr rfl h (fun _ => rfl) rfl)

theorem DeviceKept.setCues (s : State) (x : CueEngine) : DeviceKept s (s.setCues x) := (OnlyShow.setCues s x).deviceKept

/-- The position state has changed, and the permit, the ceilings and the READY conditions follow (R39, R34). -/
theorem JudgedKept.reformed (h : JudgedKept s t) : DeviceKept s (evalReady (formCeilings (refreshPermit t))) :=
  h.refreshed.trans ((formCeilings_deviceKept _).trans (evalReady_deviceKept _))

theorem becomeUnsync_deviceKept (s : State) : DeviceKept s (becomeUnsync s) :=
  ((JudgedKept.setTracker s _).trans (DeviceKept.setCues _ _).toJudgedKept).reformed

theorem positionFault_deviceKept (sub : SubCause) (detail : Nat) (s : State) :
    DeviceKept s (positionFault sub detail s) :=
  ((JudgedKept.setTracker s _).trans
    ((DeviceKept.setCues _ _).trans (takeFault_deviceKept ..)).toJudgedKept).reformed

/-! ## Movements (R32) -/

theorem zoneChange_deviceKept (s : State) : DeviceKept s (zoneChange s) :=
  .ite (changeMode_deviceKept ..) (.whenDue ((changeMode_deviceKept ..).trans (evalReady_deviceKept _)))

theorem zoneReport_deviceKept (s : State) : DeviceKept s (zoneReport s) :=
  (zoneChange_deviceKept s).trans
    ((DeviceKept.whenDue (endAdvance_deviceKept _)).trans (evalBerth_deviceKept _))

theorem lookup_deviceKept (s : State) : DeviceKept s (lookup s) :=
  (DeviceKept.setTracker s { s.tracker with segment := segmentAt s } rfl).trans
    ((formAhead_deviceKept _).trans (zoneReport_deviceKept _))

theorem rollbackCheck_deviceKept (s : State) : DeviceKept s (rollbackCheck s) :=
  .ite (.setTracker s { s.tracker with highWater := s.tracker.p } rfl) (.whenDue (positionFault_deviceKept ..))

theorem movement_deviceKept (before after : Nat) (forward wrap : Bool) (s : State) :
    DeviceKept s (movement before after forward wrap s) :=
  (lookup_deviceKept s).trans
    (.whenDue ((cueMovement_only ..).deviceKept.trans (rollbackCheck_deviceKept _)))

theorem moveTo_deviceKept (p : Nat) (wrap : Bool) (s : State) : DeviceKept s (moveTo p wrap s) := .setTracker s _ rfl

/-- An advance that goes on bears neither on the mode permit nor on a release (R3, R79). -/
theorem advanceTravel_deviceKept (d : Int) (s : State) : DeviceKept s (advanceTravel d s) := by
  unfold advanceTravel
  split
  · exact .refl s
  · next a ha =>
    have goes : DeviceKept s (modMc s fun m => { m with advance := some { a with remaining := a.remaining - d } }) :=
      .of_same rfl .rfl rfl rfl (permitLevelOf_congr (by simp [modePermit, ha]) rfl (fun _ => rfl) rfl)
    exact .ite (goes.trans (endAdvance_deviceKept _)) goes

theorem integrate_deviceKept (d : Int) (s : State) : DeviceKept s (integrate d s) :=
  (moveTo_deviceKept _ _ s).trans
    ((DeviceKept.whenDue (positionFault_deviceKept ..)).trans (movement_deviceKept ..))

/-! ## Marker reads -/

theorem acquire_deviceKept (i : Nat) (m : Marker) (s : State) : DeviceKept s (acquire i m s) :=
  ((JudgedKept.setTracker s _).trans ((lookup_deviceKept _).trans
    (.whenDue (placeCursor_only _).deviceKept)).toJudgedKept).reformed

theorem missExpected_deviceKept (s : State) : DeviceKept s (missExpected s) := by
  unfold missExpected
  split
  · exact .refl s
  · next e _ =>
    have missed : DeviceKept s (modTracker s fun t =>
        { t with misses := t.misses + 1, expected := some (markerAfter s e) }) := .setTracker s _ rfl
    exact .ite (missed.trans (positionFault_deviceKept ..)) missed

theorem correct_deviceKept (i : Nat) (m : Marker) (d : Int) (s : State) : DeviceKept s (correct i m d s).1 :=
  (DeviceKept.setTracker s { s.tracker with lastCorrection := d, misses := 0, expected := some (markerAfter s i) } rfl).trans
    ((moveTo_deviceKept ..).trans (movement_deviceKept ..))

theorem capture_deviceKept (i : Nat) (m : Marker) (s : State) : DeviceKept s (capture i m s).1 := by
  unfold capture
  dsimp only
  split
  · exact positionFault_deviceKept ..
  · exact correct_deviceKept ..

theorem placeRead_deviceKept (i : Nat) (m : Marker) (s : State) : DeviceKept s (placeRead i m s).1 := by
  have once := missExpected_deviceKept s
  have twice : DeviceKept s (if isSync (missExpected s) then missExpected (missExpected s) else missExpected s) :=
    .ite (once.trans (missExpected_deviceKept _)) once
  have captured (t : State) (h : DeviceKept s t) : DeviceKept s (if isSync t then capture i m t else (t, false)).1 := by
    split
    · exact h.trans (capture_deviceKept ..)
    · exact h
  unfold placeRead
  dsimp only
  split
  · exact capture_deviceKept ..
  · split
    · exact captured _ once
    · split
      · exact captured _ twice
      · exact positionFault_deviceKept ..

theorem markerRead_deviceKept (id : Nat) (s : State) : DeviceKept s (markerRead id s).1 := by
  unfold markerRead
  repeat' split
  · exact .refl s
  · exact .setTracker s _ rfl
  · exact .refl s
  · exact placeRead_deviceKept ..
  · exact acquire_deviceKept ..

theorem overdueCheck_deviceKept (n : Nat) (s : State) : DeviceKept s (overdueCheck n s) := by
  induction n generalizing s with
  | zero => exact .refl s
  | succ n ih => exact .whenDue ((missExpected_deviceKept s).trans (ih _))

theorem trackExchange_deviceKept (distance : Int) (marker : Nat) (s : State) :
    DeviceKept s (trackExchange distance marker s) := by
  have travelled := (advanceTravel_deviceKept (clampedDistance distance) s).trans
    (integrate_deviceKept (clampedDistance distance) _)
  have read (b : Bool) (t : State) (h : DeviceKept s t) :
      DeviceKept s (if b then (t, false) else markerRead marker t).1 := by
    split
    · exact h
    · exact h.trans (markerRead_deviceKept ..)
  exact .ite (.refl s) (.ite ((read _ _ travelled).trans (overdueCheck_deviceKept ..)) (read _ _ travelled))

/-! ## Steering, and the Permit Unit's part of an exchange -/

theorem steeringUpdate_deviceKept (g d : Int) (s : State) : DeviceKept s (steeringUpdate g d s) := by
  have moved (x : Steering) (code : Nat) : DeviceKept s (handCode (s.setSteering x) 0 code) :=
    .of_same rfl .rfl rfl rfl rfl
  have faulted (k : FaultKind) (b : Bool) (t : State) (h : DeviceKept s t) :
      DeviceKept s (if b then takeFault k .none 0 t else t) := .ite (h.trans (takeFault_deviceKept ..)) h
  exact faulted _ _ _ (faulted _ _ _ (moved _ _))

theorem steerExchange_deviceKept (guide distance : Int) (s : State) :
    DeviceKept s (steerExchange guide distance s) := by
  have guided : DeviceKept s (modSteering s fun c => { c with guidePresent := guideSignal guide }) :=
    .of_same rfl .rfl rfl rfl rfl
  exact .ite (guided.trans (steeringUpdate_deviceKept ..)) guided

/-- Items of the Permit Unit other than the level and the stationary condition. -/
theorem DeviceKept.setPermit (s : State) (x : PermitUnit) (hl : x.level = s.permit.level)
    (hs : x.stationary = s.permit.stationary) : DeviceKept s (s.setPermit x) :=
  .of_same rfl .rfl hl (releaseCondition_congr rfl (by rw [State.setPermit_permit, hl]) hs) rfl

theorem superviseSpeed_deviceKept (speed ceiling : Nat) (s : State) : DeviceKept s (superviseSpeed speed ceiling s) := by
  have counted : DeviceKept s (modPermit s fun u => { u with overspeed := min (u.overspeed + 1) 6 }) :=
    .setPermit s _ rfl rfl
  exact .ite (.refl s) (.ite (.ite (counted.trans (takeFault_deviceKept ..)) counted) (.setPermit s _ rfl rfl))

theorem superviseStandstill_deviceKept (r : DcRecord) (s : State) : DeviceKept s (superviseStandstill r s) :=
  .ite (.setPermit s _ rfl rfl) (.ite (stopStationary_deviceKept s) (.setPermit s _ rfl rfl))

theorem takeReport_deviceKept (r : DcRecord) (s : State) : DeviceKept s (takeReport r s) := by
  have reported : DeviceKept s (modPermit s fun u =>
      { u with reportSpeed := r.speed, reportBrake := r.brake, reportFault := r.dcFault, reportCode := r.faultCode }) :=
    .setPermit s _ rfl rfl
  exact .ite (reported.trans (takeFault_deviceKept ..)) reported

/-- An accepted exchange, passed to the three blocks (R182). -/
theorem passOn_deviceKept (r : DcRecord) (ceiling : Nat) (s : State) : DeviceKept s (passOn r ceiling s) :=
  (trackExchange_deviceKept ..).trans ((steerExchange_deviceKept ..).trans ((superviseSpeed_deviceKept ..).trans
    ((superviseStandstill_deviceKept ..).trans (takeReport_deviceKept ..))))

theorem loseDriveLink_deviceKept (s : State) : DeviceKept s (loseDriveLink s) := by
  have dead : DeviceKept s (modDli s fun d => { d with live := false }) := .of_same rfl .rfl rfl rfl rfl
  have stopped (v : State) : DeviceKept v
      (if v.permit.stationary then stopStationary v else modPermit v fun u => { u with standstill := none }) :=
    .ite (stopStationary_deviceKept v) (.setPermit v _ rfl rfl)
  have faulted (v : State) : DeviceKept v (if v.mc.mode.online then takeFault .driveLinkLost .none 0 v else v) :=
    .whenDue (takeFault_deviceKept ..)
  exact dead.trans ((stopped _).trans (faulted _))

end Sys2Proof.Machine
end

section
/-! SUPPORT. The order of a release and the permit level through what happens to the seats (R63 to R77): a seat in evaluation, one
that leaves its release or joins it, the energising of the queue, and the requests and events made of these. -/

namespace Sys2Proof.Machine

variable {s t : State} {i j : Fin 8} {r x : Restraint}

/-! ## A release in order after a change of one seat -/

theorem modSeat_other (r : Restraint) (f : Seat → Seat) (h : j ≠ i) : (r.modSeat i f).seats[j] = r.seats[j] :=
  Vector.getElem_set_ne i.isLt j.isLt fun e => h (Fin.ext e.symm)

theorem latch_state (r : Restraint) (i j : Fin 8) (f : Latches → Latches) :
    ((r.latch i f).seats[j]).state = (r.seats[j]).state := by
  by_cases h : j = i
  · rw [h, latch_seat]
  · exact congrArg Seat.state (modSeat_other r (fun seat => { seat with latches := f seat.latches }) h)

theorem Restraint.Ordered.of_states (h : r.Ordered) (hq : x.queue = r.queue) (he : x.energised = r.energised)
    (hs : ∀ j : Fin 8, (x.seats[j]).state = (r.seats[j]).state) : x.Ordered :=
  ⟨by rw [hq, he]; exact h.distinct, by rw [he]; exact h.budget, fun j => by rw [hq, he, hs]; exact h.releasing j⟩

/-- A seat outside the release takes another state. -/
theorem Restraint.Ordered.replaced (h : r.Ordered) (hq : x.queue = r.queue) (he : x.energised = r.energised)
    (before : (r.seats[i]).state ≠ .releasing) (after : (x.seats[i]).state ≠ .releasing)
    (others : ∀ j : Fin 8, j ≠ i → (x.seats[j]).state = (r.seats[j]).state) : x.Ordered := by
  refine ⟨by rw [hq, he]; exact h.distinct, by rw [he]; exact h.budget, fun j => ?_⟩
  rw [hq, he, h.releasing]
  by_cases hj : j = i
  · rw [hj]
    exact iff_of_false before after
  · rw [others j hj]

/-- A seat leaves the release. -/
theorem Restraint.Ordered.left (h : r.Ordered) (hq : x.queue = r.queue.filter (· != i))
    (he : x.energised = r.energised.filter (· != i)) (after : (x.seats[i]).state ≠ .releasing)
    (others : ∀ j : Fin 8, j ≠ i → (x.seats[j]).state = (r.seats[j]).state) : x.Ordered := by
  refine ⟨?_, ?_, fun j => ?_⟩
  · rw [hq, he, ← List.filter_append]
    exact h.distinct.filter _
  · rw [he]
    exact (List.length_filter_le ..).trans h.budget
  · rw [hq, he]
    by_cases hj : j = i
    · rw [hj]
      exact iff_of_false (by simp) after
    · rw [others j hj, ← h.releasing]
      simp [hj]

/-- A seat outside the release joins the back of the queue. -/
theorem Restraint.Ordered.joined (h : r.Ordered) (hq : x.queue = r.queue ++ [i]) (he : x.energised = r.energised)
    (outside : i ∉ r.queue ∧ i ∉ r.energised) (after : (x.seats[i]).state = .releasing)
    (others : ∀ j : Fin 8, j ≠ i → (x.seats[j]).state = (r.seats[j]).state) : x.Ordered := by
  obtain ⟨notQueued, notEnergised⟩ := outside
  refine ⟨?_, by rw [he]; exact h.budget, fun j => ?_⟩
  · have moved : ((r.queue ++ [i]) ++ r.energised).Perm (i :: (r.queue ++ r.energised)) := by
      rw [List.append_assoc]
      exact List.perm_middle
    rw [hq, he, moved.nodup_iff]
    exact List.nodup_cons.2 ⟨by simp [notQueued, notEnergised], h.distinct⟩
  · rw [hq, he]
    by_cases hj : j = i
    · rw [hj]
      exact iff_of_true (by simp) after
    · rw [others j hj, ← h.releasing]
      simp [hj]

/-! ## Energising (R74) -/

theorem energiseOne_state (pulse : Nat) (r : Restraint) (j : Fin 8) :
    ((r.energiseOne pulse).seats[j]).state = (r.seats[j]).state := by
  cases hq : r.queue with
  | nil => rw [energiseOne_nil pulse hq]
  | cons i rest =>
    by_cases room : r.energised.length < 2
    · obtain ⟨-, -, seats⟩ := energiseOne_cons pulse hq room
      rw [seats]
      split
      · next hj => rw [hj]
      · rfl
    · rw [energiseOne_full pulse (Nat.not_lt.1 room)]

theorem Restraint.Ordered.energiseOne (pulse : Nat) (h : r.Ordered) : (r.energiseOne pulse).Ordered := by
  cases hq : r.queue with
  | nil => rwa [energiseOne_nil pulse hq]
  | cons i rest =>
    by_cases room : r.energised.length < 2
    · obtain ⟨queue, energised, -⟩ := energiseOne_cons pulse hq room
      have distinct : (i :: (rest ++ r.energised)).Nodup := by
        have := h.distinct
        rwa [hq] at this
      obtain ⟨new, -⟩ := List.nodup_cons.1 distinct
      have members : ∀ j, j ∈ insertSeat i r.energised ↔ j ∈ i :: r.energised := fun j => by
        rw [mem_insertSeat, List.mem_cons]
      have inserted : (insertSeat i r.energised).Perm (i :: r.energised) :=
        (List.perm_ext_iff_of_nodup (insertSeat_nodup ..) (List.nodup_cons.2
          ⟨fun hi => new (List.mem_append_right _ hi), h.distinct.of_append_right⟩)).2 members
      have moved : (rest ++ insertSeat i r.energised).Perm (i :: (rest ++ r.energised)) :=
        (inserted.append_left rest).trans List.perm_middle
      refine ⟨?_, energiseOne_length pulse r h.budget, fun j => ?_⟩
      · rw [queue, energised]
        exact moved.nodup_iff.2 distinct
      · rw [energiseOne_state, ← h.releasing, queue, energised, hq, members, List.mem_cons, List.mem_cons]
        tauto
    · rwa [energiseOne_full pulse (Nat.not_lt.1 room)]

/-- While seats still wait afterwards, one more is energised, up to two. -/
theorem energiseOne_grows (pulse : Nat) (h : r.Ordered) (waits : (r.energiseOne pulse).queue ≠ []) :
    (r.energiseOne pulse).energised.length = min (r.energised.length + 1) 2 := by
  have budget := h.budget
  cases hq : r.queue with
  | nil =>
    rw [energiseOne_nil pulse hq, hq] at waits
    exact absurd rfl waits
  | cons i rest =>
    by_cases room : r.energised.length < 2
    · obtain ⟨-, energised, -⟩ := energiseOne_cons pulse hq room
      have new : i ∉ r.energised := fun hi => by
        have := h.distinct
        rw [hq, List.cons_append, List.nodup_cons] at this
        exact this.1 (List.mem_append_right _ hi)
      rw [energised, insertSeat_length_new h.distinct.of_append_right new]
      omega
    · rw [energiseOne_full pulse (Nat.not_lt.1 room)]
      omega

theorem fill_state (pulse : Nat) (r : Restraint) (j : Fin 8) : ((r.fill pulse).seats[j]).state = (r.seats[j]).state := by
  rw [Restraint.fill, energiseOne_state, energiseOne_state]

theorem Restraint.Ordered.fill (pulse : Nat) (h : r.Ordered) : (r.fill pulse).Ordered :=
  (h.energiseOne pulse).energiseOne pulse

theorem Restraint.Ordered.fill_filled (pulse : Nat) (h : r.Ordered) : (r.fill pulse).Filled := by
  intro waits
  have second := energiseOne_grows pulse (h.energiseOne pulse) waits
  have first := energiseOne_grows pulse h fun none => waits (by rw [Restraint.fill, energiseOne_nil pulse none, none])
  rw [Restraint.fill, second]
  omega

theorem fill_idle (pulse : Nat) (hq : r.queue = []) : r.fill pulse = r := by
  rw [Restraint.fill, energiseOne_nil pulse hq, energiseOne_nil pulse hq]

/-! ## The Restraint Monitor changed -/

/-- No release is in progress. -/
def Restraint.Idle (r : Restraint) : Prop := r.queue = [] ∧ r.energised = []

theorem Restraint.Idle.filled (h : r.Idle) : r.Filled := fun waits => absurd h.1 waits

theorem idle_iff : releaseInProgress s = false ↔ s.restraint.Idle := by
  simp [releaseInProgress, Restraint.Idle]

/-- In order, without a release in progress, no seat is RELEASING. -/
theorem Restraint.Ordered.unreleasing (h : r.Ordered) (hi : r.Idle) (j : Fin 8) : (r.seats[j]).state ≠ .releasing := by
  rw [ne_eq, ← h.releasing j, hi.1, hi.2]
  simp

/-- A change of the Restraint Monitor that keeps its order, and starts no release. -/
theorem JudgedKept.setRestraint (s : State) (x : Restraint) (order : s.restraint.Ordered → x.Ordered)
    (filled : s.restraint.Ordered → s.restraint.Filled → x.Filled) (idle : s.restraint.Idle → x.Idle) :
    JudgedKept s (s.setRestraint x) where
  ordered h := ⟨order h.order, fun hc => idle (h.startUp hc)⟩
  filled h := filled h.order
  rests _ := id
  judged _ hj hp := by
    refine hj ?_
    by_contra none
    have none := (idle_iff (s := s.setRestraint x)).2 (idle (idle_iff.1 (Bool.eq_false_iff.2 none)))
    exact absurd (hp.symm.trans none) nofun

theorem LevelHeld.of_states (x : Restraint) (hs : ∀ j : Fin 8, (x.seats[j]).state = (s.restraint.seats[j]).state)
    (h : LevelHeld s) : LevelHeld (s.setRestraint x) := by
  have terms : permitLevelOf (s.setRestraint x) = permitLevelOf s :=
    permitLevelOf_congr rfl rfl (fun j => congrArg SeatState.ready (hs j)) rfl
  obtain ⟨rests, formed⟩ := levelHeld_iff.1 h
  exact levelHeld_iff.2 ⟨rests, fun hc => (formed hc).trans terms.symm⟩

/-- Timers and latches bear on no release and not on the level. -/
theorem DeviceKept.setSeats (s : State) (x : Restraint) (hq : x.queue = s.restraint.queue)
    (he : x.energised = s.restraint.energised) (hs : ∀ j : Fin 8, (x.seats[j]).state = (s.restraint.seats[j]).state) :
    DeviceKept s (s.setRestraint x) where
  toJudgedKept := .setRestraint s x (fun h => h.of_states hq he hs) (fun _ h => by rwa [Restraint.Filled, hq, he])
    (fun h => ⟨hq.trans h.1, he.trans h.2⟩)
  level _ := .of_states x hs

theorem DeviceKept.latch (s : State) (i : Fin 8) (f : Latches → Latches) :
    DeviceKept s (modRestraint s fun r => r.latch i f) := .setSeats s _ rfl rfl fun j => latch_state _ i j f

theorem fillEnergised_deviceKept (s : State) : DeviceKept s (fillEnergised s) where
  toJudgedKept := .setRestraint s _ (fun h => h.fill _) (fun h _ => h.fill_filled _) fun h => by
    rw [fill_idle _ h.1]
    exact h
  level _ := .of_states _ (fill_state _ _)

/-! ## A seat's change, reported (R67) -/

theorem JudgedKept.seatMoved {old : SeatState} (h : JudgedKept s t)
    (stays : seatState t i = old → LevelHeld s → LevelHeld t) : DeviceKept s (seatMoved i old t) := by
  unfold Machine.seatMoved
  dsimp only
  split
  · next same => exact ⟨h, fun _ => stays same⟩
  · exact h.refreshed.trans ((DeviceKept.whenDue (takeFault_deviceKept ..)).trans (evalReady_deviceKept _))

/-- The report of a seat whose change alone is to be judged. -/
theorem seatReported_deviceKept (i : Fin 8) (x : Restraint) (h : JudgedKept s (s.setRestraint x))
    (others : ∀ j : Fin 8, j ≠ i → (x.seats[j]).state = (s.restraint.seats[j]).state) :
    DeviceKept s (seatMoved i (seatState s i) (s.setRestraint x)) :=
  h.seatMoved fun same => .of_states x fun j => by
    by_cases hj : j = i
    · rw [hj]
      exact same
    · exact others j hj

/-- A seat outside the release takes another state. -/
theorem JudgedKept.replaced {i : Fin 8} (hq : x.queue = s.restraint.queue) (he : x.energised = s.restraint.energised)
    (before : seatState s i ≠ .releasing) (after : (x.seats[i]).state ≠ .releasing)
    (others : ∀ j : Fin 8, j ≠ i → (x.seats[j]).state = (s.restraint.seats[j]).state) : JudgedKept s (s.setRestraint x) :=
  .setRestraint s _ (fun h => h.replaced hq he before after others) (fun _ h => by rwa [Restraint.Filled, hq, he])
    fun h => ⟨hq.trans h.1, he.trans h.2⟩

/-- And it reports the change. -/
theorem modSeat_deviceKept (i : Fin 8) (f : Seat → Seat) (before : seatState s i ≠ .releasing)
    (after : (f s.restraint.seats[i]).state ≠ .releasing) :
    DeviceKept s (seatMoved i (seatState s i) (modRestraint s fun r => r.modSeat i f)) := by
  have others : ∀ j : Fin 8, j ≠ i → ((s.restraint.modSeat i f).seats[j]).state = (s.restraint.seats[j]).state :=
    fun j hj => by rw [modSeat_other _ _ hj]
  exact seatReported_deviceKept i _ (.replaced rfl rfl before (by rwa [modSeat_seat]) others) others

theorem latchedSeat_deviceKept (i : Fin 8) (f : Seat → Seat) (l : Latches → Latches) (before : seatState s i ≠ .releasing)
    (after : (f s.restraint.seats[i]).state ≠ .releasing) :
    DeviceKept s (seatMoved i (seatState s i) (modRestraint s fun r => (r.modSeat i f).latch i l)) := by
  have others : ∀ j : Fin 8, j ≠ i → (((s.restraint.modSeat i f).latch i l).seats[j]).state =
      (s.restraint.seats[j]).state := fun j hj => by rw [latch_state, modSeat_other _ _ hj]
  exact seatReported_deviceKept i _ (.replaced rfl rfl before (by rwa [latch_state, modSeat_seat]) others) others

/-! ## A filtered change of a seat input (R64, R66, R68, R76) -/

theorem latchChange_deviceKept (i : Fin 8) (k : Fin 3) (level : Bool) (s : State) :
    DeviceKept s (latchChange i k level s) := .whenDue (.latch s i _)

/-- A seat leaves its release for evaluation with a latch set, and the next one is energised (R76, R77, R74). -/
theorem leftAndFilled_deviceKept (i : Fin 8) (f : Latches → Latches) (s : State) :
    DeviceKept s (evalReady (seatMoved i (seatState s i) (fillEnergised (modRestraint s fun r =>
      ((r.leaveRelease i).modSeat i (Seat.enterEvaluation (picture s i))).latch i f)))) := by
  obtain ⟨x, hx⟩ : ∃ x, x = ((s.restraint.leaveRelease i).modSeat i (Seat.enterEvaluation (picture s i))).latch i f :=
    ⟨_, rfl⟩
  have state : (x.seats[i]).state = (picture s i).seatState := by
    rw [hx, latch_state, modSeat_seat]
    rfl
  have others : ∀ j : Fin 8, j ≠ i → (x.seats[j]).state = (s.restraint.seats[j]).state := fun j hj => by
    rw [hx, latch_state, modSeat_other _ _ hj]
    exact congrArg Seat.state (modSeat_other s.restraint (fun seat => { seat with pulseElapsed := 0 }) hj)
  have order : s.restraint.Ordered → x.Ordered := fun h =>
    h.left (by rw [hx]; rfl) (by rw [hx]; rfl) (by rw [state]; exact (Picture.seatState_unready _).2) others
  have left : JudgedKept s (s.setRestraint (x.fill s.params.releasePulseTime)) := by
    refine .setRestraint s _ (fun h => (order h).fill _) (fun h _ => (order h).fill_filled _) fun h => ?_
    have queue : x.queue = [] := by rw [hx]; exact congrArg (List.filter (· != i)) h.1
    have energised : x.energised = [] := by rw [hx]; exact congrArg (List.filter (· != i)) h.2
    rw [fill_idle _ queue]
    exact ⟨queue, energised⟩
  have reported := seatReported_deviceKept i _ left fun j hj => by rw [fill_state, others j hj]
  rw [hx] at reported
  exact reported.trans (evalReady_deviceKept _)

end Sys2Proof.Machine
end

section
/-! SUPPORT. The order of a release and the permit level through the seat inputs, BYPASS, RESTORE and the enable mask, the Terminal
Matrix and start-up (R63, R71, R72, R81, R144, R145, R191). -/

namespace Sys2Proof.Machine

variable {s t : State} {i j : Fin 8}

/-! ## Seat inputs and outputs -/

theorem SeatState.ne_releasing_of_inEvaluation {x : SeatState} (h : x.inEvaluation = true) : x ≠ .releasing := by
  rintro rfl
  exact absurd h nofun

/-- A seat that follows its picture does not join a release. -/
theorem follow_unreleasing (before now : Picture) (seat : Seat) : (Seat.follow before now seat).state ≠ .releasing := by
  unfold Seat.follow
  dsimp only
  split
  · exact nofun
  · exact (Picture.seatState_unready _).2

theorem seatInputChanged_deviceKept (i : Fin 8) (k : Fin 3) (level : Bool) (before : Picture) (s : State) :
    DeviceKept s (seatInputChanged i k level before s) := by
  have latched := latchChange_deviceKept i k level s
  have follows (h : seatState (latchChange i k level s) i ≠ .releasing) : DeviceKept s (seatMoved i
      (seatState (latchChange i k level s) i) (modRestraint (latchChange i k level s) fun r =>
        r.modSeat i (Seat.follow before (picture (latchChange i k level s) i)))) :=
    latched.trans (modSeat_deviceKept i _ h (follow_unreleasing _ _ _))
  have rises := latched.trans (leftAndFilled_deviceKept i (fun l => { l with releaseDone := true }) _)
  unfold seatInputChanged
  dsimp only
  split
  · exact latched
  · exact latched
  · next h => exact .ite (h ▸ rises) latched
  all_goals next h => exact h ▸ follows (by rw [h]; exact nofun)

theorem solenoidReport_deviceKept (i : Fin 8) (s : State) : DeviceKept s (solenoidReport i s) := by
  have latched : DeviceKept s (if seatState s i = .disabled then s
      else modRestraint s fun r => r.latch i fun l => { l with solenoidFault := true }) := .ite (.refl s) (.latch s i _)
  exact .ite (latched.trans (takeFault_deviceKept ..)) latched

/-! ## BYPASS and the enable mask, without a release in progress -/

/-- What ends a release can only leave none in progress. -/
theorem GoesOrEnds.idle (h : GoesOrEnds s t) (hi : s.restraint.Idle) : t.restraint.Idle := by
  rcases h.restraint with goes | ends
  · rwa [goes]
  · exact ⟨(ReleaseEnded.of_restraint ends).queue, (ReleaseEnded.of_restraint ends).energised⟩

theorem modSeat_idle (i : Fin 8) (f : Seat → Seat) (old : SeatState) (hi : s.restraint.Idle) :
    (seatMoved i old (modRestraint s fun r => r.modSeat i f)).restraint.Idle :=
  (seatMoved_goesOrEnds i old _).idle (s := modRestraint s fun r => r.modSeat i f) hi

/-- The device laws kept, and no release begun. -/
structure IdleKept (s t : State) : Prop where
  kept : DeviceKept s t
  idle : t.restraint.Idle

theorem IdleKept.refl (h : s.restraint.Idle) : IdleKept s s := ⟨.refl s, h⟩

/-- Seat by seat, while no release is in progress. -/
theorem IdleKept.foldl {f : State → Fin 8 → State} (hf : ∀ s i, s.restraint.Idle → IdleKept s (f s i)) (l : List (Fin 8))
    (h : s.restraint.Idle) : IdleKept s (l.foldl f s) := by
  induction l generalizing s with
  | nil => exact .refl h
  | cons i l ih =>
    have one := hf s i h
    have rest := ih one.idle
    exact ⟨one.kept.trans rest.kept, rest.idle⟩

/-- A seat takes a state other than RELEASING, and reports it. -/
theorem modSeat_idleKept (i : Fin 8) (f : Seat → Seat) (after : (f s.restraint.seats[i]).state ≠ .releasing)
    (hi : s.restraint.Idle) : IdleKept s (seatMoved i (seatState s i) (modRestraint s fun r => r.modSeat i f)) :=
  ⟨.of_ordered fun ho => modSeat_deviceKept i f (ho.order.unreleasing hi i) after, modSeat_idle i f _ hi⟩

theorem bypassSeat_idleKept (s : State) (i : Fin 8) (hi : s.restraint.Idle) : IdleKept s (bypassSeat s i) :=
  modSeat_idleKept i _ nofun hi

theorem bypass_deviceKept (mask : Byte) (hi : s.restraint.Idle) : DeviceKept s (bypass mask s) :=
  (IdleKept.foldl bypassSeat_idleKept _ hi).kept

theorem maskSeat_idleKept (mask : Byte) (s : State) (i : Fin 8) (hi : s.restraint.Idle) :
    IdleKept s (maskSeat mask s i) := by
  unfold maskSeat
  dsimp only
  split
  · split
    · exact modSeat_idleKept i _ (Picture.seatState_unready _).2 hi
    · exact .refl hi
  · split
    · exact .refl hi
    · exact modSeat_idleKept i _ nofun hi

theorem applySeatMask_deviceKept (mask : Byte) (hi : s.restraint.Idle) : DeviceKept s (applySeatMask mask s) :=
  (IdleKept.foldl (maskSeat_idleKept mask) _ hi).kept.trans (.setSeats _ _ rfl rfl fun _ => rfl)

theorem enableSeats_deviceKept (hi : s.restraint.Idle) : DeviceKept s (enableSeats s) :=
  (IdleKept.foldl (maskSeat_idleKept _) _ hi).kept

/-! ## RESTORE (R72) -/

/-- What ends a release makes no seat RELEASING. -/
theorem GoesOrEnds.unreleasing (h : GoesOrEnds s t) (hj : seatState s j ≠ .releasing) : seatState t j ≠ .releasing := by
  rcases h.restraint with goes | ends
  · rwa [seatState, goes]
  · have ended := ReleaseEnded.of_restraint ends
    by_cases pending : j ∈ s.restraint.queue ∨ j ∈ s.restraint.energised
    · rw [seatState, ended.dropped j pending]
      exact (Picture.seatState_unready _).2
    · obtain ⟨notQueued, notEnergised⟩ := not_or.1 pending
      rwa [seatState, ended.others j notQueued notEnergised]

theorem evaluateSeat_unreleasing (hj : seatState s j ≠ .releasing) : seatState (evaluateSeat i s) j ≠ .releasing := by
  by_cases h : j = i
  · rw [h, seatState, evaluateSeat, modRestraint_eq, State.setRestraint_restraint, modSeat_seat]
    exact (Picture.seatState_unready _).2
  · rwa [seatState, evaluateSeat, modRestraint_eq, State.setRestraint_restraint, modSeat_other _ _ h]

theorem restoreSeat_goesOrEnds (s : State) (i : Fin 8) : GoesOrEnds (evaluateSeat i s) (restoreSeat s i) := by
  have judged := (refreshPermit_goesOrEnds (evaluateSeat i s)).trans
    (GoesOrEnds.ite (c := restoreOpens (evaluateSeat i s) (seatState (evaluateSeat i s) i) = true)
      (takeFault_goesOrEnds .restraintOpen .none (i.val + 1) _) (.refl _))
  exact .ite judged (judged.trans (evalReady_goesOrEnds _))

theorem restoreSeat_deviceKept (hi : seatState s i ≠ .releasing) : DeviceKept s (restoreSeat s i) := by
  have others : ∀ j : Fin 8, j ≠ i → ((s.restraint.modSeat i (Seat.enterEvaluation (picture s i))).seats[j]).state =
      (s.restraint.seats[j]).state := fun j hj => by rw [modSeat_other _ _ hj]
  have evaluated : JudgedKept s (evaluateSeat i s) :=
    .replaced rfl rfl hi (by rw [modSeat_seat]; exact (Picture.seatState_unready _).2) others
  have judged := evaluated.refreshed.trans
    (DeviceKept.whenDue (c := restoreOpens (evaluateSeat i s) (seatState (evaluateSeat i s) i) = true)
      (takeFault_deviceKept .restraintOpen .none (i.val + 1) _))
  exact .ite judged (judged.trans (evalReady_deviceKept _))

/-- The restored seats are outside a release, and stay so. -/
theorem restore_deviceKept (l : List (Fin 8)) (h : ∀ i ∈ l, seatState s i ≠ .releasing) :
    DeviceKept s (l.foldl restoreSeat s) := by
  induction l generalizing s with
  | nil => exact .refl s
  | cons i l ih =>
    exact (restoreSeat_deviceKept (h i (.head l))).trans (ih fun j hj =>
      (restoreSeat_goesOrEnds s i).unreleasing (evaluateSeat_unreleasing (h j (.tail i hj))))

/-! ## The Terminal Matrix (R144, R145) -/

theorem setTerminals_judgedKept (s : State) (x : Terminals) : JudgedKept s (s.setTerminals x) := .of_same rfl .rfl rfl rfl

/-- ONBOARD_STOP alone of the inputs bears on the level (R155). -/
theorem setTerminals_deviceKept (s : State) (x : Terminals)
    (h : x.filtered[(25 : Fin 27)] = s.terminals.filtered[(25 : Fin 27)]) : DeviceKept s (s.setTerminals x) :=
  .of_same rfl .rfl rfl rfl (permitLevelOf_congr rfl rfl (fun _ => rfl) h)

theorem setFiltered_deviceKept {i : Fin 27} (level : Bool) (h : i ≠ 25) : DeviceKept s (setFiltered i level s) :=
  setTerminals_deviceKept s _ (setFiltered_ne (Ne.symm h)).1

theorem onboardStopChanged_deviceKept (level : Bool) (h : JudgedKept s t) : DeviceKept s (onboardStopChanged level t) :=
  h.refreshed.trans (.whenDue (takeFault_deviceKept ..))

theorem changeInput_deviceKept (i : Fin 27) (level : Bool) (s : State) : DeviceKept s (changeInput i level s) := by
  have set : i ≠ 25 → DeviceKept s (setFiltered i level s) := setFiltered_deviceKept level
  unfold changeInput
  dsimp only
  split
  · next seat k h =>
    have other : i ≠ 25 := by
      rintro rfl
      exact absurd h nofun
    exact (set other).trans (seatInputChanged_deviceKept ..)
  · split
    · next h =>
      have amp (t : State) : DeviceKept t (ampReadyChanged level t) := .whenDue (.of_same rfl .rfl rfl rfl rfl)
      exact (set (by rw [h]; decide)).trans (amp _)
    · split
      · exact onboardStopChanged_deviceKept level (setTerminals_judgedKept s _)
      · next h => exact set h

/-- A filtered level that takes the level it has. -/
theorem setFiltered_same (i : Fin 27) (s : State) : DeviceKept s (setFiltered i s.terminals.filtered[i] s) := by
  by_cases h : i = 25
  · rw [h]
    exact setTerminals_deviceKept s _ (setFiltered_self 25 _ s).1
  · exact setFiltered_deviceKept _ h

theorem applyInput_deviceKept (s : State) (i : Fin 27) : DeviceKept s (applyInput s i) := by
  unfold applyInput
  dsimp only
  split
  · next h =>
    rw [h]
    exact setFiltered_same i s
  · exact changeInput_deviceKept ..

theorem DeviceKept.foldl {α : Type} {f : State → α → State} (h : ∀ s a, DeviceKept s (f s a)) (l : List α) (s : State) :
    DeviceKept s (l.foldl f s) := by
  induction l generalizing s with
  | nil => exact .refl s
  | cons a l ih => exact (h s a).trans (ih (f s a))

theorem applyMap_deviceKept (s : State) : DeviceKept s (applyMap s) :=
  (setTerminals_deviceKept s { s.terminals with mismatch := .replicate 40 0, mismatchDue := .replicate 40 false } rfl).trans
    (.foldl applyInput_deviceKept _ _)

end Sys2Proof.Machine
end

section
/-! SUPPORT. RELEASE (R73, R74, R79): the named seats join the queue one after another, and since each lacks readiness from then
on, the permit is STOP or EMERGENCY, so that the release condition, accepted once, goes on holding. -/

namespace Sys2Proof.Machine

variable {s t : State} {i j : Fin 8} {old : SeatState}

/-! ## A release that can be asked for -/

/-- Outside start-up, the release condition holds but for the permit, which a RELEASING seat brings to STOP or EMERGENCY. -/
structure ReleaseWaits (s : State) : Prop where
  running : s.startUp.phase = .complete
  berth : BerthHeld s
  allowed : ReleaseAllowed (s.setPermit { s.permit with level := .stop })

/-- The condition does not tell one level at STOP or below from another. -/
theorem ReleaseWaits.condition (h : ReleaseWaits s) (hm : t.mc = s.mc) (hs : t.permit.stationary = s.permit.stationary)
    (hl : t.permit.level.still = true) : releaseCondition t = true := by
  rw [← releaseCondition_iff.2 h.allowed]
  exact releaseCondition_congr hm hl hs

theorem ReleaseWaits.of_blocks (h : ReleaseWaits s) (hu : t.startUp = s.startUp) (hm : t.mc = s.mc)
    (hs : t.permit.stationary = s.permit.stationary) : ReleaseWaits t where
  running := by rw [hu]; exact h.running
  berth := (BerthKept.of_mc hm hs).held h.berth
  allowed := releaseCondition_iff.1 (h.condition hm hs rfl)

theorem ReleaseWaits.of_rides (h : ReleaseRides s) : ReleaseWaits s where
  running := h.running
  berth := h.berth
  allowed := by
    rw [← releaseCondition_iff, ← releaseCondition_iff.2 h.stands.allowed]
    exact releaseCondition_congr rfl h.stands.still.symm rfl

/-- Online such a vehicle is stationary (R79, R2). -/
theorem ReleaseWaits.rides (h : ReleaseWaits s) (online : s.mc.mode ≠ .offline) (stands : ReleaseStands s) :
    ReleaseRides s where
  running := h.running
  online := online
  stationary := by
    have allowed := stands.allowed
    cases mode : s.mc.mode with
    | offline => exact absurd mode online
    | load => exact allowed.ground (.inl mode)
    | ready => exact allowed.ground (.inr (.inl mode))
    | halt => exact allowed.ground (.inr (.inr mode))
    | run => exact absurd mode allowed.run
    | hold => exact (allowed.hold mode).2.2
    | unload => exact (h.berth.berthed (allowed.unload mode)).2.1
  berth := h.berth
  stands := stands

/-- The permit formed with a seat without readiness. -/
theorem refreshPermit_waits (h : ReleaseWaits s) (unready : ¬SeatsReady s) :
    (refreshPermit s).restraint = s.restraint ∧ ReleaseWaits (refreshPermit s) ∧ ReleaseStands (refreshPermit s) := by
  have formed := permitLevelOf_unready unready
  have goes : (refreshPermit s).restraint = s.restraint :=
    refreshPermit_restraint_goes fun _ => h.condition rfl rfl formed
  have stationary := (refreshPermit_formed s).stationary
  refine ⟨goes, h.of_blocks (refreshPermit_startUp s) (refreshPermit_mc s) stationary, ?_, ?_⟩
  · exact releaseCondition_iff.1
      (h.condition (refreshPermit_mc s) stationary (by rw [refreshPermit_level h.running]; exact formed))
  · simpa only [SeatsReady, seatState, goes] using unready

/-- A change of a seat, reported while a seat lacks readiness, leaves the release alone. -/
theorem seatMoved_waits (h : ReleaseWaits s) (unready : ¬SeatsReady s) (moved : seatState s i ≠ old) :
    (seatMoved i old s).restraint = s.restraint ∧ ReleaseWaits (seatMoved i old s) ∧
      ReleaseStands (seatMoved i old s) := by
  obtain ⟨goes, waits, stands⟩ := refreshPermit_waits h unready
  by_cases offline : s.mc.mode = .offline
  · have quiet : seatMoved i old s = refreshPermit s := by
      rw [seatMoved_judged moved (by simp [opensRestraint, watched, offline])]
      exact evalReady_unready (by rw [refreshPermit_mc, offline]; exact nofun) stands.restReady
    rw [quiet]
    exact ⟨goes, waits, stands⟩
  · have rides := waits.rides (by rwa [refreshPermit_mc]) stands
    have rode : RidesOn (refreshPermit s) (seatMoved i old s) := by
      unfold seatMoved
      dsimp only
      rw [if_neg moved]
      exact (RidesOn.ite (takeFault_ridesOn ..) (.refl _)).trans (evalReady_ridesOn _)
    exact ⟨(rode.restraint rides).trans goes, .of_rides (rode.rides rides), (rode.rides rides).stands⟩

/-! ## The seats join the queue -/

/-- A seat RELEASING at the back of the queue (R73). -/
def Restraint.joined (r : Restraint) (i : Fin 8) : Restraint :=
  { r.modSeat i (fun seat => { seat with state := .releasing, verifyElapsed := 0, disagreeElapsed := 0 }) with
    queue := r.queue ++ [i] }

theorem appendRelease_eq (s : State) (i : Fin 8) :
    appendRelease s i = seatMoved i (seatState s i) (s.setRestraint (s.restraint.joined i)) := rfl

theorem joined_seat (r : Restraint) (i : Fin 8) : (r.joined i).seats[i] =
    { r.seats[i] with state := .releasing, verifyElapsed := 0, disagreeElapsed := 0 } :=
  modSeat_seat r i fun seat => { seat with state := .releasing, verifyElapsed := 0, disagreeElapsed := 0 }

theorem joined_other (r : Restraint) (h : j ≠ i) : (r.joined i).seats[j] = r.seats[j] :=
  modSeat_other r (fun seat => { seat with state := .releasing, verifyElapsed := 0, disagreeElapsed := 0 }) h

/-- The state once a seat has joined: its release goes on, in order, and the level is formed. -/
structure SeatJoins (i : Fin 8) (s t : State) : Prop where
  restraint : t.restraint = s.restraint.joined i
  waits : ReleaseWaits t
  stands : ReleaseStands t
  ordered : ReleaseOrdered t
  level : LevelHeld t

/-- A seat that has moved has the level formed. -/
theorem seatMoved_forms (moved : seatState s i ≠ old) : LevelForms s (seatMoved i old s) := by
  unfold seatMoved
  dsimp only
  rw [if_neg moved]
  exact (refreshPermit_forms s).trans ((DeviceKept.whenDue (takeFault_deviceKept ..)).trans (evalReady_deviceKept _))

theorem appendRelease_joins (h : ReleaseWaits s) (ho : ReleaseOrdered s) (out : seatState s i ≠ .releasing) :
    SeatJoins i s (appendRelease s i) := by
  have state : seatState (s.setRestraint (s.restraint.joined i)) i = .releasing := by
    rw [seatState, State.setRestraint_restraint, joined_seat]
  have waits : ReleaseWaits (s.setRestraint (s.restraint.joined i)) := h.of_blocks rfl rfl rfl
  have unready : ¬SeatsReady (s.setRestraint (s.restraint.joined i)) := fun ready => by simpa [state] using ready i
  have moved : seatState (s.setRestraint (s.restraint.joined i)) i ≠ seatState s i := by
    rw [state]
    exact out.symm
  obtain ⟨goes, after, stands⟩ := seatMoved_waits waits unready moved
  have outside : i ∉ s.restraint.queue ∧ i ∉ s.restraint.energised :=
    not_or.1 fun pending => out ((ho.order.releasing i).1 pending)
  have order : (s.restraint.joined i).Ordered := ho.order.joined rfl rfl outside
    (congrArg Seat.state (joined_seat ..)) fun j hj => by rw [joined_other _ hj]
  have ordered : ReleaseOrdered (s.setRestraint (s.restraint.joined i)) := ⟨order, fun hc => absurd h.running hc⟩
  have forms := seatMoved_forms moved
  rw [appendRelease_eq]
  exact ⟨goes, after, stands, forms.ordered ordered, forms.level ordered fun hc => absurd h.running hc⟩

/-- The state once the seats `l` have joined. -/
structure SeatsJoin (l : List (Fin 8)) (s t : State) : Prop where
  restraint : t.restraint = l.foldl Restraint.joined s.restraint
  waits : ReleaseWaits t
  ordered : ReleaseOrdered t
  none : l = [] → t = s
  stands : l ≠ [] → ReleaseStands t ∧ LevelHeld t

theorem appendRelease_foldl (l : List (Fin 8)) (distinct : l.Nodup) (h : ReleaseWaits s) (ho : ReleaseOrdered s)
    (out : ∀ i ∈ l, seatState s i ≠ .releasing) : SeatsJoin l s (l.foldl appendRelease s) := by
  induction l generalizing s with
  | nil => exact ⟨rfl, h, ho, fun _ => rfl, fun hn => absurd rfl hn⟩
  | cons i l ih =>
    obtain ⟨new, distinct⟩ := List.nodup_cons.1 distinct
    have joins := appendRelease_joins h ho (out i (.head l))
    have rest := ih distinct joins.waits joins.ordered fun j hj => by
      have other : j ≠ i := ne_of_mem_of_not_mem hj new
      rw [seatState, joins.restraint, joined_other _ other]
      exact out j (.tail i hj)
    refine ⟨by rw [List.foldl_cons, rest.restraint, joins.restraint]; rfl, rest.waits, rest.ordered, nofun, fun _ => ?_⟩
    by_cases last : l = []
    · rw [List.foldl_cons, rest.none last]
      exact ⟨joins.stands, joins.level⟩
    · exact rest.stands last

/-! ## RELEASE -/

/-- A seat that a RELEASE appends is not RELEASING. -/
theorem appended_unreleasing {mask : Byte} (ho : ReleaseOrdered s) (h : appended s mask i = true) :
    seatState s i ≠ .releasing := by
  intro releasing
  have pending := (ho.order.releasing i).2 releasing
  simp only [appended, releasePending, Bool.and_eq_true, Bool.not_eq_true', Bool.or_eq_false_iff] at h
  obtain ⟨⟨-, notQueued, notEnergised⟩, -⟩ := h
  rcases pending with queued | energised
  · simp [queued] at notQueued
  · simp [energised] at notEnergised

/-- The seats that a RELEASE of `mask` appends. -/
def joining (mask : Byte) (s : State) : List (Fin 8) := allSeats.filter (appended s mask)

theorem joining_joins (mask : Byte) (h : ReleaseWaits s) (ho : ReleaseOrdered s) :
    SeatsJoin (joining mask s) s ((joining mask s).foldl appendRelease s) :=
  appendRelease_foldl _ ((by decide : allSeats.Nodup).filter _) h ho
    fun i hi => appended_unreleasing ho (List.mem_filter.1 hi).2

theorem release_eq (mask : Byte) (s : State) :
    release mask s = evalReady (fillEnergised ((joining mask s).foldl appendRelease s)) := rfl

theorem release_deviceKept (mask : Byte) (h : ReleaseWaits s) : DeviceKept s (release mask s) := by
  refine .of_ordered fun ho => ?_
  have joins := joining_joins mask h ho
  rw [release_eq]
  generalize (joining mask s).foldl appendRelease s = t at joins ⊢
  have filled := fillEnergised_deviceKept t
  refine DeviceKept.trans (t := fillEnergised t) ?_ (evalReady_deviceKept _)
  by_cases none : joining mask s = []
  · rwa [joins.none none] at filled ⊢
  · obtain ⟨stands, level⟩ := joins.stands none
    exact ⟨⟨⟨fun _ => filled.ordered joins.ordered, fun _ _ => joins.ordered.order.fill_filled _,
      fun _ _ hc => absurd joins.waits.running hc⟩,
      fun _ _ => filled.judged joins.ordered fun _ => releaseCondition_iff.2 stands.allowed⟩,
      fun _ _ => filled.level joins.ordered level⟩

/-- What accepts a RELEASE lets it wait (R73, R79). -/
theorem ReleaseWaits.of_accepted (running : s.startUp.phase = .complete) (berth : BerthHeld s)
    (accepted : releaseAccepted s = true) : ReleaseWaits s := by
  refine ⟨running, berth, releaseCondition_iff.1 ?_⟩
  cases mode : s.mc.mode <;> simp_all [releaseAccepted, releaseCondition, PermitLevel.still]

end Sys2Proof.Machine
end

section
/-! SUPPORT. The forms and bounds (R74, R103, R105, R168, R175, R176) beside the device laws: the relation that the handling of
every request keeps, and the handlers of the requests. -/

namespace Sys2Proof.Machine

variable {s t u : State}

/-! ## Forms and bounds -/

/-- The canonical memory, the bounds of the queues and logs, and the ranges of show time are kept, and no response is given. -/
structure FormsKept (s t : State) : Prop where
  memory : MemoryCanonical s → MemoryCanonical t
  bounds : QueuesBounded s → QueuesBounded t
  clock : ClockInRange s.clock → ClockInRange t.clock
  responses : t.wli.outgoing = s.wli.outgoing

theorem FormsKept.refl (s : State) : FormsKept s s := ⟨id, id, id, rfl⟩

theorem FormsKept.trans (h : FormsKept s t) (k : FormsKept t u) : FormsKept s u :=
  ⟨k.memory ∘ h.memory, k.bounds ∘ h.bounds, k.clock ∘ h.clock, k.responses.trans h.responses⟩

/-- The store, show time and the responses as they were, with the lists that are bounded. -/
theorem FormsKept.of_blocks (hs : t.store.memory = s.store.memory) (hc : t.clock = s.clock)
    (ho : t.wli.outgoing = s.wli.outgoing) (hq : t.wli.queue = s.wli.queue)
    (he : s.restraint.energised.length ≤ 2 → t.restraint.energised.length ≤ 2) (hn : NoticesKept s t)
    (hl : s.permit.log.length ≤ 16 → t.permit.log.length ≤ 16) : FormsKept s t where
  memory := by rw [MemoryCanonical, MemoryCanonical, hs]; exact id
  bounds h := ⟨by rw [hq]; exact h.requests, by rw [ho]; exact h.responses, he h.energised, hn.bound h.notices, hl h.faults⟩
  clock := by rw [hc]; exact id
  responses := ho

theorem Keeps.formsKept (h : Keeps s t) : FormsKept s t :=
  .of_blocks (by rw [h.store]) h.clock h.responses h.requests h.energised h.notices h.log

theorem KeepsOffTerminals.formsKept (h : KeepsOffTerminals s t) : FormsKept s t := by
  obtain ⟨x, h⟩ := h
  have set : FormsKept s (s.setTerminals x) := .of_blocks rfl rfl rfl rfl id (.of_eq rfl) id
  exact set.trans h.formsKept

theorem enterMode_formsKept (new : Mode) (held : HeldFrom) (s : State) : FormsKept s (enterMode new held s) := by
  have ground := enterMode_ground new held s
  exact .of_blocks (by rw [ground.store]) ground.clock (by rw [enterMode_wli])
    (by rw [enterMode_wli]) (enterMode_energised new held s) (enterMode_notices new held s)
    (by rw [(enterMode_formed new held s).log]; exact id)

theorem changeMode_formsKept (new : Mode) (held : HeldFrom) (s : State) : FormsKept s (changeMode new held s) :=
  (enterMode_formsKept new held s).trans (rcCheck_keeps _).formsKept

/-! ## Forms, bounds and the device laws -/

/-- Everything that every step keeps, but for the halts, the berth and the steering. -/
structure LawsKept (s t : State) : Prop extends FormsKept s t, DeviceKept s t

theorem LawsKept.refl (s : State) : LawsKept s s := ⟨.refl s, .refl s⟩

theorem LawsKept.trans (h : LawsKept s t) (k : LawsKept t u) : LawsKept s u :=
  ⟨h.toFormsKept.trans k.toFormsKept, h.toDeviceKept.trans k.toDeviceKept⟩

theorem LawsKept.ite {c : Prop} [Decidable c] (h : LawsKept s t) (k : LawsKept s u) :
    LawsKept s (if c then t else u) := by
  split
  · exact h
  · exact k

theorem Keeps.lawsKept (h : Keeps s t) (d : DeviceKept s t) : LawsKept s t := ⟨h.formsKept, d⟩

/-- Nothing that the laws read has moved. -/
theorem LawsKept.aside (f : FormsKept s t) (hm : t.mc = s.mc) (hp : t.permit = s.permit) (hr : t.restraint = s.restraint)
    (ht : t.tracker.position = s.tracker.position) (hi : t.terminals = s.terminals) (hu : t.startUp = s.startUp) :
    LawsKept s t :=
  ⟨f, .of_same hr (by rw [hu]) (by rw [hp]) (releaseCondition_congr hm (by rw [hp]) (by rw [hp]))
    (permitLevelOf_congr (by rw [hm]) ht (fun i => by rw [seatState, hr]; rfl) (by rw [onboardStop, hi]; rfl))⟩

theorem OnlyShow.lawsKept (h : OnlyShow s t) (hn : NoticesKept s t) : LawsKept s t := (Keeps.of_show h hn).lawsKept h.deviceKept

theorem LawsKept.setSound (s : State) (x : Sound) : LawsKept s (s.setSound x) := (OnlyShow.setSound s x).lawsKept (.of_eq rfl)

theorem LawsKept.setTables (s : State) (x : Tables) : LawsKept s (s.setTables x) :=
  .aside (.of_blocks rfl rfl rfl rfl id (.of_eq rfl) id) rfl rfl rfl rfl rfl rfl

theorem LawsKept.setParams (s : State) (x : Params) : LawsKept s (s.setParams x) :=
  .aside (.of_blocks rfl rfl rfl rfl id (.of_eq rfl) id) rfl rfl rfl rfl rfl rfl

theorem LawsKept.setDli (s : State) (x : Dli) : LawsKept s (s.setDli x) :=
  .aside (.of_blocks rfl rfl rfl rfl id (.of_eq rfl) id) rfl rfl rfl rfl rfl rfl

/-- The store, its memory in canonical form. -/
theorem LawsKept.setStore (s : State) (x : Store) (h : s.store.memory.wf = true → x.memory.wf = true) :
    LawsKept s (s.setStore x) :=
  .aside ⟨h, fun b => ⟨b.requests, b.responses, b.energised, b.notices, b.faults⟩, id, rfl⟩ rfl rfl rfl rfl rfl rfl

theorem LawsKept.setFreeDraws (s : State) (n : Nat) : LawsKept s (s.setFreeDraws n) :=
  .aside (.of_blocks rfl rfl rfl rfl id (.of_eq rfl) id) rfl rfl rfl rfl rfl rfl

theorem LawsKept.setClock (s : State) (x : ShowClock) (h : ClockInRange s.clock → ClockInRange x) :
    LawsKept s (s.setClock x) :=
  .aside ⟨id, fun b => ⟨b.requests, b.responses, b.energised, b.notices, b.faults⟩, h, rfl⟩ rfl rfl rfl rfl rfl rfl

theorem LawsKept.setDensity (s : State) (x : Vector Density 3) : LawsKept s (s.setDensity x) :=
  (Keeps.setDensity s x).lawsKept (.of_same rfl .rfl rfl rfl rfl)

/-- The preface slots and the two counts of the Mode Controller. -/
theorem LawsKept.setMc (s : State) (x : ModeController) (hm : x.mode = s.mc.mode) (hh : x.heldFrom = s.mc.heldFrom)
    (hb : x.berthed = s.mc.berthed) (hr : x.berthReached = s.mc.berthReached) (ha : x.advance = s.mc.advance) :
    LawsKept s (s.setMc x) where
  toFormsKept := .of_blocks rfl rfl rfl rfl id (.of_eq rfl) id
  toDeviceKept := .of_same rfl .rfl rfl
    (by simp only [releaseCondition, State.setMc_mc, State.setMc_permit, hm, hh, hb, hr])
    (permitLevelOf_congr (by simp only [modePermit, State.setMc_mc, hm, hb, ha]) rfl (fun _ => rfl) rfl)

theorem setSlot_lawsKept (s : State) (src : Source) (x : Option Preface) :
    LawsKept s (modMc s fun m => m.setSlot src x) := by
  refine .setMc s _ (setSlot_mode ..) ?_ (setSlot_berthed ..) (setSlot_berthReached ..) (setSlot_advance ..)
  cases src <;> rfl

/-! ## Requests of the mode and the permit -/

theorem changeMode_lawsKept (new : Mode) (held : HeldFrom) (s : State) : LawsKept s (changeMode new held s) :=
  ⟨changeMode_formsKept .., changeMode_deviceKept ..⟩

theorem evalReady_lawsKept (s : State) : LawsKept s (evalReady s) := (evalReady_keeps s).lawsKept (evalReady_deviceKept s)

theorem goOnline_lawsKept (s : State) : LawsKept s (goOnline s) := by
  have stopped : DeviceKept (loadEntered s) (stopJudged s) := .ite (raiseFault_deviceKept ..) (.refl _)
  refine ⟨(enterMode_formsKept ..).trans (goOnline_keeps s).formsKept, (enterMode_deviceKept .load .none s).trans ?_⟩
  rw [goOnline_eq]
  exact stopped.trans ((rcCheck_deviceKept _).trans (evalReady_deviceKept _))

/-- Items of the Permit Unit other than the level, the stationary condition and the log. -/
theorem LawsKept.setPermit (s : State) (x : PermitUnit) (hl : x.level = s.permit.level)
    (hs : x.stationary = s.permit.stationary) (hg : x.log = s.permit.log) : LawsKept s (s.setPermit x) :=
  ⟨.of_blocks rfl rfl rfl rfl id (.of_eq rfl) (by rw [State.setPermit_permit, hg]; exact id), .setPermit s x hl hs⟩

theorem goOffline_lawsKept (s : State) : LawsKept s (goOffline s) :=
  (LawsKept.setPermit s { s.permit with active := [], first := none, rcLimit := 3000 } rfl rfl rfl).trans
    (changeMode_lawsKept .offline .none _)

theorem recover_lawsKept (s : State) : LawsKept s (recover s) := by
  have cleared : LawsKept s (clearFaults s) := .setPermit s _ rfl rfl rfl
  exact .ite (cleared.trans ((changeMode_lawsKept ..).trans (evalReady_lawsKept _)))
    (cleared.trans (changeMode_lawsKept ..))

theorem handleGoOnline_lawsKept (args : List Byte) (s : State) : LawsKept s (handleGoOnline args s).next := by
  unfold handleGoOnline
  repeat' split
  · exact .refl s
  · exact .refl s
  · exact goOnline_lawsKept s

theorem handleGoOffline_lawsKept (args : List Byte) (s : State) : LawsKept s (handleGoOffline args s).next := by
  unfold handleGoOffline
  repeat' split
  · exact .refl s
  · exact .refl s
  · exact goOffline_lawsKept s
  · exact .refl s

theorem handleDispatch_lawsKept (args : List Byte) (s : State) : LawsKept s (handleDispatch args s).next := by
  have counted (n : Nat) : LawsKept s (modMc s fun m => { m with dispatchCount := n }) := .setMc s _ rfl rfl rfl rfl rfl
  unfold handleDispatch
  repeat' split
  · exact .refl s
  · exact .refl s
  · exact (counted _).trans (changeMode_lawsKept ..)

theorem handleHold_lawsKept (args : List Byte) (s : State) : LawsKept s (handleHold args s).next := by
  unfold handleHold
  repeat' split
  · exact .refl s
  · exact changeMode_lawsKept ..
  · exact changeMode_lawsKept ..
  all_goals exact .refl s

theorem evalBerth_lawsKept (s : State) : LawsKept s (evalBerth s) := (evalBerth_keeps s).lawsKept (evalBerth_deviceKept s)

theorem handleResume_lawsKept (args : List Byte) (s : State) : LawsKept s (handleResume args s).next := by
  unfold handleResume
  repeat' split
  · exact .refl s
  · exact .refl s
  · exact changeMode_lawsKept ..
  · exact (changeMode_lawsKept ..).trans (evalBerth_lawsKept _)
  · exact .refl s

theorem handleAdvance_lawsKept (args : List Byte) (s : State) : LawsKept s (handleAdvance args s).next := by
  have ended : LawsKept s (endAdvance s) := (endAdvance_keeps s).lawsKept (endAdvance_deviceKept s)
  have started (mm : Nat) : LawsKept s (startAdvance mm s) := (startAdvance_keeps mm s).lawsKept (startAdvance_deviceKept mm s)
  have advanced (mm : Nat) : LawsKept s (advanceBy mm s) := .ite (.ite ended (.refl s)) (started mm)
  unfold handleAdvance
  repeat' split
  · exact .refl s
  · exact advanced _
  · exact .refl s

theorem handleStopNow_lawsKept (args : List Byte) (s : State) : LawsKept s (handleStopNow args s).next := by
  unfold handleStopNow
  split
  · exact .refl s
  · exact (takeFault_keeps ..).lawsKept (takeFault_deviceKept ..)

theorem handleRecover_lawsKept (args : List Byte) (s : State) : LawsKept s (handleRecover args s).next := by
  unfold handleRecover
  repeat' split
  · exact .refl s
  · exact .refl s
  · exact recover_lawsKept s

theorem handlePreface_lawsKept (args : List Byte) (s : State) : LawsKept s (handlePreface args s).next := by
  have filled (x : Preface) : LawsKept s (modMc s fun m => { m with rcSlot := some x }) := .setMc s _ rfl rfl rfl rfl rfl
  unfold handlePreface
  repeat' split
  · exact filled _
  all_goals exact .refl s

theorem handleSetSpeedLimit_lawsKept (args : List Byte) (s : State) : LawsKept s (handleSetSpeedLimit args s).next := by
  have limited (n : Nat) : LawsKept s (setSpeedLimit n s) :=
    (LawsKept.setPermit s { s.permit with rcLimit := n } rfl rfl rfl).trans
      ((formCeilings_keeps _).lawsKept (formCeilings_deviceKept _))
  unfold handleSetSpeedLimit
  split
  · exact limited _
  · exact .refl s

/-! ## Requests of the Restraint Monitor -/

theorem handleRelease_formsKept (args : List Byte) (s : State) : FormsKept s (handleRelease args s).next := by
  unfold handleRelease
  repeat' split
  · exact .refl s
  · exact .refl s
  · exact .refl s
  · exact (release_keeps _ s).formsKept
  · exact .refl s

/-- RELEASE is the one request that asks for the berth: UNLOAD accepts it from a berthed vehicle (R73). -/
theorem handleRelease_deviceKept (args : List Byte) (running : s.startUp.phase = .complete) (berth : BerthHeld s) :
    DeviceKept s (handleRelease args s).next := by
  unfold handleRelease
  repeat' split
  · exact .refl s
  · exact .refl s
  · exact .refl s
  · next accepted => exact release_deviceKept _ (.of_accepted running berth (by simpa using accepted))
  · exact .refl s

theorem handleBypass_lawsKept (args : List Byte) (s : State) : LawsKept s (handleBypass args s).next := by
  unfold handleBypass
  repeat' split
  · exact .refl s
  · exact .refl s
  · next none => exact (bypass_keeps _ s).lawsKept (bypass_deviceKept _ (idle_iff.1 (by simpa using none)))
  · exact .refl s

theorem handleRestore_lawsKept (args : List Byte) (s : State) : LawsKept s (handleRestore args s).next := by
  have restored (mask : Byte) : DeviceKept s ((allSeats.filter (isRestored s mask)).foldl restoreSeat s) :=
    restore_deviceKept _ fun i hi releasing => by simpa [isRestored, releasing] using (List.mem_filter.1 hi).2
  unfold handleRestore
  repeat' split
  · exact .refl s
  · exact (Keeps.foldl restoreSeat_keeps _ s).lawsKept (restored _)
  · exact .refl s

theorem handleClearSeatEvents_lawsKept (args : List Byte) (s : State) :
    LawsKept s (handleClearSeatEvents args s).next := by
  have cleared (mask : Byte) : LawsKept s (modRestraint s (clearLatches mask)) := by
    refine ⟨.of_blocks rfl rfl rfl rfl id (.of_eq rfl) id, .setSeats s _ rfl rfl fun i => ?_⟩
    rw [clearLatches_seat]
    split <;> rfl
  unfold handleClearSeatEvents
  split
  · exact cleared _
  · exact .refl s

/-! ## Parameters -/

theorem paramWritten_lawsKept (id : ParamId) (h : writeBlocked s id = false) : LawsKept s (paramWritten id s) := by
  unfold paramWritten
  split
  · exact (applySeatMask_keeps ..).lawsKept (applySeatMask_deviceKept _ (idle_iff.1 h))
  · exact (formAhead_keeps s).lawsKept (formAhead_deviceKept s)
  · exact (formAhead_keeps s).lawsKept (formAhead_deviceKept s)
  · exact ⟨.of_blocks rfl rfl rfl rfl id (.of_eq rfl) id, setTerminals_deviceKept s _ rfl⟩
  · exact ⟨(applyInput_keeps ..).formsKept, applyInput_deviceKept ..⟩
  · exact ⟨(applyInput_keeps ..).formsKept, applyInput_deviceKept ..⟩
  · exact .refl s

/-- A write asks the owning block first, and the parameters do not bear on its answer (R63, R149). -/
theorem writeBlocked_setParams (id : ParamId) (p : Params) : writeBlocked (s.setParams p) id = writeBlocked s id := by
  cases id <;> rfl

theorem handleSetParam_lawsKept (args : List Byte) (s : State) : LawsKept s (handleSetParam args s).next := by
  unfold handleSetParam
  repeat' split
  · exact .refl s
  · next id _ =>
    unfold writeParam
    repeat' split
    · exact .refl s
    · exact .refl s
    · exact .refl s
    · next admitted _ p _ =>
      refine (LawsKept.setParams s p).trans (paramWritten_lawsKept id ?_)
      rw [writeBlocked_setParams]
      exact Bool.eq_false_iff.2 (not_or.1 admitted).2
  · exact .refl s

/-! ## RESTART (R192) -/

/-- A state as a reset leaves it, but for what bears on no release and not on the level, whatever came before. -/
theorem DeviceKept.of_reset (h : DeviceKept State.reset t) : DeviceKept s t := by
  obtain ⟨order, filled, judged⟩ := releaseHeld_iff.1 reset_releaseHeld
  have level := reset_levelHeld
  exact ⟨⟨⟨fun _ => h.ordered order, fun _ _ => h.filled order filled, fun _ _ => h.rests order level.startUp⟩,
    fun _ _ => h.judged order judged⟩, fun _ _ => h.level order level⟩

theorem handleRestart_lawsKept (args : List Byte) (s : State) : LawsKept s (handleRestart args s).next := by
  have restarted : LawsKept s (restart s) :=
    ⟨⟨id, fun h => ⟨Nat.zero_le 4, h.responses, Nat.zero_le 2, Nat.zero_le 16, h.faults⟩, fun _ => reset_clockInRange, rfl⟩,
      .of_reset (.of_same rfl .rfl rfl rfl rfl)⟩
  unfold handleRestart
  repeat' split
  · exact .refl s
  · exact .refl s
  · exact restarted

/-! ## Tables -/

theorem becomeUnsync_lawsKept (s : State) : LawsKept s (becomeUnsync s) :=
  (becomeUnsync_keeps s).lawsKept (becomeUnsync_deviceKept s)

theorem pairCheck_lawsKept (s : State) : LawsKept s (pairCheck s) :=
  .ite ((LawsKept.setTables s _).trans (becomeUnsync_lawsKept _)) (.refl s)

theorem routeEmptied_lawsKept (s : State) : LawsKept s (routeEmptied s) := by
  have moved : LawsKept s (modTracker s fun t => { t with p := 0, segment := none, highWater := 0 }) :=
    (Keeps.setTracker s _).lawsKept (.setTracker s _ rfl)
  exact moved.trans (becomeUnsync_lawsKept _)

theorem handleTableBegin_lawsKept (args : List Byte) (s : State) : LawsKept s (handleTableBegin args s).next := by
  have begun (x : Tables) : LawsKept s (becomeUnsync (s.setTables x)) :=
    (LawsKept.setTables s x).trans (becomeUnsync_lawsKept _)
  have emptied (x : Tables) : LawsKept s (routeEmptied (s.setTables x)) :=
    (LawsKept.setTables s x).trans (routeEmptied_lawsKept _)
  unfold handleTableBegin
  dsimp only
  repeat' split
  · exact emptied _
  · exact .refl s
  · exact begun _
  · exact .setTables ..
  · exact (LawsKept.setTables s _).trans (.setSound _ _)
  · exact .refl s

theorem takeEntry_lawsKept {α : Type} (x : Table α) (entry : Option α) (check : Table α → Option α → Option Status)
    (bytes : List Byte) (put : Table α → State) (h : ∀ y, LawsKept s (put y)) :
    LawsKept s (takeEntry x entry check bytes put s).next := by
  unfold takeEntry
  repeat' split
  · exact .refl s
  · exact .refl s
  · exact h _
  · exact .refl s

theorem handleTableEntry_lawsKept (args : List Byte) (s : State) : LawsKept s (handleTableEntry args s).next := by
  unfold handleTableEntry
  dsimp only
  split
  case h_5 => exact .refl s
  all_goals exact takeEntry_lawsKept _ _ _ _ _ fun _ => .setTables ..

theorem endTable_lawsKept {α : Type} (x : Table α) (ok : Bool) (put : Table α → State) (h : ∀ y, LawsKept s (put y)) :
    LawsKept s (endTable x ok put s).next := by
  unfold endTable
  split
  · exact .refl s
  · exact h _

theorem handleTableEnd_lawsKept (args : List Byte) (s : State) : LawsKept s (handleTableEnd args s).next := by
  have checked (x : Tables) : LawsKept s (pairCheck (s.setTables x)) :=
    (LawsKept.setTables s x).trans (pairCheck_lawsKept _)
  unfold handleTableEnd
  dsimp only
  split
  · split
    · exact endTable_lawsKept _ _ _ fun _ => checked _
    · exact endTable_lawsKept _ _ _ fun _ => checked _
    · exact endTable_lawsKept _ _ _ fun _ => .setTables ..
    · exact endTable_lawsKept _ _ _ fun _ => .setTables ..
  · exact .refl s

/-! ## The store -/

theorem setActivity_lawsKept (a : StoreActivity) (s : State) : LawsKept s (setActivity a s) := .setStore s _ id

theorem handleSave_lawsKept (args : List Byte) (s : State) : LawsKept s (handleSave args s).next := by
  unfold handleSave
  repeat' split
  · exact .refl s
  · exact .refl s
  · exact setActivity_lawsKept ..

theorem handleStoreWrite_lawsKept (args : List Byte) (s : State) : LawsKept s (handleStoreWrite args s).next := by
  unfold handleStoreWrite
  repeat' split
  · exact .refl s
  · exact .refl s
  · exact setActivity_lawsKept ..
  · exact .refl s

theorem handleStoreErase_lawsKept (args : List Byte) (s : State) : LawsKept s (handleStoreErase args s).next := by
  unfold handleStoreErase
  dsimp only
  repeat' split
  · exact .refl s
  · exact .refl s
  · exact setActivity_lawsKept ..
  · exact .refl s

/-! ## The show -/

/-- Of the notices the first eight are taken (R104). -/
theorem handleNotices_lawsKept (args : List Byte) (s : State) : LawsKept s (handleNotices args s).next := by
  have taken : LawsKept s (modCues s fun c => { c with notices := c.notices.drop 8 }) :=
    (OnlyShow.setCues s _).lawsKept ⟨fun h => (List.length_drop ▸ Nat.sub_le ..).trans h⟩
  unfold handleNotices
  split
  · exact .refl s
  · exact taken

theorem handleAnnounce_lawsKept (args : List Byte) (s : State) : LawsKept s (handleAnnounce args s).next := by
  unfold handleAnnounce
  repeat' split
  · exact .setSound ..
  · exact .refl s
  · exact .refl s
  · exact .setSound ..
  · exact .refl s

theorem handleVoiceStart_lawsKept (args : List Byte) (s : State) : LawsKept s (handleVoiceStart args s).next := by
  unfold handleVoiceStart
  repeat' split
  · exact .refl s
  · exact .refl s
  · exact .refl s
  · exact .refl s
  · exact .setSound ..

theorem handleVoiceStop_lawsKept (args : List Byte) (s : State) : LawsKept s (handleVoiceStop args s).next := by
  unfold handleVoiceStop
  repeat' split
  · exact .refl s
  · exact .setSound ..
  · exact .refl s

theorem handleVoiceGain_lawsKept (args : List Byte) (s : State) : LawsKept s (handleVoiceGain args s).next := by
  unfold handleVoiceGain
  repeat' split
  · exact .refl s
  · exact .setSound ..
  · exact .refl s

theorem handleMasterVolume_lawsKept (args : List Byte) (s : State) : LawsKept s (handleMasterVolume args s).next := by
  unfold handleMasterVolume
  repeat' split
  · exact .refl s
  · exact .refl s
  · exact .setSound ..
  · exact .refl s

theorem addNs_inRange {c : ShowClock} (d : Int) (h : ClockInRange c) : ClockInRange (c.addNs d) where
  ms := by
    have below := Int.emod_lt_of_pos ((c.totalNs : Int) + d) (by decide : (0 : Int) < clockWrapNs)
    have carried : (c.addNs d).ms = (((c.totalNs : Int) + d) % (clockWrapNs : Int)).toNat / 1000000 := rfl
    rw [carried]
    simp only [clockWrapNs] at below ⊢
    omega
  us := addNs_us_lt c d
  residue := addNs_residue_lt c d
  age := h.age
  steps := h.steps

theorem advance_inRange {c : ShowClock} (h : ClockInRange c) : ClockInRange c.advance :=
  have moved := addNs_inRange (1000000 + 1000 * slewStep c.pending) h
  ⟨moved.ms, moved.us, moved.residue, Nat.min_le_right .., moved.steps⟩

theorem expire_inRange {c : ShowClock} (h : ClockInRange c) : ClockInRange c.expire :=
  ⟨h.ms, h.us, h.residue, le_rfl, h.steps⟩

theorem sync_inRange {c : ShowClock} (p : Params) (d : Int) (h : ClockInRange c) : ClockInRange (c.sync p d) := by
  unfold ShowClock.sync
  dsimp only
  split
  · have moved := addNs_inRange d h
    exact ⟨moved.ms, moved.us, moved.residue, Nat.zero_le _, Nat.min_le_right ..⟩
  · exact ⟨h.ms, h.us, h.residue, Nat.zero_le _, h.steps⟩

theorem resyncVoice_notices (s : State) (i : Fin 6) : NoticesKept s (resyncVoice s i) := by
  unfold resyncVoice
  dsimp only
  repeat' split
  all_goals exact .of_eq rfl

theorem resyncAll_lawsKept (s : State) : LawsKept s (resyncAll s) :=
  (resyncAll_only s).lawsKept (foldl_notices resyncVoice_notices _ s)

theorem handleSync_lawsKept (k : Capture) (args : List Byte) (s : State) : LawsKept s (handleSync k args s).next := by
  have synced (d : Int) : LawsKept s (resyncAll (s.setClock (s.clock.sync s.params d))) :=
    (LawsKept.setClock s _ (sync_inRange s.params d)).trans (resyncAll_lawsKept _)
  unfold handleSync
  dsimp only
  split
  · split
    · exact .refl s
    · rw [done_next]
      exact synced _
  · exact .refl s

/-! ## Requests that read alone -/

theorem handleStatus_lawsKept (args : List Byte) (s : State) : LawsKept s (handleStatus args s).next := by
  unfold handleStatus
  split <;> exact .refl s

theorem handleShowStatus_lawsKept (args : List Byte) (s : State) : LawsKept s (handleShowStatus args s).next := by
  unfold handleShowStatus
  split <;> exact .refl s

theorem handleReadFaultLog_lawsKept (args : List Byte) (s : State) : LawsKept s (handleReadFaultLog args s).next := by
  unfold handleReadFaultLog
  (repeat' split) <;> exact .refl s

theorem handleGetParam_lawsKept (args : List Byte) (s : State) : LawsKept s (handleGetParam args s).next := by
  unfold handleGetParam
  (repeat' split) <;> exact .refl s

theorem handleStoreRead_lawsKept (args : List Byte) (s : State) : LawsKept s (handleStoreRead args s).next := by
  unfold handleStoreRead
  (repeat' split) <;> exact .refl s

end Sys2Proof.Machine
end

section
/-! PROOF. O57 and O60: the forms and bounds, and the laws of the release and of the permit level, through every request and event
(R74, R79, R105, R154, R155). -/

namespace Sys2Proof.Machine

variable {s t u : State}

/-! ## What a step keeps -/

/-- What handling a request keeps. The device laws ask for the berth, which RELEASE reads. -/
structure RequestKept (s t : State) : Prop extends FormsKept s t where
  device : BerthHeld s → DeviceKept s t

/-- What a step keeps. -/
structure StepKept (s t : State) : Prop where
  memory : MemoryCanonical s → MemoryCanonical t
  bounds : QueuesBounded s → QueuesBounded t
  clock : ClockInRange s.clock → ClockInRange t.clock
  device : BerthHeld s → DeviceKept s t

theorem LawsKept.requestKept (h : LawsKept s t) : RequestKept s t := ⟨h.toFormsKept, fun _ => h.toDeviceKept⟩

theorem RequestKept.stepKept (h : RequestKept s t) : StepKept s t := ⟨h.memory, h.bounds, h.clock, h.device⟩

theorem LawsKept.stepKept (h : LawsKept s t) : StepKept s t := h.requestKept.stepKept

theorem StepKept.refl (s : State) : StepKept s s := (LawsKept.refl s).stepKept

theorem StepKept.ite {c : Prop} [Decidable c] (h : StepKept s t) (k : StepKept s u) :
    StepKept s (if c then t else u) := by
  split
  · exact h
  · exact k

/-- A row that does something only where its event is due. -/
theorem StepKept.whenDue {c : Prop} [Decidable c] (h : StepKept s t) : StepKept s (if c then t else s) :=
  .ite h (.refl s)

theorem LawsKept.whenDue {c : Prop} [Decidable c] (h : LawsKept s t) : LawsKept s (if c then t else s) :=
  .ite h (.refl s)

theorem RequestKept.after (h : LawsKept s t) (b : BerthKept s t) (k : RequestKept t u) : RequestKept s u :=
  ⟨h.toFormsKept.trans k.toFormsKept, fun hb => h.toDeviceKept.trans (k.device (b.held hb))⟩

theorem StepKept.after (h : LawsKept s t) (b : BerthKept s t) (k : StepKept t u) : StepKept s u :=
  ⟨k.memory ∘ h.memory, k.bounds ∘ h.bounds, k.clock ∘ h.clock, fun hb => h.toDeviceKept.trans (k.device (b.held hb))⟩

/-! ## The link -/

/-- The block of the link bears on its two lists alone. -/
theorem setWli_stepKept (s : State) (x : Wli) (hq : s.wli.queue.length ≤ 4 → x.queue.length ≤ 4)
    (ho : s.wli.outgoing.length ≤ 2 → x.outgoing.length ≤ 2) : StepKept s (s.setWli x) :=
  ⟨id, fun h => ⟨hq h.requests, ho h.responses, h.energised, h.notices, h.faults⟩, id,
    fun _ => .of_same rfl .rfl rfl rfl rfl⟩

theorem setWli_lawsKept (s : State) (x : Wli) (hq : s.wli.queue.length ≤ 4 → x.queue.length ≤ 4)
    (ho : x.outgoing = s.wli.outgoing) : LawsKept s (s.setWli x) :=
  .aside ⟨id, fun h => ⟨hq h.requests, by rw [State.setWli_wli, ho]; exact h.responses, h.energised, h.notices, h.faults⟩,
    id, ho⟩ rfl rfl rfl rfl rfl rfl

/-- The lists of the link as they were. -/
structure ListsKept (w x : Wli) : Prop where
  queue : w.queue.length ≤ 4 → x.queue.length ≤ 4
  outgoing : x.outgoing = w.outgoing

theorem breakFrame_lists (w : Wli) : ListsKept w w.breakFrame := ⟨id, rfl⟩

theorem enqueue_lists (w : Wli) (f : Frame) : ListsKept w (w.enqueue f) := by
  unfold Wli.enqueue
  split
  · next room =>
    refine ⟨fun _ => ?_, rfl⟩
    rw [List.length_append]
    exact room
  · exact ⟨id, rfl⟩

theorem finishFrame_lists (w : Wli) (f : PartialFrame) : ListsKept w (w.finishFrame f) := by
  have heard (x : Wli) (src : Source) : (x.heard src).queue = x.queue ∧ (x.heard src).outgoing = x.outgoing := by
    cases src <;> exact ⟨rfl, rfl⟩
  unfold Wli.finishFrame
  dsimp only
  repeat' split
  · exact ⟨id, rfl⟩
  · exact ⟨id, rfl⟩
  · next src _ =>
    obtain ⟨queue, outgoing⟩ := heard { w with receiver := .trailing, frame := none } src
    have queued := enqueue_lists (({ w with receiver := .trailing, frame := none } : Wli).heard src)
    exact ⟨fun h => (queued _).queue (by rwa [queue]), (queued _).outgoing.trans outgoing⟩
  · exact ⟨id, rfl⟩

theorem append_lists (w : Wli) (f : PartialFrame) (value : Byte) : ListsKept w (w.append f value) := by
  unfold Wli.append
  dsimp only
  repeat' split
  · exact ⟨id, rfl⟩
  · exact ⟨id, rfl⟩
  · exact finishFrame_lists ..
  · exact ⟨id, rfl⟩
  · exact ⟨id, rfl⟩

theorem ListsKept.stepKept {x : Wli} (h : ListsKept s.wli x) : StepKept s (s.setWli x) :=
  (setWli_lawsKept s x h.queue h.outgoing).stepKept

/-! ## Taking a request -/

/-- A handler keeps what handling a request keeps, once start-up is complete. -/
def HandlerLawful (handle : Handler) : Prop :=
  ∀ args s, s.startUp.phase = .complete → RequestKept s (handle args s).next

theorem askOwner_requestKept {handle : Handler} (k : Kind) (hk : HandlerLawful handle) (args : List Byte)
    (h : s.startUp.phase = .complete) : RequestKept s (askOwner k handle args s).next := by
  unfold askOwner
  split
  · exact hk args s h
  · exact (LawsKept.refl s).requestKept

theorem judgeUnicast_requestKept {handle : Handler} (row : Option Kind) (hk : HandlerLawful handle) (f : Frame)
    (h : s.startUp.phase = .complete) : RequestKept s (judgeUnicast row handle f s).next := by
  have counted (t : State) (n : Nat) : LawsKept t (modMc t fun m => { m with protectionFaults := n }) :=
    .setMc t _ rfl rfl rfl rfl rfl
  refine .after (setSlot_lawsKept s f.source none) (setSlot_kept s f.source none).toBerthKept ?_
  unfold judgeUnicast checkAuthority checkPreface
  dsimp only
  repeat' split
  · exact (LawsKept.refl _).requestKept
  · exact (LawsKept.refl _).requestKept
  · exact (counted _ _).requestKept
  · exact askOwner_requestKept _ hk _ h
  · exact (LawsKept.refl _).requestKept

theorem takeGroup_requestKept {handle : Handler} (row : Option Kind) (hk : HandlerLawful handle) (f : Frame)
    (h : s.startUp.phase = .complete) : RequestKept s (takeGroup row handle f s) := by
  have discarded : RequestKept s (modWli s fun w => { w with groupDiscards := bump w.groupDiscards }) :=
    (setWli_lawsKept s { s.wli with groupDiscards := bump s.wli.groupDiscards } id rfl).requestKept
  unfold takeGroup
  dsimp only
  repeat' split
  · exact discarded
  · exact askOwner_requestKept _ hk _ h
  · exact (LawsKept.refl s).requestKept
  · exact discarded

/-- A unicast frame is taken only while the outgoing list has room for its response (R175). -/
theorem respond_stepKept (f : Frame) {a : Answer} (h : RequestKept s a.next) (room : s.wli.outgoing.length < 2) :
    StepKept s (respond f a) where
  memory := h.memory
  bounds b := by
    have kept := h.bounds b
    refine ⟨kept.requests, ?_, kept.energised, kept.notices, kept.faults⟩
    change (a.next.wli.outgoing ++ [_]).length ≤ 2
    rw [List.length_append, h.responses]
    exact room
  clock := h.clock
  device hb := (h.device hb).trans (.of_same rfl .rfl rfl rfl rfl)

theorem takeFrame_stepKept {handle : Handler} (row : Option Kind) (hk : HandlerLawful handle) (f : Frame)
    (h : takable s f = true) : StepKept s (takeFrame row handle f s) := by
  have running (h : ¬startingUp s = true) : s.startUp.phase = .complete := by simpa [startingUp] using h
  have judged : RequestKept s (if startingUp s then refuse .starting s else judgeUnicast row handle f s).next := by
    split
    · exact (LawsKept.refl s).requestKept
    · next h => exact judgeUnicast_requestKept row hk f (running h)
  have shared : StepKept s (if startingUp s then s else takeGroup row handle f s) := by
    split
    · exact .refl s
    · next h => exact (takeGroup_requestKept row hk f (running h)).stepKept
  unfold takeFrame
  split
  · next unicast => exact respond_stepKept f judged (by simpa [takable, unicast] using h)
  · exact shared
  · exact shared

theorem takeRequest_stepKept {handle : Handler} (row : Option Kind) (hk : HandlerLawful handle) (s : State) :
    StepKept s (takeRequest row handle s) := by
  rcases takeRequest_cases row handle s with same | ⟨f, rest, queue, takes, taken⟩
  · rw [same]
    exact .refl s
  · have dequeued : LawsKept s (modWli s fun w => { w with queue := rest }) :=
      setWli_lawsKept s _ (fun h => Nat.le_of_succ_le (by rwa [queue] at h)) rfl
    rw [taken]
    exact .after dequeued (.of_mc rfl rfl) (takeFrame_stepKept row hk f takes)

/-! ## Start-up (R191) -/

/-- Start-up moves on within its phases. -/
theorem setPhase_lawsKept (phase : StartPhase) (before : s.startUp.phase ≠ .complete) (after : phase ≠ .complete) :
    LawsKept s (setPhase phase s) :=
  ⟨.of_blocks rfl rfl rfl rfl id (.of_eq rfl) id, .of_same rfl (iff_of_false after before) rfl rfl rfl⟩

theorem choose_lawsKept (p : Params) (defaulted : Bool) (s : State) : LawsKept s (choose p defaulted s) :=
  ⟨⟨id, fun h => ⟨h.requests, h.responses, h.energised, h.notices, h.faults⟩, id, rfl⟩, .of_same rfl .rfl rfl rfl rfl⟩

/-- Until start-up completes there is neither a release nor a level to form. -/
theorem JudgedKept.completed (s : State) : JudgedKept s (s.setStartUp { s.startUp with phase := .complete }) where
  ordered h := ⟨h.order, fun hc => absurd rfl hc⟩
  filled _ := id
  rests _ _ hc := absurd rfl hc
  judged _ := id

theorem applyMap_startUp (s : State) : (applyMap s).startUp = s.startUp := by
  obtain ⟨x, kept⟩ := applyMap_keeps s
  exact kept.startUp

theorem completeStartUp_lawsKept (h : s.startUp.phase ≠ .complete) : LawsKept s (completeStartUp s) := by
  have chosen : LawsKept s (modStore (s.setParams s.startUp.chosen) fun x => { x with activity := .idle }) :=
    (LawsKept.setParams s _).trans (.setStore _ _ id)
  have mapped : LawsKept s (applyMap (modStore (s.setParams s.startUp.chosen) fun x => { x with activity := .idle })) :=
    chosen.trans ⟨(applyMap_keeps _).formsKept, applyMap_deviceKept _⟩
  have enabled : DeviceKept s (enableSeats
      (applyMap (modStore (s.setParams s.startUp.chosen) fun x => { x with activity := .idle }))) :=
    .of_ordered fun order => mapped.toDeviceKept.trans
      (enableSeats_deviceKept ((mapped.ordered order).startUp (by rw [applyMap_startUp]; exact h)))
  have completed (t : State) : FormsKept t (t.setStartUp { t.startUp with phase := .complete }) :=
    .of_blocks rfl rfl rfl rfl id (.of_eq rfl) id
  exact ⟨mapped.toFormsKept.trans ((enableSeats_keeps _).formsKept.trans ((completed _).trans
      ((refreshPermit_keeps _).trans (formCeilings_keeps _)).formsKept)),
    enabled.trans ((JudgedKept.completed _).refreshed.trans (formCeilings_deviceKept _))⟩

theorem nextSection_lawsKept (read : Option TableId) (h : s.startUp.phase ≠ .complete) :
    LawsKept s (nextSection read s) := by
  unfold nextSection
  split
  · exact setPhase_lawsKept _ h nofun
  · exact completeStartUp_lawsKept h

theorem judgeSection_lawsKept (x : TableId) (s : State) : LawsKept s (judgeSection x s) := by
  unfold judgeSection
  dsimp only
  repeat' split
  · exact .setTables ..
  · exact .refl s
  · exact (LawsKept.setTables s _).trans (pairCheck_lawsKept _)
  · exact .refl s
  · exact .setTables ..
  · exact .refl s
  · exact .setTables ..
  · exact .refl s

/-! ## Events -/

theorem hardwareReset_stepKept (s : State) : StepKept s (hardwareReset s) where
  memory h := wf_tornMemory h ..
  bounds _ := ⟨Nat.zero_le 4, Nat.zero_le 2, Nat.zero_le 2, Nat.zero_le 16, Nat.zero_le 16⟩
  clock _ := reset_clockInRange
  device _ := .of_reset (.of_same rfl .rfl rfl rfl rfl)

theorem endActivity_lawsKept (success : Bool) (s : State) : LawsKept s (endActivity success s) := .setStore s _ id

theorem storeSucceeds_lawsKept (s : State) : LawsKept s (storeSucceeds s) := by
  have stored : LawsKept s (modStore s fun x => { x with memory := storeEffect x.memory x.activity }) :=
    .setStore s _ fun h => wf_storeEffect h _
  exact stored.trans (endActivity_lawsKept ..)

theorem storeFails_lawsKept (s : State) : LawsKept s (storeFails s) := by
  have lost : LawsKept s (modStore s fun x => { x with memory := storeLoss x.memory s.freeDraws x.activity }) :=
    .setStore s _ fun h => wf_storeLoss h ..
  exact lost.trans ((endActivity_lawsKept ..).trans (.setFreeDraws ..))

theorem saveSucceeds_lawsKept (copy : Image) (s : State) : LawsKept s (saveSucceeds copy s) := .setStore s _ id

theorem saveFails_lawsKept (copy : Image) (s : State) : LawsKept s (saveFails copy s) := by
  have cut : LawsKept s (modStore s fun x => { x with image := cutImage s.freeDraws x.image copy }) := .setStore s _ id
  exact cut.trans ((endActivity_lawsKept ..).trans (.setFreeDraws ..))

theorem endExchange_lawsKept (out : DriveRecord) (edges : Nat) (bytes : List Byte) (s : State) :
    LawsKept s (endExchange out edges bytes s) := by
  have ended : LawsKept s (modDli s Dli.ended) := .setDli ..
  unfold endExchange
  dsimp only
  split
  · exact ended.trans (.setDli ..)
  · exact .ite (ended.trans (.setDli ..)) (.ite (ended.trans (.setDli ..)) (ended.trans
      ((LawsKept.setDli ..).trans ((passOn_keeps ..).lawsKept (passOn_deviceKept ..)))))

theorem loseDriveLink_lawsKept (s : State) : LawsKept s (loseDriveLink s) := by
  have stopped (v : State) : Keeps v
      (if v.permit.stationary then stopStationary v else modPermit v fun u => { u with standstill := none }) :=
    .ite (stopStationary_keeps v) (.setPermit v _ rfl rfl rfl)
  have faulted (v : State) : Keeps v (if v.mc.mode.online then takeFault .driveLinkLost .none 0 v else v) :=
    .ite (takeFault_keeps ..) (.refl v)
  exact ⟨(LawsKept.setDli s { s.dli with live := false }).toFormsKept.trans ((stopped _).trans (faulted _)).formsKept,
    loseDriveLink_deviceKept s⟩

/-- A sample moves no filtered level, and start-up at most within its strap step. -/
theorem terminalSample_lawsKept (levels : BitVec 40) (s : State) :
    LawsKept s (countStrapSample (s.setTerminals (sampleTerminals s levels))) := by
  have sampled : LawsKept s (s.setTerminals (sampleTerminals s levels)) :=
    ⟨.of_blocks rfl rfl rfl rfl id (.of_eq rfl) id, setTerminals_deviceKept s _ rfl⟩
  unfold countStrapSample
  split
  · next n h => exact sampled.trans (setPhase_lawsKept _ (by rw [h]; exact nofun) nofun)
  all_goals exact sampled

theorem verified_lawsKept (i : Fin 8) (h : verifyDue s i = true) : LawsKept s
    (seatMoved i .locked (modRestraint s fun r => r.modSeat i fun x => { x with state := .verified })) := by
  obtain ⟨locked, -⟩ : seatState s i = .locked ∧ _ := by simpa [verifyDue] using h
  have verified : Keeps s (modRestraint s fun r => r.modSeat i fun x => { x with state := .verified }) :=
    .setRestraint s _ id
  have moved := modSeat_deviceKept (s := s) i (fun x => { x with state := .verified }) (by rw [locked]; exact nofun) nofun
  rw [locked] at moved
  exact (verified.trans (seatMoved_keeps ..)).lawsKept moved

theorem disagreed_lawsKept (i : Fin 8) (h : disagreementDue s i = true) : LawsKept s
    (seatMoved i (seatState s i) (modRestraint s fun r =>
      (r.modSeat i fun x => { x with state := .disagree }).latch i fun l => { l with enteredDisagree := true })) := by
  have entered : Keeps s (modRestraint s fun r =>
      (r.modSeat i fun x => { x with state := .disagree }).latch i fun l => { l with enteredDisagree := true }) :=
    .setRestraint s _ id
  have evaluated : (seatState s i).inEvaluation = true := by
    simp only [disagreementDue, Bool.and_eq_true] at h
    exact h.1.1.1
  exact (entered.trans (seatMoved_keeps ..)).lawsKept
    (latchedSeat_deviceKept i _ _ (SeatState.ne_releasing_of_inEvaluation evaluated) nofun)

theorem pulseEnded_lawsKept (i : Fin 8) (s : State) : LawsKept s
    (evalReady (seatMoved i (seatState s i) (fillEnergised (modRestraint s fun r =>
      ((r.leaveRelease i).modSeat i (Seat.enterEvaluation (picture s i))).latch i fun l =>
        { l with releaseFailed := true })))) := by
  have failed : Keeps s (modRestraint s fun r =>
      ((r.leaveRelease i).modSeat i (Seat.enterEvaluation (picture s i))).latch i fun l => { l with releaseFailed := true }) :=
    .setRestraint s _ (leaveRelease_length i _)
  exact (failed.trans ((fillEnergised_keeps _).trans ((seatMoved_keeps ..).trans (evalReady_keeps _)))).lawsKept
    (leftAndFilled_deviceKept i _ s)

theorem solenoidMismatch_lawsKept (n : Fin 40) (s : State) : LawsKept s (mismatchTaken n s) :=
  ⟨.of_blocks rfl rfl rfl rfl id (.of_eq rfl) id, setTerminals_deviceKept s _ rfl⟩

theorem sampleClock_lawsKept (s : State) : LawsKept s (sampleClock s) := by
  have played (t : State) (i : Fin 6) : LawsKept t (putVoice t i ((voiceAt s i).bind (Voice.afterSample s))) := .setSound ..
  have all (l : List (Fin 6)) (t : State) :
      LawsKept t (l.foldl (fun t i => putVoice t i ((voiceAt s i).bind (Voice.afterSample s))) t) := by
    induction l generalizing t with
    | nil => exact .refl t
    | cons i l ih => exact (played t i).trans (ih _)
  have handed (t : State) (g : Fin 3) (code : Nat) : LawsKept t (handCode t g code) := .setDensity ..
  unfold sampleClock
  exact (all _ _).trans ((LawsKept.setSound ..).trans ((handed ..).trans (handed ..)))

theorem advanceScene_lawsKept (s : State) : LawsKept s (advanceScene s) :=
  (advanceScene_only s).lawsKept (advanceScene_notices s)

theorem setChannels_lawsKept (s : State) (x : Vector Channel 12) :
    LawsKept s (modCues s fun e => { e with channels := x }) := (OnlyShow.setCues s _).lawsKept (.of_eq rfl)

/-- One local millisecond moves the timers of the seats alone (R65, R66, R77). -/
theorem tick_lawsKept (s : State) : LawsKept s (tick s) := by
  have timed : DeviceKept s (s.setRestraint (tickRestraint s)) := .setSeats s _ rfl rfl fun i => by
    have seat : (tickRestraint s).seats[i] =
        tickSeat (picture s i) (s.restraint.energised.contains i) s.restraint.seats[i] := Vector.getElem_ofFn ..
    rw [seat]
    rfl
  have counted : LawsKept s (countMillisecond s) :=
    ⟨.of_blocks rfl rfl rfl rfl id (.of_eq rfl) id, timed.trans (.of_same rfl .rfl rfl rfl rfl)⟩
  exact counted.trans (advanceScene_lawsKept _)

end Sys2Proof.Machine
end

section
/-! PROOF. O57 and O60, every command: the table of the requests and events. -/

namespace Sys2Proof.Machine

variable {s t : State}

/-- The outcome, where it is a state, keeps what every step keeps. -/
def OutcomeLawful (s : State) (o : Host.Outcome State Fault Refusal) : Prop := ∀ t, o = .next t → StepKept s t

theorem OutcomeLawful.next (h : StepKept s t) : OutcomeLawful s (.next t) := fun u hu => by
  cases hu
  exact h

theorem requestRow_lawful {k : Kind} {handle : Handler} (hk : HandlerLawful handle) (s : State) :
    OutcomeLawful s (requestRow k handle s) := .next (takeRequest_stepKept (some k) hk s)

/-- A handler that keeps the laws of any state. -/
theorem HandlerLawful.of_laws {handle : Handler} (h : ∀ args s, LawsKept s (handle args s).next) : HandlerLawful handle :=
  fun args s _ => (h args s).requestKept

theorem handleRelease_lawful : HandlerLawful handleRelease := fun args s running =>
  ⟨handleRelease_formsKept args s, handleRelease_deviceKept args running⟩

/-- Every kind's handler. -/
theorem exec_command_lawful (k : Kind) (s : State) : OutcomeLawful s (exec k.command s) := by
  cases k with
  | status => exact requestRow_lawful (.of_laws handleStatus_lawsKept) s
  | goOnline => exact requestRow_lawful (.of_laws handleGoOnline_lawsKept) s
  | goOffline => exact requestRow_lawful (.of_laws handleGoOffline_lawsKept) s
  | dispatch => exact requestRow_lawful (.of_laws handleDispatch_lawsKept) s
  | hold => exact requestRow_lawful (.of_laws handleHold_lawsKept) s
  | resume => exact requestRow_lawful (.of_laws handleResume_lawsKept) s
  | advance => exact requestRow_lawful (.of_laws handleAdvance_lawsKept) s
  | stopNow => exact requestRow_lawful (.of_laws handleStopNow_lawsKept) s
  | recover => exact requestRow_lawful (.of_laws handleRecover_lawsKept) s
  | release => exact requestRow_lawful handleRelease_lawful s
  | bypass => exact requestRow_lawful (.of_laws handleBypass_lawsKept) s
  | restore => exact requestRow_lawful (.of_laws handleRestore_lawsKept) s
  | clearSeatEvents => exact requestRow_lawful (.of_laws handleClearSeatEvents_lawsKept) s
  | setSpeedLimit => exact requestRow_lawful (.of_laws handleSetSpeedLimit_lawsKept) s
  | announce => exact requestRow_lawful (.of_laws handleAnnounce_lawsKept) s
  | readFaultLog => exact requestRow_lawful (.of_laws handleReadFaultLog_lawsKept) s
  | setParam => exact requestRow_lawful (.of_laws handleSetParam_lawsKept) s
  | getParam => exact requestRow_lawful (.of_laws handleGetParam_lawsKept) s
  | save => exact requestRow_lawful (.of_laws handleSave_lawsKept) s
  | restart => exact requestRow_lawful (.of_laws handleRestart_lawsKept) s
  | preface => exact requestRow_lawful (.of_laws handlePreface_lawsKept) s
  | tableBegin => exact requestRow_lawful (.of_laws handleTableBegin_lawsKept) s
  | tableEntry => exact requestRow_lawful (.of_laws handleTableEntry_lawsKept) s
  | tableEnd => exact requestRow_lawful (.of_laws handleTableEnd_lawsKept) s
  | showStatus => exact requestRow_lawful (.of_laws handleShowStatus_lawsKept) s
  | notices => exact requestRow_lawful (.of_laws handleNotices_lawsKept) s
  | storeWrite => exact requestRow_lawful (.of_laws handleStoreWrite_lawsKept) s
  | storeErase => exact requestRow_lawful (.of_laws handleStoreErase_lawsKept) s
  | storeRead => exact requestRow_lawful (.of_laws handleStoreRead_lawsKept) s
  | sync => exact requestRow_lawful (.of_laws (handleSync_lawsKept (headCapture s))) s
  | voiceStart => exact requestRow_lawful (.of_laws handleVoiceStart_lawsKept) s
  | voiceStop => exact requestRow_lawful (.of_laws handleVoiceStop_lawsKept) s
  | voiceGain => exact requestRow_lawful (.of_laws handleVoiceGain_lawsKept) s
  | masterVolume => exact requestRow_lawful (.of_laws handleMasterVolume_lawsKept) s

theorem execStrapRead_lawful (s : State) : OutcomeLawful s (execStrapRead s) := by
  refine .next ?_
  split
  · next due =>
    have starting : s.startUp.phase ≠ .complete := fun h => by simp [strapDue, h] at due
    have chosen := (choose_lawsKept Params.defaults true s).trans (completeStartUp_lawsKept starting)
    have moved : LawsKept s (setPhase .config s) := setPhase_lawsKept .config starting nofun
    exact .ite chosen.stepKept moved.stepKept
  · exact .refl s

theorem execSectionRead_lawful (readable : Bool) (s : State) : OutcomeLawful s (execSectionRead readable s) := by
  refine .next ?_
  split
  · next h => exact ((choose_lawsKept _ _ s).trans (nextSection_lawsKept none (by simp [choose, h]))).stepKept
  · next x h =>
    have judged : LawsKept s (if readable then judgeSection x s else s) := .whenDue (judgeSection_lawsKept x s)
    refine (judged.trans (nextSection_lawsKept _ ?_)).stepKept
    split
    · rw [judgeSection_startUp, h]
      exact nofun
    · rw [h]
      exact nofun
  · exact .refl s
  · exact .refl s

theorem execFramingError_lawful (s : State) : OutcomeLawful s (execFramingError s) := by
  refine .next (.ite (.refl s) (ListsKept.stepKept ?_))
  dsimp only
  split
  · have broken := breakFrame_lists { s.wli with quiet := 0 }
    exact ⟨broken.queue, broken.outgoing⟩
  all_goals exact ⟨id, rfl⟩

theorem execAddressCharacter_lawful (value : Byte) (periods : Nat) (s : State) :
    OutcomeLawful s (execAddressCharacter value periods s) := by
  refine .next (.ite (.refl s) (ListsKept.stepKept ?_))
  dsimp only
  repeat' split
  all_goals exact ⟨id, rfl⟩

theorem execDataCharacter_lawful (value : Byte) (s : State) : OutcomeLawful s (execDataCharacter value s) := by
  refine .next (.ite (.refl s) (ListsKept.stepKept ?_))
  dsimp only
  split
  · next f _ _ =>
    have appended := append_lists { s.wli with quiet := 0 } f value
    exact ⟨appended.queue, appended.outgoing⟩
  all_goals exact ⟨id, rfl⟩

/-- A response sent leaves the list (R176). -/
theorem execResponseSent_lawful (s : State) : OutcomeLawful s (execResponseSent s) := by
  refine .next (.whenDue (setWli_stepKept s _ id fun h => ?_))
  rw [List.length_drop]
  exact (Nat.sub_le ..).trans h

theorem execExchangeStart_lawful (s : State) : OutcomeLawful s (execExchangeStart s) := by
  refine .next ?_
  split
  · exact (LawsKept.setDli ..).stepKept
  · exact .refl s

theorem execDriveExchange_lawful (edges : Nat) (bytes : List Byte) (s : State) :
    OutcomeLawful s (execDriveExchange edges bytes s) := by
  refine .next ?_
  split
  · exact .refl s
  · exact (endExchange_lawsKept ..).stepKept

theorem execSaveComplete_lawful (success : Bool) (s : State) : OutcomeLawful s (execSaveComplete success s) := by
  refine .next ?_
  split
  · exact (LawsKept.ite (saveSucceeds_lawsKept ..) (saveFails_lawsKept ..)).stepKept
  all_goals exact .refl s

theorem execSaveTimeout_lawful (s : State) : OutcomeLawful s (execSaveTimeout s) := by
  refine .next ?_
  split
  · exact .whenDue (saveFails_lawsKept ..).stepKept
  all_goals exact .refl s

theorem execVerifyTimeReached_lawful (i : Fin 8) (s : State) : OutcomeLawful s (execVerifyTimeReached i s) := by
  refine .next ?_
  split
  · next due => exact (verified_lawsKept i due).stepKept
  · exact .refl s

theorem execDisagreementTimeReached_lawful (i : Fin 8) (s : State) :
    OutcomeLawful s (execDisagreementTimeReached i s) := by
  refine .next ?_
  split
  · next due => exact (disagreed_lawsKept i due).stepKept
  · exact .refl s

theorem execSolenoidMismatch_lawful (n : Fin 40) (s : State) : OutcomeLawful s (execSolenoidMismatch n s) := by
  have taken := solenoidMismatch_lawsKept n s
  refine .next (.whenDue ?_)
  split
  · exact (taken.trans ((solenoidReport_keeps ..).lawsKept (solenoidReport_deviceKept ..))).stepKept
  all_goals exact taken.stepKept

theorem execSampleClock_lawful (s : State) : OutcomeLawful s (execSampleClock s) := by
  unfold execSampleClock
  split
  · exact fun _ => nofun
  · exact .next (sampleClock_lawsKept s).stepKept

/-- Every command that does not stop the model. -/
theorem exec_lawful (c : Instr) (s : State) : OutcomeLawful s (exec c s) := by
  cases c with
  | hardwareReset => exact .next (hardwareReset_stepKept s)
  | strapRead => exact execStrapRead_lawful s
  | sectionRead readable => exact execSectionRead_lawful readable s
  | framingError => exact execFramingError_lawful s
  | addressCharacter value periods => exact execAddressCharacter_lawful value periods s
  | dataCharacter value => exact execDataCharacter_lawful value s
  | frameTimeout quiet => exact .next (.whenDue (breakFrame_lists _).stepKept)
  | responseStart quiet => exact .next (.whenDue (setWli_stepKept s _ id id))
  | responseSent => exact execResponseSent_lawful s
  | linkRateApply => exact .next (.whenDue (setWli_stepKept s _ id id))
  | storeComplete success =>
    exact .next (.whenDue (LawsKept.ite (storeSucceeds_lawsKept s) (storeFails_lawsKept s)).stepKept)
  | storeTimeout => exact .next (.whenDue (storeFails_lawsKept s).stepKept)
  | saveComplete success => exact execSaveComplete_lawful success s
  | saveTimeout => exact execSaveTimeout_lawful s
  | prefaceLapse source => exact .next (.whenDue (setSlot_lawsKept s source none).stepKept)
  | exchangeStart => exact execExchangeStart_lawful s
  | driveExchange edges bytes => exact execDriveExchange_lawful edges bytes s
  | stationary => exact .next (.whenDue ((becomeStationary_keeps s).lawsKept (becomeStationary_deviceKept s)).stepKept)
  | driveTimeout => exact .next (.whenDue (loseDriveLink_lawsKept s).stepKept)
  | rcLinkLost => exact .next ((rcCheck_keeps s).lawsKept (rcCheck_deviceKept s)).stepKept
  | terminalSample levels => exact .next (terminalSample_lawsKept levels s).stepKept
  | filteredChange input =>
    exact .next (.whenDue (LawsKept.stepKept ⟨(changeInput_keeps ..).formsKept, changeInput_deviceKept ..⟩))
  | verifyTimeReached seat => exact execVerifyTimeReached_lawful seat s
  | disagreementTimeReached seat => exact execDisagreementTimeReached_lawful seat s
  | pulseTimeout seat => exact .next (.whenDue (pulseEnded_lawsKept seat s).stepKept)
  | solenoidMismatch terminal => exact execSolenoidMismatch_lawful terminal s
  | ampNotReady => exact .next (.whenDue ((takeFault_keeps ..).lawsKept (takeFault_deviceKept ..)).stepKept)
  | showClockAdvance => exact .next (LawsKept.setClock s _ advance_inRange).stepKept
  | syncAgeExpiry =>
    exact .next (.whenDue (LawsKept.setClock s s.clock.expire expire_inRange).stepKept)
  | sceneCueDue => exact .next (.whenDue (advanceScene_lawsKept s).stepKept)
  | effectPulseEnd channel => exact .next (.whenDue (setChannels_lawsKept ..).stepKept)
  | voiceJoin voice => exact .next (.whenDue (LawsKept.setSound ..).stepKept)
  | gainRampTick => exact .next (LawsKept.setSound s _).stepKept
  | fadeEnd voice => exact .next (.whenDue (LawsKept.setSound ..).stepKept)
  | sampleClock => exact execSampleClock_lawful s
  | generatorClock generator => exact .next (.whenDue (LawsKept.setDensity ..).stepKept)
  | unknownKind => exact .next (takeRequest_stepKept none (.of_laws fun _ u => .refl u) s)
  | status => exact exec_command_lawful .status s
  | goOnline => exact exec_command_lawful .goOnline s
  | goOffline => exact exec_command_lawful .goOffline s
  | dispatch => exact exec_command_lawful .dispatch s
  | hold => exact exec_command_lawful .hold s
  | resume => exact exec_command_lawful .resume s
  | advance => exact exec_command_lawful .advance s
  | stopNow => exact exec_command_lawful .stopNow s
  | recover => exact exec_command_lawful .recover s
  | release => exact exec_command_lawful .release s
  | bypass => exact exec_command_lawful .bypass s
  | restore => exact exec_command_lawful .restore s
  | clearSeatEvents => exact exec_command_lawful .clearSeatEvents s
  | setSpeedLimit => exact exec_command_lawful .setSpeedLimit s
  | announce => exact exec_command_lawful .announce s
  | readFaultLog => exact exec_command_lawful .readFaultLog s
  | setParam => exact exec_command_lawful .setParam s
  | getParam => exact exec_command_lawful .getParam s
  | save => exact exec_command_lawful .save s
  | restart => exact exec_command_lawful .restart s
  | preface => exact exec_command_lawful .preface s
  | tableBegin => exact exec_command_lawful .tableBegin s
  | tableEntry => exact exec_command_lawful .tableEntry s
  | tableEnd => exact exec_command_lawful .tableEnd s
  | showStatus => exact exec_command_lawful .showStatus s
  | notices => exact exec_command_lawful .notices s
  | storeWrite => exact exec_command_lawful .storeWrite s
  | storeErase => exact exec_command_lawful .storeErase s
  | storeRead => exact exec_command_lawful .storeRead s
  | sync => exact exec_command_lawful .sync s
  | voiceStart => exact exec_command_lawful .voiceStart s
  | voiceStop => exact exec_command_lawful .voiceStop s
  | voiceGain => exact exec_command_lawful .voiceGain s
  | masterVolume => exact exec_command_lawful .masterVolume s

theorem step_lawful (s : State) : OutcomeLawful s (step s) := by
  unfold step
  split
  · next c rest _ =>
    have waits : LawsKept s (s.setPending rest) :=
      .aside (.of_blocks rfl rfl rfl rfl id (.of_eq rfl) id) rfl rfl rfl rfl rfl rfl
    exact fun t ht => .after waits (.of_mc rfl rfl) (exec_lawful c _ t ht)
  · split
    · exact exec_lawful _ s
    · exact .next (tick_lawsKept s).stepKept

/-- Settles O57: every command, the event that is due and a local millisecond keep the forms and the bounds. -/
theorem stepsKeepFormsAndBounds : Obligations.StepsKeepFormsAndBounds := fun s t h =>
  have kept := step_lawful s t h
  ⟨kept.memory, kept.bounds, kept.clock⟩

/-! ## RUN (R155) -/

/-- RUN is the level of an online mode other than HALT, with every seat ready and the position confirmed. -/
theorem LevelHeld.runAllowed (h : LevelHeld s) (halt : HaltRecorded s) (run : s.permit.level = .run) : RunAllowed s := by
  have complete : s.startUp.phase = .complete := by
    by_contra starting
    exact absurd ((h.startUp starting).symm.trans run) nofun
  have formed := h.formed complete
  rw [run] at formed
  obtain ⟨notHalt, stop⟩ : s.mc.mode ≠ .halt ∧ s.terminals.filtered[(25 : Fin 27)] = false := by
    by_contra none
    refine absurd (formed.emergency ?_) nofun
    by_contra calm
    obtain ⟨notHalt, stop⟩ := not_or.1 calm
    exact none ⟨notHalt, Bool.eq_false_iff.2 stop⟩
  obtain ⟨goes, ready⟩ := not_or.1 fun stops => absurd (formed.stop notHalt stop stops) nofun
  have ready := not_not.1 ready
  refine ⟨ready, ?_, ?_⟩
  · by_contra unconfirmed
    have unsync : s.tracker.position = .unsync := by
      cases position : s.tracker.position with
      | unsync => rfl
      | sync => exact absurd position unconfirmed
    exact absurd (formed.creep notHalt stop goes ready (.inl unsync)) nofun
  · by_contra active
    exact notHalt (halt.active.2 active)

/-- Settles O60: the release and the level are kept together, and the level is RUN only where its terms let it. -/
theorem stepsKeepReleaseHeld : Obligations.StepsKeepReleaseHeld := by
  intro s t h held berth
  obtain ⟨order, filled, judged⟩ := releaseHeld_iff.1 held
  have kept := (step_lawful s t h).device berth
  exact ⟨releaseHeld_iff.2 ⟨kept.ordered order, kept.filled order filled, kept.judged order judged⟩, kept.level order,
    fun level halt => (kept.level order level).runAllowed ((step_kept s t h).halt halt)⟩

end Sys2Proof.Machine
end

section
/-! SUPPORT. LOAD and READY while seats move (R7, R67): the vehicle goes on boarding, with RC heard, and judges the READY
conditions at each change of a seat. -/

namespace Sys2Proof.Machine

variable {s t : State} {i : Fin 8} {old : SeatState}

theorem RcHeard.calm (h : RcHeard s) : ¬(s.wli.rcTimeout < s.wli.rcSilence ∧ s.wli.rcReported = false) := by
  rintro ⟨silent, unreported⟩
  rcases h with heard | reported
  · omega
  · rw [unreported] at reported
    exact absurd reported nofun

/-- The vehicle is in LOAD or READY, and RC is heard. -/
structure Boarding (s : State) : Prop where
  mode : s.mc.mode = .load ∨ s.mc.mode = .ready
  heard : RcHeard s

theorem Boarding.online (h : Boarding s) : s.mc.mode ≠ .offline := by
  rcases h.mode with mode | mode <;> rw [mode] <;> exact nofun

theorem Boarding.of_blocks (h : Boarding s) (hm : t.mc = s.mc) (hw : t.wli = s.wli) : Boarding t :=
  ⟨by rw [hm]; exact h.mode, by rw [RcHeard, hw]; exact h.heard⟩

theorem Boarding.refreshed (h : Boarding s) : Boarding (refreshPermit s) :=
  h.of_blocks (refreshPermit_mc s) (refreshPermit_wli ..)

/-- With RC heard the evaluation finds no fault to report. -/
theorem evalReady_wli (h : RcHeard s) : (evalReady s).wli = s.wli := by
  have changed (new : Mode) (hn : new ≠ .offline) : (changeMode new .none s).wli = s.wli := by
    rw [changeMode_calm hn h.calm, enterMode_reported _ _ _ hn]
  unfold evalReady
  split
  · split
    · exact changed _ nofun
    · rfl
  · split
    · rfl
    · exact changed _ nofun
  all_goals rfl

theorem Boarding.decided (h : Boarding s) : ReadyDecided (evalReady s) := evalReady_decided h.mode h.heard

theorem Boarding.judged (h : Boarding s) : Boarding (evalReady s) where
  mode := by
    by_cases met : ReadyMet (evalReady s)
    · exact .inr (h.decided.ready met)
    · exact .inl (h.decided.load met)
  heard := by
    rw [RcHeard, evalReady_wli h.heard]
    exact h.heard

/-- In LOAD and READY no change of a seat is a fault (R82). -/
theorem Boarding.seatMoved_eq (h : Boarding s) (moved : seatState s i ≠ old) :
    seatMoved i old s = evalReady (refreshPermit s) := seatMoved_judged moved (opensRestraint_boarding h.mode)

theorem Boarding.moved (h : Boarding s) : Boarding (seatMoved i old s) := by
  by_cases same : seatState s i = old
  · have stays : seatMoved i old s = s := if_pos same
    rwa [stays]
  · rw [h.seatMoved_eq same]
    exact h.refreshed.judged

end Sys2Proof.Machine
end

section
/-! PROOF. O26: VERIFY_TIME_REACHED, DISAGREEMENT_TIME_REACHED and PULSE_TIMEOUT (R65, R66, R77). -/

namespace Sys2Proof.Machine

variable {s u : State} {i : Fin 8} {old : SeatState}

/-! ## A seat that reports a change of its own -/

theorem ReleaseHeld.outside (h : ReleaseHeld s) (hn : seatState s i ≠ .releasing) :
    i ∉ s.restraint.queue ∧ i ∉ s.restraint.energised := not_or.1 fun pending => hn ((h.releasing i).1 pending)

/-- What a report leaves of a seat outside a release, and of the blocks that seats do not reach. -/
structure SeatReported (i : Fin 8) (s t : State) (x : Restraint) : Prop where
  ground : SameGround s t
  tracker : t.tracker = s.tracker
  seat : t.restraint.seats[i] = x.seats[i]
  summary : x.summary = true → t.restraint.summary = true

/-- The seat has a new record, in which it is outside a release. -/
theorem seatMoved_reported (i : Fin 8) (old : SeatState) (x : Restraint) (hq : i ∉ x.queue) (he : i ∉ x.energised) :
    SeatReported i s (seatMoved i old (s.setRestraint x)) x := by
  have spares := seatMoved_spares i i old (s.setRestraint x)
  have set : SameGround s (s.setRestraint x) := ⟨rfl, rfl, rfl, rfl, rfl, rfl, rfl, rfl, rfl, rfl⟩
  exact ⟨set.trans (seatMoved_keeps ..).toSameGround, seatMoved_tracker .., (spares.seat hq he).1, spares.summary⟩

/-! ## VERIFY_TIME_REACHED (R65) -/

theorem execVerifyTimeReached_due (locked : seatState s i = .locked)
    (due : s.params.verifyTime ≤ (s.restraint.seats[i]).verifyElapsed) :
    exec (.verifyTimeReached i) s =
      .next (seatMoved i .locked (modRestraint s fun r => r.modSeat i fun x => { x with state := .verified })) :=
  congrArg Host.Outcome.next (if_pos (by simpa [verifyDue, locked] using due))

theorem execVerifyTimeReached_idle
    (h : seatState s i ≠ .locked ∨ (s.restraint.seats[i]).verifyElapsed < s.params.verifyTime) :
    exec (.verifyTimeReached i) s = .next s := by
  refine congrArg Host.Outcome.next (if_neg ?_)
  simp only [verifyDue, Bool.and_eq_true, beq_iff_eq, decide_eq_true_eq]
  rintro ⟨locked, due⟩
  rcases h with h | early
  · exact h locked
  · omega

/-! ## DISAGREEMENT_TIME_REACHED (R66) -/

theorem execDisagreementTimeReached_due (evaluated : (seatState s i).inEvaluation = true)
    (agrees : seatState s i ≠ .disagree) (conflict : (picture s i).conflict = true)
    (due : s.params.disagreementTime ≤ (s.restraint.seats[i]).disagreeElapsed) :
    exec (.disagreementTimeReached i) s = .next (seatMoved i (seatState s i) (modRestraint s fun r =>
      (r.modSeat i fun x => { x with state := .disagree }).latch i fun l => { l with enteredDisagree := true })) :=
  congrArg Host.Outcome.next (if_pos (by simpa [disagreementDue, evaluated, agrees, conflict] using due))

theorem execDisagreementTimeReached_idle (h : seatState s i = .disagree ∨ (seatState s i).inEvaluation = false ∨
    (picture s i).conflict = false ∨ (s.restraint.seats[i]).disagreeElapsed < s.params.disagreementTime) :
    exec (.disagreementTimeReached i) s = .next s := by
  refine congrArg Host.Outcome.next (if_neg ?_)
  simp only [disagreementDue, Bool.and_eq_true, bne_iff_ne, decide_eq_true_eq]
  rintro ⟨⟨⟨evaluated, agrees⟩, conflict⟩, due⟩
  rcases h with h | h | h | early
  · exact agrees h
  · exact absurd (evaluated.symm.trans h) nofun
  · exact absurd (conflict.symm.trans h) nofun
  · omega

/-! ## PULSE_TIMEOUT (R77) -/

/-- A seat whose pulse has failed, out of the queue and the energised set, before the place it leaves is filled. -/
def Restraint.pulseFailed (i : Fin 8) (p : Picture) (r : Restraint) : Restraint :=
  ((r.leaveRelease i).modSeat i (Seat.enterEvaluation p)).latch i fun l => { l with releaseFailed := true }

theorem pulseFailed_seat (i : Fin 8) (p : Picture) (r : Restraint) : (r.pulseFailed i p).seats[i] =
    { r.seats[i] with
      state := p.seatState, verifyElapsed := 0, disagreeElapsed := 0, pulseElapsed := 0
      latches := { (r.seats[i]).latches with releaseFailed := true } } := by
  rw [Restraint.pulseFailed, latch_seat, modSeat_seat, Restraint.leaveRelease]
  simp only [modSeat_seat]
  rfl

/-- The state once the place is filled. -/
def pulseFilled (i : Fin 8) (s : State) : State :=
  s.setRestraint ((s.restraint.pulseFailed i (picture s i)).fill s.params.releasePulseTime)

theorem execPulseTimeout_due (energised : i ∈ s.restraint.energised)
    (due : (s.restraint.seats[i]).pulseTime ≤ (s.restraint.seats[i]).pulseElapsed) :
    exec (.pulseTimeout i) s = .next (evalReady (seatMoved i (seatState s i) (pulseFilled i s))) :=
  congrArg Host.Outcome.next (if_pos (by simpa [pulseDue, energised] using due))

theorem execPulseTimeout_idle (h : i ∉ s.restraint.energised ∨
    (s.restraint.seats[i]).pulseElapsed < (s.restraint.seats[i]).pulseTime) : exec (.pulseTimeout i) s = .next s := by
  refine congrArg Host.Outcome.next (if_neg ?_)
  simp only [pulseDue, Bool.and_eq_true, List.contains_iff_mem, decide_eq_true_eq]
  rintro ⟨energised, due⟩
  rcases h with h | early
  · exact h energised
  · omega

/-- The seat is outside the release from then on. -/
theorem pulseFilled_spares (i : Fin 8) (s : State) :
    SparesSeat i (s.restraint.pulseFailed i (picture s i)) (evalReady (seatMoved i old (pulseFilled i s))).restraint :=
  (fill_spares ..).trans ((seatMoved_spares i i old (pulseFilled i s)).trans (evalReady_spares ..))

theorem pulseFilled_state (i : Fin 8) (s : State) : seatState (pulseFilled i s) i = (picture s i).seatState := by
  have seat := pulseFailed_seat i (picture s i) s.restraint
  rw [seatState, pulseFilled, State.setRestraint_restraint, fill_state, seat]

/-- The head of the queue takes the place that the seat leaves (R74). -/
theorem pulseFilled_filled (held : ReleaseHeld s) (energised : i ∈ s.restraint.energised) :
    ReleaseFilled s.restraint.queue (s.restraint.energised.filter fun j => j != i) s.params.releasePulseTime
      (pulseFilled i s).restraint := by
  have others : s.restraint.queue.filter (· != i) = s.restraint.queue := List.filter_eq_self.2 fun j queued => by
    have apart : j ≠ i := fun e => List.disjoint_of_nodup_append held.distinct queued (e ▸ energised)
    simpa using apart
  have left : (s.restraint.queue.filter (· != i) ++ s.restraint.energised.filter (· != i)).Nodup := by
    rw [← List.filter_append]
    exact held.distinct.filter _
  have filled := fill_filled s.params.releasePulseTime (s.restraint.pulseFailed i (picture s i)) left
    ((List.length_filter_le ..).trans held.budget)
  rw [← others]
  exact filled

/-- A seat that leaves its release without readiness has the READY conditions judged to the same end twice. -/
theorem unreadySeat_judged (moved : seatState u i ≠ .releasing) (unready : (seatState u i).ready = false) :
    evalReady (seatMoved i .releasing u) = evalReady (refreshPermit u) := by
  have seats : ¬RestReady (refreshPermit u) := fun ready => by
    have := (restReady_of_refreshPermit ready).1 i
    rcases this with h | h | h <;> rw [h] at unready <;> exact absurd unready nofun
  rw [seatMoved_judged moved (by simp [opensRestraint]), evalReady_again seats]

theorem pulseFilled_released (held : ReleaseHeld s) (energised : i ∈ s.restraint.energised) :
    (evalReady (seatMoved i (seatState s i) (pulseFilled i s))).restraint = (pulseFilled i s).restraint := by
  have releasing : seatState s i = .releasing := (held.releasing i).1 (.inr energised)
  obtain ⟨complete, allowed⟩ := held.of_releasing releasing
  obtain ⟨unready, left⟩ := Picture.seatState_unready (picture s i)
  rw [← pulseFilled_state i s] at unready left
  have only : OnlySeats s (pulseFilled i s) := rfl
  have stands : ReleaseStands (pulseFilled i s) := by
    refine ⟨only.allowed allowed, fun ready => ?_⟩
    rcases ready i with h | h | h <;> rw [h] at unready <;> exact absurd unready nofun
  obtain ⟨goes, stands⟩ := refreshPermit_stands stands
  rw [releasing, unreadySeat_judged left unready, evalReady_stands (by rwa [refreshPermit_startUp]) stands, goes]

theorem pulseFilled_keeps (i : Fin 8) (s : State) : Keeps s (pulseFilled i s) :=
  .setRestraint s _ fun h => fill_length _ _ (leaveRelease_length i _ h)

/-- Settles O26: each timer reached, and not reached. -/
theorem seatTimersExpire : Obligations.SeatTimersExpire := by
  refine ⟨fun i s held locked due => ?_, fun i s => execVerifyTimeReached_idle,
    fun i s held evaluated agrees conflict due => ?_, fun i s => execDisagreementTimeReached_idle,
    fun i s energised due => ?_, fun i s => execPulseTimeout_idle⟩
  · obtain ⟨notQueued, notEnergised⟩ := held.outside (i := i) (by rw [locked]; exact nofun)
    have reported := seatMoved_reported (s := s) i .locked
      (s.restraint.modSeat i fun x => { x with state := .verified }) notQueued notEnergised
    have seat : seatState (modRestraint s fun r => r.modSeat i fun x => { x with state := .verified }) i = .verified :=
      congrArg Seat.state (modSeat_seat s.restraint i fun x => { x with state := .verified })
    exact ⟨_, execVerifyTimeReached_due locked due, reported.ground, reported.tracker,
      OnlySeats.decided rfl (by rw [seat]; exact nofun), reported.seat.trans (modSeat_seat ..)⟩
  · obtain ⟨notQueued, notEnergised⟩ := held.outside (SeatState.ne_releasing_of_inEvaluation evaluated)
    have reported := seatMoved_reported (s := s) i (seatState s i)
      ((s.restraint.modSeat i fun x => { x with state := .disagree }).latch i fun l => { l with enteredDisagree := true })
      notQueued notEnergised
    have record := latch_seat (s.restraint.modSeat i fun x => { x with state := .disagree }) i
      fun l => { l with enteredDisagree := true }
    rw [modSeat_seat] at record
    have seat : seatState (modRestraint s fun r => (r.modSeat i fun x => { x with state := .disagree }).latch i
        fun l => { l with enteredDisagree := true }) i = .disagree := congrArg Seat.state record
    exact ⟨_, execDisagreementTimeReached_due evaluated agrees conflict due, reported.ground, reported.tracker,
      OnlySeats.decided rfl (by rw [seat]; exact agrees.symm), reported.summary rfl, reported.seat.trans record⟩
  · have spares := pulseFilled_spares (old := seatState s i) i s
    have left (l : List (Fin 8)) : i ∉ l.filter (· != i) := by simp
    obtain ⟨seat, notQueued, notEnergised⟩ := spares.seat (left s.restraint.queue) (left s.restraint.energised)
    have kept := (pulseFilled_keeps i s).trans ((seatMoved_keeps i (seatState s i) _).trans (evalReady_keeps _))
    refine ⟨_, execPulseTimeout_due energised due, kept.toSameGround, ?_, spares.summary rfl, notEnergised, notQueued,
      fun mode heard => ?_, fun held => ?_, seat.trans (pulseFailed_seat ..)⟩
    · rw [evalReady_tracker, seatMoved_tracker]
      rfl
    · have boards : Boarding (pulseFilled i s) := ⟨mode, heard⟩
      exact boards.moved.decided
    · rw [pulseFilled_released held energised]
      exact pulseFilled_filled held energised

end Sys2Proof.Machine
end

section
/-! PROOF. O53: STATIONARY, DRIVE_TIMEOUT and RC_LINK_LOST (R162, R184, R177), and overspeed supervision (R161). -/

namespace Sys2Proof.Machine

variable {s t : State} {began : Nat}

/-! ## STATIONARY (R162) -/

theorem stationaryDue_of (moving : s.permit.stationary = false) (run : s.permit.standstill = some began)
    (due : began + 500 ≤ s.localMs) : stationaryDue s = true := by simp [stationaryDue, moving, run, due]

theorem stationaryDue_rests (h : s.permit.stationary = true ∨ s.permit.standstill = none ∨
    ∃ began, s.permit.standstill = some began ∧ s.localMs < began + 500) : stationaryDue s = false := by
  rcases h with stationary | none | ⟨began, run, early⟩
  · simp [stationaryDue, stationary]
  · simp [stationaryDue, none]
  · simp [stationaryDue, run, early]

/-- The vehicle at rest, before berthing and READY are judged. -/
def rested (s : State) : State := judgeRelease (modPermit s fun u => { u with stationary := true })

theorem becomeStationary_eq (s : State) : becomeStationary s = evalReady (evalBerth (rested s)) := rfl

theorem rested_mc (s : State) : (rested s).mc = s.mc := by rw [rested, judgeRelease_mc]; rfl

theorem rested_tracker (s : State) : (rested s).tracker = s.tracker := by rw [rested, judgeRelease_tracker]; rfl

theorem rested_permit (s : State) : (rested s).permit = { s.permit with stationary := true } := by
  rw [rested, judgeRelease_permit]
  rfl

theorem becomeStationary_tracker (s : State) : (becomeStationary s).tracker = s.tracker :=
  (evalReady_tracker _).trans ((evalBerth_tracker _).trans (rested_tracker s))

theorem becomeStationary_items (s : State) : ItemsKept (rested s) (becomeStationary s) :=
  (evalBerth_items _).trans (evalReady_items _)

/-- In LOAD and READY there is no berth to reach, and the READY conditions are judged (R7). -/
theorem becomeStationary_decided (h : Boarding s) : ReadyDecided (becomeStationary s) := by
  have boards : Boarding (rested s) := h.of_blocks (rested_mc s) (judgeRelease_wli ..)
  have unmet : ¬BerthMet (rested s) := by
    rintro ⟨unload, -⟩
    rcases boards.mode with mode | mode <;> exact absurd (mode.symm.trans unload) nofun
  rw [becomeStationary_eq, evalBerth_unmet unmet]
  exact boards.decided

/-- A vehicle that comes to rest at a stop point in UNLOAD is berthed (R10). -/
theorem becomeStationary_berths (unload : s.mc.mode = .unload) (ended : s.mc.advance = none)
    (stop : atStopPoint s = true) : (becomeStationary s).mc = { s.mc with berthed := true, berthReached := true } := by
  have met : BerthMet (rested s) := by
    refine ⟨by rw [rested_mc, unload], by rw [rested_mc, ended], by rw [rested_permit], ?_⟩
    rw [atStopPoint_congr (rested_tracker s) (judgeRelease_tables ..)]
    exact stop
  rw [becomeStationary_eq, evalReady_unload ((evalBerth_mode _).trans met.1), evalBerth_mc_met met, rested_mc]

/-! ## DRIVE_TIMEOUT (R184) -/

/-- The drive link is lost: it is live no longer, and the standstill run has ended (R162). -/
def unlinked (s : State) : State :=
  let t := modDli s fun d => { d with live := false }
  if t.permit.stationary then stopStationary t else modPermit t fun u => { u with standstill := none }

theorem loseDriveLink_eq (s : State) :
    loseDriveLink s = if (unlinked s).mc.mode.online then takeFault .driveLinkLost .none 0 (unlinked s) else unlinked s :=
  rfl

theorem unlinked_rolling (h : s.permit.stationary = false) :
    unlinked s = modPermit (modDli s fun d => { d with live := false }) fun u => { u with standstill := none } :=
  if_neg (by simpa using h)

theorem unlinked_stationary (h : s.permit.stationary = true) :
    unlinked s = stopStationary (modDli s fun d => { d with live := false }) := if_pos h

theorem unlinked_keeps (s : State) : Keeps (modDli s fun d => { d with live := false }) (unlinked s) :=
  .ite (stopStationary_keeps _) (.setPermit _ _ rfl rfl rfl)

theorem unlinked_tracker (s : State) : (unlinked s).tracker = s.tracker := by
  unfold unlinked
  dsimp only
  split
  · exact stopStationary_tracker _
  · rfl

/-- The vehicle is stationary no longer, has no standstill run, and stays online. -/
theorem unlinked_moving (s : State) : (unlinked s).permit.stationary = false ∧ (unlinked s).permit.standstill = none ∧
    (s.mc.mode ≠ .offline → (unlinked s).mc.mode ≠ .offline) := by
  cases stationary : s.permit.stationary
  · rw [unlinked_rolling stationary]
    exact ⟨stationary, rfl, id⟩
  · rw [unlinked_stationary stationary]
    have items := stopStationary_items (modDli s fun d => { d with live := false })
    exact ⟨items.stationary, items.standstill, items.online⟩

/-- OFFLINE judges no READY condition: the mode stays, and so do the fault records. -/
theorem unlinked_offline (h : s.mc.mode = .offline) :
    (unlinked s).mc.mode = .offline ∧ (unlinked s).permit.log = s.permit.log := by
  cases stationary : s.permit.stationary
  · rw [unlinked_rolling stationary]
    exact ⟨h, rfl⟩
  · rw [unlinked_stationary stationary, stopStationary_eq]
    obtain ⟨v, hv⟩ : ∃ v, v = unrested (modDli s fun d => { d with live := false }) := ⟨_, rfl⟩
    have mode : (permitMoved v).mc.mode = .offline := by
      rw [permitMoved_mc, hv]
      exact h
    have quiet : evalReady (permitMoved v) = permitMoved v := by simp [evalReady, mode]
    rw [← hv, quiet]
    exact ⟨mode, by rw [(permitMoved_formed v).log, hv]; rfl⟩

/-- In OFFLINE a release goes on when the vehicle moves: its condition asks for the permit alone (R79). -/
theorem permitMoved_offline_restraint (mode : s.mc.mode = .offline) (running : s.startUp.phase = .complete) :
    (permitMoved s).restraint = s.restraint := by
  have allowed (v : State) (hm : v.mc.mode = .offline) (still : v.permit.level.still = true) :
      releaseCondition v = true := by simp [releaseCondition, hm, still]
  have formed : (permitLevelOf s).still = true := permitLevelOf_still (.inl mode)
  have goes : (refreshPermit s).restraint = s.restraint :=
    refreshPermit_restraint_goes fun _ => allowed (s.setPermit { s.permit with level := permitLevelOf s }) mode formed
  have judged : judgeRelease (formCeilings (refreshPermit s)) = formCeilings (refreshPermit s) :=
    judgeRelease_goes fun _ => allowed _ (by rw [formCeilings_mc, refreshPermit_mc, mode])
      ((congrArg PermitLevel.still (refreshPermit_level running)).trans formed)
  unfold permitMoved
  rw [judged, formCeilings_restraint, goes]

theorem unlinked_offline_restraint (mode : s.mc.mode = .offline) (held : ReleaseHeld s) :
    (unlinked s).restraint = s.restraint := by
  cases stationary : s.permit.stationary
  · rw [unlinked_rolling stationary]
    rfl
  · rw [unlinked_stationary stationary, stopStationary_eq]
    obtain ⟨v, hv⟩ : ∃ v, v = unrested (modDli s fun d => { d with live := false }) := ⟨_, rfl⟩
    have offline : v.mc.mode = .offline := by rw [hv]; exact mode
    have restraint : v.restraint = s.restraint := by rw [hv]; rfl
    have quiet : evalReady (permitMoved v) = permitMoved v := by simp [evalReady, permitMoved_mc, offline]
    rw [← hv, quiet]
    by_cases running : s.startUp.phase = .complete
    · exact (permitMoved_offline_restraint offline (by rw [hv]; exact running)).trans restraint
    · have idle : releaseInProgress v = false := by
        rw [releaseInProgress_congr restraint]
        exact idle_iff.2 (held.startUp running)
      have forming : refreshPermit v = v := refreshPermit_startUp_stays (by rw [hv]; exact running)
      rw [permitMoved, forming, judgeRelease_idle (by exact idle), formCeilings_restraint, restraint]

theorem loseDriveLink_offline (h : s.mc.mode = .offline) : loseDriveLink s = unlinked s := by
  rw [loseDriveLink_eq, (unlinked_offline h).1]
  rfl

theorem loseDriveLink_online (h : s.mc.mode ≠ .offline) :
    loseDriveLink s = takeFault .driveLinkLost .none 0 (unlinked s) := by
  rw [loseDriveLink_eq]
  exact if_pos (by simp [Mode.online, (unlinked_moving s).2.2 h])

/-- From the lost link on, the fault keeps the ground and the report items. -/
theorem loseDriveLink_lost (s : State) : SameGround (unlinked s) (loseDriveLink s) ∧ ItemsKept (unlinked s) (loseDriveLink s) ∧
    (loseDriveLink s).tracker = s.tracker := by
  by_cases offline : s.mc.mode = .offline
  · rw [loseDriveLink_offline offline]
    exact ⟨.refl _, .refl _, unlinked_tracker s⟩
  · rw [loseDriveLink_online offline]
    exact ⟨(takeFault_keeps ..).toSameGround, takeFault_items .., (takeFault_tracker ..).trans (unlinked_tracker s)⟩

/-- Online, a release in progress ends with the end of stationary (R79). -/
theorem loseDriveLink_ends (online : s.mc.mode ≠ .offline) (stationary : s.permit.stationary = true)
    (running : s.restraint.queue ≠ [] ∨ s.restraint.energised ≠ []) : ReleaseEnded s (loseDriveLink s) := by
  have stopped : (unlinked s).restraint = (endRelease s).restraint := by
    rw [unlinked_stationary stationary]
    exact (stopStationary_restraint_ended (s := modDli s fun d => { d with live := false })
      (releaseInProgress_iff.2 running) online).trans (endRelease_restraint_congr rfl rfl)
  have ceased : releaseInProgress (unlinked s) = false := (releaseInProgress_congr stopped).trans (endRelease_over s)
  refine .of_restraint ?_
  rw [loseDriveLink_online online, takeFault_idle _ _ _ ceased, stopped]

/-! ## RC_LINK_LOST (R177) -/

theorem rcCheck_lost (online : s.mc.mode ≠ .offline) (silent : s.wli.rcTimeout < s.wli.rcSilence)
    (unreported : s.wli.rcReported = false) :
    rcCheck s = raiseFault .rcLinkLost .none 0 (modWli s fun w => { w with rcReported := true }) :=
  if_pos (by simp [rcSilent, Mode.online, online, silent, unreported])

/-- In an online mode a fault leaves the Wayside Link Interface alone. -/
theorem raiseFault_wli (k : FaultKind) (sub : SubCause) (d : Nat) (online : s.mc.mode ≠ .offline) :
    (raiseFault k sub d s).wli = s.wli := by
  have recorded : (recordFault k sub d s).wli = s.wli := recordFault_wli ..
  have entered : (enterMode .halt (haltHeld s.mc) (recordFault k sub d s)).wli = s.wli :=
    (enterMode_reported _ _ _ (by decide)).trans recorded
  unfold raiseFault
  dsimp only
  split
  · next offline => exact absurd offline online
  · exact recorded
  all_goals exact entered

theorem raiseFault_halts (k : FaultKind) (sub : SubCause) (d : Nat) (online : s.mc.mode ≠ .offline) :
    (raiseFault k sub d s).mc.mode = .halt := by
  rw [raiseFault_mc]
  split
  · next still => exact still.resolve_left online
  · rfl

theorem rcCheck_rests (h : s.mc.mode = .offline ∨ s.wli.rcSilence ≤ s.wli.rcTimeout ∨ s.wli.rcReported = true) :
    rcCheck s = s := by
  refine if_neg ?_
  rcases h with offline | heard | reported
  · simp [rcSilent, offline, Mode.online]
  · simp [rcSilent, heard]
  · simp [rcSilent, reported]

theorem rcLinkLost_reported (online : s.mc.mode ≠ .offline) (silent : s.wli.rcTimeout < s.wli.rcSilence)
    (unreported : s.wli.rcReported = false) :
    (rcCheck s).wli = { s.wli with rcReported := true } ∧ (rcCheck s).mc.mode = .halt ∧
      .rcLinkLost ∈ (rcCheck s).permit.active := by
  obtain ⟨v, hv⟩ : ∃ v, v = modWli s fun w => { w with rcReported := true } := ⟨_, rfl⟩
  have vOnline : v.mc.mode ≠ .offline := by rw [hv]; exact online
  rw [rcCheck_lost online silent unreported, ← hv]
  refine ⟨(raiseFault_wli _ _ _ vOnline).trans (by rw [hv]; rfl), raiseFault_halts _ _ _ vOnline, ?_⟩
  rw [(raiseFault_records _ _ _ vOnline).2.1]
  exact mem_insertKind_self ..

/-! ## Overspeed supervision (R161) -/

section
variable {speed ceiling : Nat}

/-- The count of exchanges above the ceiling, one up. -/
def overspeedCounted (s : State) : State := modPermit s fun u => { u with overspeed := min (u.overspeed + 1) 6 }

theorem superviseSpeed_still (h : s.permit.level = .stop ∨ s.permit.level = .emergency) :
    superviseSpeed speed ceiling s = s := if_pos ((still_iff _).2 h)

theorem not_still (h : s.permit.level = .creep ∨ s.permit.level = .run) : ¬s.permit.level.still = true := by
  rcases h with h | h <;> rw [h] <;> exact nofun

theorem superviseSpeed_within (moves : s.permit.level = .creep ∨ s.permit.level = .run)
    (slow : speed ≤ ceiling + s.params.overspeedTolerance) :
    superviseSpeed speed ceiling s = { s with permit := { s.permit with overspeed := 0 } } := by
  unfold superviseSpeed
  rw [if_neg (not_still moves), if_neg (by omega)]
  rfl

theorem superviseSpeed_beyond (moves : s.permit.level = .creep ∨ s.permit.level = .run)
    (fast : ceiling + s.params.overspeedTolerance < speed) : superviseSpeed speed ceiling s =
      if (overspeedCounted s).permit.overspeed = 6 then takeFault .overspeed .none 0 (overspeedCounted s)
      else overspeedCounted s := by
  unfold superviseSpeed
  rw [if_neg (not_still moves), if_pos fast]
  rfl

theorem superviseSpeed_counts (moves : s.permit.level = .creep ∨ s.permit.level = .run)
    (fast : ceiling + s.params.overspeedTolerance < speed) (few : s.permit.overspeed < 5) :
    superviseSpeed speed ceiling s = { s with permit := { s.permit with overspeed := s.permit.overspeed + 1 } } := by
  have counted : min (s.permit.overspeed + 1) 6 = s.permit.overspeed + 1 := by omega
  rw [superviseSpeed_beyond moves fast, if_neg (by simp [overspeedCounted, counted]; omega)]
  simp only [overspeedCounted, modPermit_eq, counted]
  rfl

/-- Entry into HALT clears the count of a vehicle that was let move (R161). -/
theorem halted_overspeed (running : s.startUp.phase = .complete) (moves : s.permit.level = .creep ∨ s.permit.level = .run)
    (k : FaultKind) (sub : SubCause) (d : Nat) : (halted k sub d s).permit.overspeed = 0 := by
  obtain ⟨v, hv⟩ : ∃ v, v = tellBlocks s.mc.mode .halt
    (modMc (recordFault k sub d s) (ModeController.enter .halt (haltHeld s.mc))) := ⟨_, rfl⟩
  have halt : v.mc.mode = .halt := by simp [hv, ModeController.enter]
  have formed : (permitLevelOf v).still = true := permitLevelOf_still (.inr (.inr halt))
  have level : v.permit.level = s.permit.level := by simp [hv, recordFault_level]
  have changes : permitLevelOf v ≠ v.permit.level := by
    rw [level]
    intro same
    exact not_still moves (same ▸ formed)
  obtain ⟨cleared, -⟩ := refreshPermit_moves_still (by simp [hv, running]) changes formed
  have entered : (halted k sub d s).permit = (formCeilings (refreshPermit v)).permit := by
    simp only [halted, enterMode, dispatchScene_permit, releaseAtModeChange_permit, hv, recordFault_mc]
  rw [entered, formCeilings_overspeed, cleared, ite_self]

/-- In HALT, RC silence leaves the overspeed count alone. -/
theorem rcCheck_halt_overspeed (h : s.mc.mode = .halt) : (rcCheck s).permit.overspeed = s.permit.overspeed := by
  unfold rcCheck
  split
  · unfold raiseFault
    simp [h, steeringReact, recordFault, Mode.online, PermitUnit.appendLog]
  · rfl

/-- The sixth exchange in a row above the ceiling is OVERSPEED. -/
theorem superviseSpeed_sixth (moves : s.permit.level = .creep ∨ s.permit.level = .run)
    (fast : ceiling + s.params.overspeedTolerance < speed) (five : s.permit.overspeed = 5) :
    superviseSpeed speed ceiling s = takeFault .overspeed .none 0 (overspeedCounted s) := by
  rw [superviseSpeed_beyond moves fast, if_pos (by simp [overspeedCounted, five])]

theorem overspeed_taken (moves : s.permit.level = .creep ∨ s.permit.level = .run) (running : s.startUp.phase = .complete)
    (online : s.mc.mode ≠ .offline) (entering : s.mc.mode ≠ .halt) {v : State}
    (taken : v = takeFault .overspeed .none 0 (overspeedCounted s)) :
    FaultTaken .overspeed 0 s v ∧ v.permit.overspeed = 0 ∧ v.permit.level = .emergency := by
  obtain ⟨c, hc⟩ : ∃ c, c = overspeedCounted s := ⟨_, rfl⟩
  have mode : c.mc = s.mc := by rw [hc]; rfl
  have cOnline : c.mc.mode ≠ .offline := by rwa [mode]
  have cEntering : c.mc.mode ≠ .halt := by rwa [mode]
  rw [← hc] at taken
  subst taken
  refine ⟨?_, ?_, (takeFault_permit (by rw [hc]; exact running) cOnline cEntering).1⟩
  · obtain ⟨logged, active, halt⟩ := takeFault_taken .overspeed 0 cOnline
    exact ⟨by rw [hc] at logged ⊢; exact logged, active, halt⟩
  · rw [takeFault_enters cOnline cEntering, rcCheck_halt_overspeed halted_mode]
    exact halted_overspeed (by rw [hc]; exact running) (by rw [hc]; exact moves) _ _ _

end

/-- Settles O53: each supervision row, when due and when not, and overspeed supervision clause by clause. -/
theorem supervisionTimersExpire : Obligations.SupervisionTimersExpire := by
  unfold Obligations.SupervisionTimersExpire
  refine ⟨fun s began moving run due => ?stationary, fun s h => ?notStationary, fun s live late => ?driveTimeout,
    fun s => ⟨fun running fails => ?judged, fun h => ?left⟩, fun s h => ?driven, fun s online silent unreported => ?rcLost,
    fun s h => ?rcHeard, fun speed ceiling s => ⟨superviseSpeed_still, fun moves => ?moving⟩⟩
  case stationary =>
    have items := becomeStationary_items s
    refine ⟨becomeStationary s, congrArg Host.Outcome.next (if_pos (stationaryDue_of moving run due)),
      (becomeStationary_keeps s).toSameGround, becomeStationary_tracker s, by rw [items.stationary, rested_permit],
      by rw [items.standstill, rested_permit, run], fun mode heard => becomeStationary_decided ⟨mode, heard⟩,
      becomeStationary_berths⟩
  case notStationary => exact congrArg Host.Outcome.next (if_neg (by rw [stationaryDue_rests h]; exact nofun))
  case driveTimeout =>
    obtain ⟨ground, items, tracker⟩ := loseDriveLink_lost s
    obtain ⟨rolling, ended, -⟩ := unlinked_moving s
    have kept := (unlinked_keeps s).toSameGround
    have timedOut : driveTimedOut s = true := by simp [driveTimedOut, live, late]
    refine ⟨loseDriveLink s, congrArg Host.Outcome.next (if_pos timedOut), ground.dli.trans kept.dli, tracker,
      items.stationary.trans rolling, items.standstill.trans ended, ground.params.trans kept.params,
      ground.tables.trans kept.tables, ground.clock.trans kept.clock, ground.store.trans kept.store, ?_, ?_,
      loseDriveLink_ends, ?_⟩
    · intro offline
      rw [loseDriveLink_offline offline]
      exact unlinked_offline offline
    · intro online
      obtain ⟨-, active, halt⟩ := takeFault_taken .driveLinkLost 0 ((unlinked_moving s).2.2 online)
      rw [loseDriveLink_online online]
      exact ⟨halt, active⟩
    · intro offline held
      rw [loseDriveLink_offline offline]
      exact unlinked_offline_restraint offline held
  case judged =>
    rw [judgeRelease_ended running fails]
    exact ⟨endRelease_ended s, rfl⟩
  case left => exact h.elim (fun idle => judgeRelease_idle (idle_iff.2 idle)) judgeRelease_allowed
  case driven =>
    have early : driveTimedOut s = false := by
      rcases h with dead | early <;> simp [driveTimedOut, *]
    exact congrArg Host.Outcome.next (if_neg (by rw [early]; exact nofun))
  case rcLost =>
    exact ⟨rcCheck s, rfl, (rcCheck_keeps s).toSameGround, rcCheck_tracker s, rcLinkLost_reported online silent unreported⟩
  case rcHeard => exact congrArg Host.Outcome.next (rcCheck_rests h)
  case moving =>
    exact ⟨superviseSpeed_within moves, superviseSpeed_counts moves, fun fast five running online entering =>
      overspeed_taken moves running online entering (superviseSpeed_sixth moves fast five)⟩

end Sys2Proof.Machine
end

section
/-! SUPPORT. The seats that a request names, one after another (R71 to R73): what each leaves, and that LOAD and READY end with the
READY conditions judged. -/

namespace Sys2Proof.Machine

variable {s t : State} {i : Fin 8} {old : SeatState} {f : State → Fin 8 → State} {p : Fin 8 → Bool} {l : List (Fin 8)}

/-! ## The seats of a mask -/

theorem mem_named : i ∈ allSeats.filter p ↔ p i = true :=
  List.mem_filter.trans ⟨And.right, fun h => ⟨mem_allSeats i, h⟩⟩

theorem named_nodup (p : Fin 8 → Bool) : (allSeats.filter p).Nodup :=
  List.Nodup.filter p (by decide)

theorem named_sorted (p : Fin 8 → Bool) : (allSeats.filter p).Pairwise (· < ·) :=
  List.Pairwise.filter p (by decide)

theorem maskOf_congr {q : Fin 8 → Bool} (h : ∀ i, p i = q i) : maskOf p = maskOf q := congrArg maskOf (funext h)

/-! ## Seat by seat, in LOAD and READY -/

theorem Boarding.foldl (kept : ∀ v i, Boarding v → Boarding (f v i)) (h : Boarding s) (l : List (Fin 8)) :
    Boarding (l.foldl f s) := by
  induction l generalizing s with
  | nil => exact h
  | cons i l ih => exact ih (kept s i h)

/-- The last seat named has the READY conditions judged (R7). -/
theorem Boarding.foldl_decided (kept : ∀ v i, Boarding v → Boarding (f v i)) (h : Boarding s) (distinct : l.Nodup)
    (named : ∃ i, i ∈ l)
    (last : ∀ (front : List (Fin 8)) (k : Fin 8), k ∈ l → k ∉ front → Boarding (front.foldl f s) →
      ReadyDecided (f (front.foldl f s) k)) :
    ReadyDecided (l.foldl f s) := by
  rcases List.eq_nil_or_concat l with none | ⟨front, k, eq⟩
  · obtain ⟨i, hi⟩ := named
    rw [none] at hi
    exact absurd hi List.not_mem_nil
  · rw [List.concat_eq_append] at eq
    rw [eq, List.nodup_append] at distinct
    obtain ⟨-, -, apart⟩ := distinct
    rw [eq, List.foldl_concat]
    exact last front k (by rw [eq]; simp) (fun mem => apart k mem k (List.mem_singleton_self k) rfl) (h.foldl kept front)

/-! ## A seat that reports without a fault -/

/-- Without a release in progress a report that is no fault leaves the Restraint Monitor alone. -/
theorem seatMoved_idle_restraint (idle : s.restraint.Idle) (closed : opensRestraint s old (seatState s i) = false) :
    (seatMoved i old s).restraint = s.restraint := by
  by_cases same : seatState s i = old
  · exact congrArg State.restraint (if_pos same)
  · have ceased : releaseInProgress s = false := idle_iff.2 idle
    have formed : (refreshPermit s).restraint = s.restraint := refreshPermit_idle ceased
    rw [seatMoved_judged same closed, evalReady_idle ((releaseInProgress_congr formed).trans ceased), formed]

end Sys2Proof.Machine
end

section
/-! PROOF. O24: BYPASS and RESTORE (R71, R72, R82). -/

namespace Sys2Proof.Machine

variable {s t : State} {f : Frame} {rest : List Frame} {mask : Byte} {i j : Fin 8} {l : List (Fin 8)}

/-! ## One bypassed seat (R71) -/

/-- A seat out of evaluation, with both timers at 0. -/
def Seat.bypassed (x : Seat) : Seat := { x with state := .bypassed, verifyElapsed := 0, disagreeElapsed := 0 }

theorem bypassSeat_eq (s : State) (i : Fin 8) :
    bypassSeat s i = seatMoved i (seatState s i) (s.setRestraint (s.restraint.modSeat i Seat.bypassed)) := rfl

theorem modSeat_state (r : Restraint) (i : Fin 8) (f : Seat → Seat) :
    seatState (s.setRestraint (r.modSeat i f)) i = (f r.seats[i]).state := by
  rw [seatState, State.setRestraint_restraint, modSeat_seat]

theorem opensRestraint_bypassed (s : State) (old : SeatState) : opensRestraint s old .bypassed = false := by
  simp [opensRestraint]

/-- Without a release in progress a bypass moves the seat's record alone. -/
theorem bypassSeat_restraint (idle : s.restraint.Idle) (i : Fin 8) :
    (bypassSeat s i).restraint = s.restraint.modSeat i Seat.bypassed := by
  have idled : (s.setRestraint (s.restraint.modSeat i Seat.bypassed)).restraint.Idle := idle
  rw [bypassSeat_eq, seatMoved_idle_restraint idled (by rw [modSeat_state]; exact opensRestraint_bypassed ..)]
  rfl

theorem bypassSeat_tracker (s : State) (i : Fin 8) : (bypassSeat s i).tracker = s.tracker := seatMoved_tracker ..

theorem bypassSeat_boards (s : State) (i : Fin 8) (h : Boarding s) : Boarding (bypassSeat s i) :=
  (h.of_blocks (t := s.setRestraint (s.restraint.modSeat i Seat.bypassed)) rfl rfl).moved

theorem bypassSeat_decided (h : Boarding s) (evaluated : (seatState s i).inEvaluation = true) :
    ReadyDecided (bypassSeat s i) := by
  have boards : Boarding (s.setRestraint (s.restraint.modSeat i Seat.bypassed)) := h.of_blocks rfl rfl
  have moved : seatState (s.setRestraint (s.restraint.modSeat i Seat.bypassed)) i ≠ seatState s i := by
    rw [modSeat_state]
    intro same
    rw [← same] at evaluated
    exact absurd evaluated nofun
  rw [bypassSeat_eq, boards.seatMoved_eq moved]
  exact boards.refreshed.decided

/-! ## The bypassed seats one after another -/

theorem foldl_tracker {f : State → Fin 8 → State} (h : ∀ s i, (f s i).tracker = s.tracker) (l : List (Fin 8)) (s : State) :
    (l.foldl f s).tracker = s.tracker := by
  induction l generalizing s with
  | nil => rfl
  | cons i l ih => exact (ih (f s i)).trans (h s i)

/-- Each seat named is bypassed, and no other seat changes. -/
theorem bypassed_seats (idle : s.restraint.Idle) (l : List (Fin 8)) (j : Fin 8) :
    (l.foldl bypassSeat s).restraint.seats[j] =
      if j ∈ l then (s.restraint.seats[j]).bypassed else s.restraint.seats[j] := by
  induction l generalizing s with
  | nil => simp
  | cons i l ih =>
    rw [List.foldl_cons, ih (bypassSeat_idleKept s i idle).idle, bypassSeat_restraint idle]
    by_cases here : j = i
    · rw [here, modSeat_seat, if_pos (List.mem_cons_self ..)]
      split <;> rfl
    · rw [modSeat_other _ _ here]
      simp only [List.mem_cons, here, false_or]

/-- The seats that BYPASS names and finds in evaluation. -/
def isBypassed (s : State) (mask : Byte) (i : Fin 8) : Bool := inMask mask i && (seatState s i).inEvaluation

theorem bypass_eq (mask : Byte) (s : State) : bypass mask s = (allSeats.filter (isBypassed s mask)).foldl bypassSeat s := rfl

theorem isBypassed_iff : isBypassed s mask i = true ↔ mask.getLsbD i.val = true ∧ (seatState s i).inEvaluation = true := by
  simp only [isBypassed, inMask, Bool.and_eq_true]

theorem bypass_seat (idle : s.restraint.Idle) (mask : Byte) (i : Fin 8) : (bypass mask s).restraint.seats[i] =
    if mask.getLsbD i.val = true ∧ (seatState s i).inEvaluation = true then (s.restraint.seats[i]).bypassed
    else s.restraint.seats[i] := by
  rw [bypass_eq, bypassed_seats idle]
  simp only [mem_named, isBypassed_iff]

theorem bypass_state (idle : s.restraint.Idle) (mask : Byte) (i : Fin 8) : (seatState (bypass mask s) i == .bypassed) =
    (seatState s i == .bypassed || (mask.getLsbD i.val && (seatState s i).inEvaluation)) := by
  rw [seatState, bypass_seat idle]
  split
  · next named => simp [Seat.bypassed, named]
  · next spared =>
    have unnamed : (mask.getLsbD i.val && (seatState s i).inEvaluation) = false := by
      simpa [Bool.and_eq_true, imp_iff_not_or] using spared
    rw [unnamed, Bool.or_false]
    rfl

theorem bypass_tracker (mask : Byte) (s : State) : (bypass mask s).tracker = s.tracker := foldl_tracker bypassSeat_tracker ..

/-- In LOAD and READY the last seat bypassed has the READY conditions judged (R7). -/
theorem bypass_decided (boards : Boarding s) (idle : s.restraint.Idle)
    (named : ∃ i : Fin 8, mask.getLsbD i.val = true ∧ (seatState s i).inEvaluation = true) :
    ReadyDecided (bypass mask s) := by
  obtain ⟨i, hi⟩ := named
  rw [bypass_eq]
  refine boards.foldl_decided bypassSeat_boards (named_nodup _) ⟨i, mem_named.2 (isBypassed_iff.2 hi)⟩
    fun front k mem fresh before => bypassSeat_decided before ?_
  rw [seatState, bypassed_seats idle, if_neg fresh]
  exact (isBypassed_iff.1 (mem_named.1 mem)).2

/-! ## BYPASS -/

theorem handleBypass_named (h : mask ≠ 0) (idle : s.restraint.Idle) : handleBypass [mask] s =
    done [BitVec.ofNat 8 (maskOf fun i => seatState (bypass mask s) i == .bypassed)] (bypass mask s) := by
  unfold handleBypass
  simp only [if_neg h, idle_iff.2 idle]
  rfl

theorem handleBypass_releasing (h : mask ≠ 0) (running : s.restraint.queue ≠ [] ∨ s.restraint.energised ≠ []) :
    handleBypass [mask] s = refuse .mode s := by
  unfold handleBypass
  simp only [if_neg h, releaseInProgress_iff.2 running, if_true]

/-- BYPASS on a frame that is taken. -/
theorem bypass_answers (admitted : Admitted .bypass f rest s) (hargs : f.args = [mask]) (h : mask ≠ 0)
    (idle : s.restraint.Idle) : exec .bypass s = .next (answered f .done
      [BitVec.ofNat 8 (maskOf fun i => seatState s i == .bypassed ||
        (mask.getLsbD i.val && (seatState s i).inEvaluation))] (bypass mask (taken s f rest))) := by
  have handled := handleBypass_named (s := taken s f rest) h idle
  rw [maskOf_congr (bypass_state (s := taken s f rest) idle mask)] at handled
  exact requestRow_answers admitted hargs handled

/-! ## One restored seat (R72) -/

theorem evaluateSeat_seat (i : Fin 8) (s : State) :
    (evaluateSeat i s).restraint.seats[i] = Seat.enterEvaluation (picture s i) s.restraint.seats[i] := modSeat_seat ..

theorem evaluateSeat_state (i : Fin 8) (s : State) : seatState (evaluateSeat i s) i = (picture s i).seatState := by
  rw [seatState, evaluateSeat_seat]
  rfl

theorem evaluateSeat_spares (i : Fin 8) (s : State) (h : j ≠ i) :
    SparesSeat j s.restraint (evaluateSeat i s).restraint := ⟨fun hq he => ⟨modSeat_other _ _ h, hq, he⟩, id⟩

/-- The restored seat with its permit formed again, and a RESTRAINT_OPEN where it is one; READY is still to judge. -/
def restored (s : State) (i : Fin 8) : State :=
  let t := refreshPermit (evaluateSeat i s)
  if restoreOpens (evaluateSeat i s) (seatState (evaluateSeat i s) i) then takeFault .restraintOpen .none (i.val + 1) t else t

theorem restoreSeat_eq (s : State) (i : Fin 8) :
    restoreSeat s i = if seatState (restored s i) i = seatState s i then restored s i else evalReady (restored s i) := rfl

theorem restored_spares (s : State) (i j : Fin 8) :
    SparesSeat j (evaluateSeat i s).restraint (restored s i).restraint := by
  have formed := refreshPermit_spares j (evaluateSeat i s)
  unfold restored
  dsimp only
  split
  · exact formed.trans (takeFault_spares ..)
  · exact formed

theorem restoreSeat_spares (s : State) (i j : Fin 8) :
    SparesSeat j (evaluateSeat i s).restraint (restoreSeat s i).restraint := by
  rw [restoreSeat_eq]
  split
  · exact restored_spares s i j
  · exact (restored_spares s i j).trans (evalReady_spares ..)

theorem restoreSeat_tracker (s : State) (i : Fin 8) : (restoreSeat s i).tracker = s.tracker := by
  have judged : (restored s i).tracker = s.tracker := by
    unfold restored
    dsimp only
    split
    · exact (takeFault_tracker ..).trans (refreshPermit_tracker _)
    · exact refreshPermit_tracker _
  rw [restoreSeat_eq]
  split
  · exact judged
  · exact (evalReady_tracker _).trans judged

/-! ## The restored seats one after another -/

theorem restored_picture (s : State) (i j : Fin 8) : picture (restoreSeat s i) j = picture s j :=
  picture_congr (restoreSeat_keeps s i).terminals

/-- Each seat named enters evaluation; the others, outside a release, do not change. -/
theorem restored_seats (l : List (Fin 8)) (hq : j ∉ s.restraint.queue) (he : j ∉ s.restraint.energised) :
    (l.foldl restoreSeat s).restraint.seats[j] =
        (if j ∈ l then Seat.enterEvaluation (picture s j) s.restraint.seats[j] else s.restraint.seats[j]) ∧
      j ∉ (l.foldl restoreSeat s).restraint.queue ∧ j ∉ (l.foldl restoreSeat s).restraint.energised := by
  induction l generalizing s with
  | nil => exact ⟨by simp, hq, he⟩
  | cons i l ih =>
    obtain ⟨seat, queue, energised⟩ := (restoreSeat_spares s i j).seat hq he
    obtain ⟨later, outside⟩ := ih queue energised
    refine ⟨later.trans ?_, outside⟩
    rw [restored_picture, seat]
    by_cases here : j = i
    · rw [here, evaluateSeat_seat, if_pos (List.mem_cons_self ..)]
      split <;> rfl
    · obtain ⟨same, -⟩ := (evaluateSeat_spares i s here).seat hq he
      rw [same]
      simp only [List.mem_cons, here, false_or]

/-! ## A restored seat that is no fault -/

/-- The vehicle is not watched for a seat that RESTORE opens, or the seat is LOCKED (R82). -/
def RestoresQuietly (s : State) (i : Fin 8) : Prop :=
  ¬RestraintsWatched s ∨ s.mc.mode = .halt ∨ (picture s i).seatState = .locked

theorem RestoresQuietly.of_blocks (h : RestoresQuietly s i) (hm : t.mc = s.mc) (ht : t.terminals = s.terminals) :
    RestoresQuietly t i := by
  rwa [RestoresQuietly, RestraintsWatched, hm, picture_congr ht]

theorem restored_quiet (h : RestoresQuietly s i) : restored s i = refreshPermit (evaluateSeat i s) := by
  refine if_neg ?_
  rw [evaluateSeat_state, restoreOpens]
  rcases h with unwatched | halt | locked
  · have unwatched : watched (evaluateSeat i s) = false := Bool.eq_false_iff.2 fun hw => unwatched (watched_iff.1 hw)
    simp [unwatched]
  · have halt : (evaluateSeat i s).mc.mode = .halt := halt
    simp [halt]
  · simp [locked]

theorem evaluated_noFault (s : State) (i : Fin 8) : NoFaultTaken s (refreshPermit (evaluateSeat i s)) where
  log := (refreshPermit_formed (evaluateSeat i s)).log
  active := (refreshPermit_formed (evaluateSeat i s)).active
  first := (refreshPermit_formed (evaluateSeat i s)).first

theorem NoFaultTaken.refl (s : State) : NoFaultTaken s s := ⟨rfl, rfl, rfl⟩

theorem NoFaultTaken.trans {u : State} (h : NoFaultTaken s t) (k : NoFaultTaken t u) : NoFaultTaken s u :=
  ⟨k.log.trans h.log, k.active.trans h.active, k.first.trans h.first⟩

/-! ## In a mode that does not judge READY -/

/-- READY is judged in LOAD and READY only (R7). -/
theorem evalReady_unjudged (h : ¬(s.mc.mode = .load ∨ s.mc.mode = .ready)) : evalReady s = s := by
  unfold evalReady
  split
  · next load => exact absurd (.inl load) h
  · next ready => exact absurd (.inr ready) h
  all_goals rfl

/-- The mode and the fault records stay. -/
structure RestoredQuietly (s t : State) : Prop where
  mc : t.mc = s.mc
  terminals : t.terminals = s.terminals
  faults : NoFaultTaken s t

theorem restoreSeat_quietly (unjudged : ¬(s.mc.mode = .load ∨ s.mc.mode = .ready)) (h : RestoresQuietly s i) :
    RestoredQuietly s (restoreSeat s i) := by
  have mc : (refreshPermit (evaluateSeat i s)).mc = s.mc := refreshPermit_mc _
  have eq : restoreSeat s i = refreshPermit (evaluateSeat i s) := by
    rw [restoreSeat_eq, restored_quiet h, evalReady_unjudged (by rwa [mc]), ite_self]
  rw [eq]
  exact ⟨mc, refreshPermit_terminals _, evaluated_noFault s i⟩

theorem restored_quietly (unjudged : ¬(s.mc.mode = .load ∨ s.mc.mode = .ready)) (l : List (Fin 8))
    (h : ∀ i ∈ l, RestoresQuietly s i) : RestoredQuietly s (l.foldl restoreSeat s) := by
  induction l generalizing s with
  | nil => exact ⟨rfl, rfl, .refl s⟩
  | cons i l ih =>
    obtain ⟨mc, terminals, faults⟩ := restoreSeat_quietly unjudged (h i (.head l))
    obtain ⟨mcs, all, none⟩ := ih (by rwa [mc]) fun j hj => (h j (.tail i hj)).of_blocks mc terminals
    exact ⟨mcs.trans mc, all.trans terminals, faults.trans none⟩

/-! ## In LOAD and READY -/

theorem Boarding.unwatched (h : Boarding s) : ¬RestraintsWatched s := by
  rintro (mode | mode | ⟨mode, -⟩ | ⟨mode, -⟩) <;> rcases h.mode with m | m <;> exact absurd (m.symm.trans mode) nofun

theorem Boarding.restored (h : Boarding s) (i : Fin 8) :
    restored s i = refreshPermit (evaluateSeat i s) ∧ Boarding (refreshPermit (evaluateSeat i s)) :=
  ⟨restored_quiet (.inl h.unwatched), (h.of_blocks (t := evaluateSeat i s) rfl rfl).refreshed⟩

theorem restoreSeat_boards (s : State) (i : Fin 8) (h : Boarding s) : Boarding (restoreSeat s i) := by
  obtain ⟨eq, boards⟩ := h.restored i
  rw [restoreSeat_eq, eq]
  split
  · exact boards
  · exact boards.judged

theorem restoreSeat_boarding_noFault (h : Boarding s) (i : Fin 8) : NoFaultTaken s (restoreSeat s i) := by
  obtain ⟨eq, boards⟩ := h.restored i
  have formed : NoFaultTaken s (refreshPermit (evaluateSeat i s)) := evaluated_noFault s i
  rw [restoreSeat_eq, eq]
  split
  · exact formed
  · exact formed.trans (evalReady_quiet boards.heard)

theorem restored_boarding_noFault (h : Boarding s) (l : List (Fin 8)) : NoFaultTaken s (l.foldl restoreSeat s) := by
  induction l generalizing s with
  | nil => exact .refl s
  | cons i l ih => exact (restoreSeat_boarding_noFault h i).trans (ih (restoreSeat_boards s i h))

theorem Picture.seatState_ne_bypassed (p : Picture) : p.seatState ≠ .bypassed := fun same => by
  have unready := (Picture.seatState_unready p).1
  rw [same] at unready
  exact absurd unready nofun

/-- A bypassed seat that is restored moves, and the READY conditions are judged (R7). -/
theorem restoreSeat_decided (h : Boarding s) (bypassed : seatState s i = .bypassed) (hq : i ∉ s.restraint.queue)
    (he : i ∉ s.restraint.energised) : ReadyDecided (restoreSeat s i) := by
  obtain ⟨eq, boards⟩ := h.restored i
  have moved : seatState (Machine.restored s i) i ≠ seatState s i := by
    obtain ⟨seat, -⟩ := (restored_spares s i i).seat hq he
    rw [seatState, seat, ← seatState, evaluateSeat_state, bypassed]
    exact Picture.seatState_ne_bypassed _
  rw [restoreSeat_eq, if_neg moved, eq]
  exact boards.decided

/-! ## The first restored seat that is open (R82) -/

theorem restoreOpens_of (hw : RestraintsWatched s) (hh : s.mc.mode ≠ .halt)
    (hi : (picture s i).seatState = .open ∨ (picture s i).seatState = .closing) :
    restoreOpens (evaluateSeat i s) (seatState (evaluateSeat i s) i) = true := by
  have isWatched : watched (evaluateSeat i s) = true := watched_iff.2 hw
  have notHalt : (evaluateSeat i s).mc.mode ≠ .halt := hh
  rw [evaluateSeat_state]
  rcases hi with hi | hi <;> simp [restoreOpens, isWatched, notHalt, hi]

theorem RestraintsWatched.unjudged (h : RestraintsWatched s) : ¬(s.mc.mode = .load ∨ s.mc.mode = .ready) := by
  rintro (m | m) <;> rcases h with mode | mode | ⟨mode, -⟩ | ⟨mode, -⟩ <;> exact absurd (m.symm.trans mode) nofun

theorem RestraintsWatched.online (h : RestraintsWatched s) : s.mc.mode ≠ .offline := by
  intro m
  rcases h with mode | mode | ⟨mode, -⟩ | ⟨mode, -⟩ <;> exact absurd (m.symm.trans mode) nofun

theorem restoreSeat_taken (hw : RestraintsWatched s) (hh : s.mc.mode ≠ .halt)
    (hi : (picture s i).seatState = .open ∨ (picture s i).seatState = .closing) :
    FaultTaken .restraintOpen (i.val + 1) s (restoreSeat s i) := by
  have online : (refreshPermit (evaluateSeat i s)).mc.mode ≠ .offline := by
    rw [refreshPermit_mc]
    exact hw.online
  have opened : restored s i = takeFault .restraintOpen .none (i.val + 1) (refreshPermit (evaluateSeat i s)) :=
    if_pos (restoreOpens_of hw hh hi)
  obtain ⟨logged, active, halt⟩ := takeFault_taken .restraintOpen (i.val + 1) online
  have eq : restoreSeat s i = restored s i := by
    rw [restoreSeat_eq, opened, evalReady_halted (.inl halt), ite_self]
  rw [eq, opened]
  refine ⟨?_, active, halt⟩
  rw [refreshPermit_tracker, refreshPermit_clock, refreshPermit_mc] at logged
  exact logged

/-- The seats before it are LOCKED and no fault; those after it are judged in HALT (model's choice, log 47). -/
theorem restored_taken (sorted : l.Pairwise (· < ·)) (mem : i ∈ l) (hw : RestraintsWatched s) (hh : s.mc.mode ≠ .halt)
    (hi : (picture s i).seatState = .open ∨ (picture s i).seatState = .closing)
    (before : ∀ j ∈ l, j < i → (picture s j).seatState = .locked) :
    FaultTaken .restraintOpen (i.val + 1) s (l.foldl restoreSeat s) := by
  obtain ⟨front, back, rfl⟩ := List.append_of_mem mem
  obtain ⟨-, -, apart⟩ := List.pairwise_append.1 sorted
  have quiet : ∀ j ∈ front, RestoresQuietly s j := fun j hj =>
    .inr (.inr (before j (by simp [hj]) (apart j hj i (List.mem_cons_self ..))))
  obtain ⟨u, hu⟩ : ∃ u, u = front.foldl restoreSeat s := ⟨_, rfl⟩
  obtain ⟨mc, terminals, -⟩ : RestoredQuietly s u := hu ▸ restored_quietly hw.unjudged front quiet
  have tracker : u.tracker = s.tracker := hu ▸ foldl_tracker restoreSeat_tracker front s
  have clock : u.clock = s.clock := hu ▸ (Keeps.foldl restoreSeat_keeps front s).clock
  have opened : FaultTaken .restraintOpen (i.val + 1) u (restoreSeat u i) := restoreSeat_taken
    (by rwa [RestraintsWatched, mc]) (by rwa [mc]) (by rwa [picture_congr terminals])
  have after : RestoredQuietly (restoreSeat u i) (back.foldl restoreSeat (restoreSeat u i)) :=
    restored_quietly (by rw [opened.halt]; simp) back fun j _ => .inr (.inl opened.halt)
  obtain ⟨logged, active, halt⟩ := opened
  rw [tracker, clock, mc] at logged
  rw [List.foldl_append, List.foldl_cons, ← hu]
  exact ⟨by rwa [after.faults.log], by rwa [after.faults.active], by rwa [after.mc]⟩

/-! ## RESTORE -/

/-- The state that RESTORE leaves. -/
def restoreNamed (mask : Byte) (s : State) : State := (allSeats.filter (isRestored s mask)).foldl restoreSeat s

theorem isRestored_iff : isRestored s mask i = true ↔ mask.getLsbD i.val = true ∧ seatState s i = .bypassed := by
  simp only [isRestored, inMask, Bool.and_eq_true, beq_iff_eq]

theorem handleRestore_named (h : mask ≠ 0) : handleRestore [mask] s =
    done [BitVec.ofNat 8 (maskOf fun i => mask.getLsbD i.val && seatState s i == .bypassed)] (restoreNamed mask s) :=
  if_neg h

theorem restore_decided (boards : Boarding s)
    (outside : ∀ i, seatState s i = .bypassed → i ∉ s.restraint.queue ∧ i ∉ s.restraint.energised)
    (named : ∃ i : Fin 8, mask.getLsbD i.val = true ∧ seatState s i = .bypassed) : ReadyDecided (restoreNamed mask s) := by
  obtain ⟨i, hi⟩ := named
  refine boards.foldl_decided restoreSeat_boards (named_nodup _) ⟨i, mem_named.2 (isRestored_iff.2 hi)⟩
    fun front k mem fresh before => ?_
  have bypassed : seatState s k = .bypassed := (isRestored_iff.1 (mem_named.1 mem)).2
  obtain ⟨noQueue, noSet⟩ := outside k bypassed
  obtain ⟨seat, queue, energised⟩ := restored_seats front noQueue noSet
  refine restoreSeat_decided before ?_ queue energised
  rw [seatState, seat, if_neg fresh]
  exact bypassed

theorem restore_taken (hw : RestraintsWatched s) (hh : s.mc.mode ≠ .halt) (named : mask.getLsbD i.val = true)
    (bypassed : seatState s i = .bypassed) (hi : (picture s i).seatState = .open ∨ (picture s i).seatState = .closing)
    (before : ∀ j : Fin 8, j < i → mask.getLsbD j.val = true → seatState s j = .bypassed →
      (picture s j).seatState = .locked) : FaultTaken .restraintOpen (i.val + 1) s (restoreNamed mask s) :=
  restored_taken (named_sorted _) (mem_named.2 (isRestored_iff.2 ⟨named, bypassed⟩)) hw hh hi fun j mem lt =>
    have ⟨jNamed, jBypassed⟩ := isRestored_iff.1 (mem_named.1 mem)
    before j lt jNamed jBypassed

theorem restore_noFault (heard : RcHeard s) (h : ¬RestraintsWatched s ∨ s.mc.mode = .halt ∨
    ∀ i : Fin 8, mask.getLsbD i.val = true → seatState s i = .bypassed → (picture s i).seatState = .locked) :
    NoFaultTaken s (restoreNamed mask s) := by
  by_cases judged : s.mc.mode = .load ∨ s.mc.mode = .ready
  · exact restored_boarding_noFault ⟨judged, heard⟩ _
  · refine (restored_quietly judged _ fun i mem => ?_).faults
    obtain ⟨named, bypassed⟩ := isRestored_iff.1 (mem_named.1 mem)
    exact h.imp id (Or.imp id fun locked => locked i named bypassed)

theorem restore_seat (mask : Byte) (hq : i ∉ s.restraint.queue) (he : i ∉ s.restraint.energised) :
    (restoreNamed mask s).restraint.seats[i] =
      if mask.getLsbD i.val = true ∧ seatState s i = .bypassed then
        Seat.enterEvaluation (picture s i) s.restraint.seats[i] else s.restraint.seats[i] := by
  obtain ⟨seat, -⟩ := restored_seats (allSeats.filter (isRestored s mask)) hq he
  refine seat.trans ?_
  simp only [mem_named, isRestored_iff]

theorem watched_taken : RestraintsWatched (taken s f rest) ↔ RestraintsWatched s := by
  simp only [RestraintsWatched, taken_mode, taken_berthReached, taken_heldFrom]

/-! ## Both requests -/

/-- Settles O24: BYPASS and RESTORE as folds over the seats they name, judged seat by seat. -/
theorem bypassAndRestore : Obligations.BypassAndRestore := by
  unfold Obligations.BypassAndRestore
  refine ⟨fun f rest s mask admitted hargs => ⟨fun none => ?_, fun named running => ?_, fun named noQueue noSet => ?_⟩,
    fun f rest s mask admitted hargs => ⟨fun none => ?_, fun named held => ?_⟩⟩
  · exact requestRow_answers admitted hargs (if_pos none)
  · exact requestRow_answers admitted hargs (handleBypass_releasing (s := taken s f rest) named running)
  · have idle : s.restraint.Idle := ⟨noQueue, noSet⟩
    refine ⟨bypass mask (taken s f rest), bypass_answers admitted hargs named idle,
      (bypass_keeps mask _).toSameGround, bypass_tracker mask _, fun evaluated mode heard => ?_,
      bypass_seat (s := taken s f rest) idle mask⟩
    exact bypass_decided ⟨by rwa [taken_mode], heard⟩ idle evaluated
  · exact requestRow_answers admitted hargs (if_pos none)
  · have outside (i : Fin 8) (bypassed : seatState s i = .bypassed) := held.outside (by rw [bypassed]; exact nofun)
    refine ⟨restoreNamed mask (taken s f rest), requestRow_answers admitted hargs (handleRestore_named named),
      (Keeps.foldl restoreSeat_keeps _ _).toSameGround, foldl_tracker restoreSeat_tracker _ _,
      fun bypassed mode heard => restore_decided ⟨by rwa [taken_mode], heard⟩ outside bypassed,
      fun i hw hh iNamed bypassed hi before => ?_, fun quiet heard => ?_,
      fun i => ⟨fun iNamed bypassed => ?_, fun spared hq he => ?_⟩⟩
    · obtain ⟨logged, active, halt⟩ := restore_taken (s := taken s f rest) (watched_taken.2 hw) (by rwa [taken_mode]) iNamed
        bypassed hi before
      rw [taken_mode] at logged
      exact ⟨logged, active, halt⟩
    · obtain ⟨log, active, first⟩ :=
        restore_noFault (s := taken s f rest) (mask := mask) heard (by rwa [watched_taken, taken_mode])
      exact ⟨log, active, first⟩
    · obtain ⟨hq, he⟩ := outside i bypassed
      exact (restore_seat (s := taken s f rest) mask hq he).trans (if_pos ⟨iNamed, bypassed⟩)
    · refine (restore_seat (s := taken s f rest) mask hq he).trans (if_neg ?_)
      rintro ⟨iNamed, bypassed⟩
      rcases spared with unnamed | other
      · exact absurd (unnamed.symm.trans iNamed) nofun
      · exact other bypassed

end Sys2Proof.Machine
end

section
/-! PROOF. O23: RELEASE (R73, R74, R78, R82). -/

namespace Sys2Proof.Machine

variable {s t u : State} {f : Frame} {rest : List Frame} {mask : Byte} {i j : Fin 8} {l : List (Fin 8)}

/-! ## The frame is taken -/

theorem releaseAllowed_taken (h : ReleaseAllowed s) : ReleaseAllowed (taken s f rest) :=
  ⟨h.permit, by simpa only [taken_mode, taken_permit] using h.ground, by simpa only [taken_mode, taken_berthed] using h.unload,
    by simpa only [taken_mode, taken_heldFrom, taken_berthReached, taken_permit] using h.hold,
    by simpa only [taken_mode] using h.run⟩

theorem releaseHeld_taken (h : ReleaseHeld s) : ReleaseHeld (taken s f rest) :=
  ⟨h.distinct, h.budget, h.filled, fun pending => releaseAllowed_taken (h.allowed pending), h.releasing, h.still, h.startUp⟩

theorem berthHeld_taken (h : BerthHeld s) : BerthHeld (taken s f rest) :=
  ⟨by simpa only [taken_mode, taken_berthed, taken_berthReached, taken_advance, taken_permit] using h.berthed,
    by simpa only [taken_mode, taken_advance] using h.advance⟩

theorem releaseAccepted_iff : releaseAccepted s = true ↔ s.mc.mode = .offline ∨
    ((s.mc.mode = .load ∨ s.mc.mode = .ready ∨ s.mc.mode = .halt) ∧ s.permit.stationary = true) ∨
    (s.mc.mode = .unload ∧ s.mc.berthed = true) := by
  cases mode : s.mc.mode <;> simp [releaseAccepted, mode]

theorem releaseAccepted_refuses
    (h : ((s.mc.mode = .load ∨ s.mc.mode = .ready ∨ s.mc.mode = .halt) ∧ s.permit.stationary = false) ∨
      (s.mc.mode = .unload ∧ s.mc.berthed = false)) : releaseAccepted s = false := by
  rcases h with ⟨mode | mode | mode, moving⟩ | ⟨mode, away⟩ <;> simp [releaseAccepted, *]

/-! ## The seats that join (R73) -/

/-- While each seat that waits or is energised is RELEASING, the seats in evaluation with their bars down join. -/
theorem appended_eq (held : ReleaseHeld s) (mask : Byte) (i : Fin 8) : appended s mask i =
    (mask.getLsbD i.val && (seatState s i).inEvaluation && (picture s i).barDown) := by
  have pending : releasePending s i = true ↔ seatState s i = .releasing := by
    rw [← held.releasing i]
    simp [releasePending]
  unfold appended
  by_cases releasing : seatState s i = .releasing
  · simp [pending.2 releasing, releasing, SeatState.inEvaluation]
  · have free : releasePending s i = false := Bool.eq_false_iff.2 fun h => releasing (pending.1 h)
    rw [free, inMask]
    cases state : seatState s i <;> simp_all [SeatState.inEvaluation]

theorem mem_joining (held : ReleaseHeld s) : i ∈ joining mask s ↔
    mask.getLsbD i.val = true ∧ (seatState s i).inEvaluation = true ∧ (picture s i).barDown = true := by
  rw [joining, mem_named, appended_eq held]
  simp only [Bool.and_eq_true, and_assoc]

theorem joining_eq (held : ReleaseHeld s) (mask : Byte) : joining mask s = (List.finRange 8).filter fun i =>
    mask.getLsbD i.val && (seatState s i).inEvaluation && (picture s i).barDown := by
  have seats : allSeats = List.finRange 8 := by decide
  rw [joining, ← seats]
  exact List.filter_congr fun i _ => appended_eq held mask i

theorem joining_length (mask : Byte) (s : State) : (joining mask s).length ≤ 8 := List.length_filter_le ..

/-! ## The Restraint Monitor once they have joined -/

theorem joined_queue (l : List (Fin 8)) (r : Restraint) : (l.foldl Restraint.joined r).queue = r.queue ++ l := by
  induction l generalizing r with
  | nil => exact (List.append_nil _).symm
  | cons i l ih => exact (ih (r.joined i)).trans (List.append_assoc r.queue [i] l)

theorem joined_energised (l : List (Fin 8)) (r : Restraint) : (l.foldl Restraint.joined r).energised = r.energised := by
  induction l generalizing r with
  | nil => rfl
  | cons i l ih => exact ih (r.joined i)

theorem joined_state (l : List (Fin 8)) (r : Restraint) (j : Fin 8) : ((l.foldl Restraint.joined r).seats[j]).state =
    if j ∈ l then .releasing else (r.seats[j]).state := by
  induction l generalizing r with
  | nil => simp
  | cons i l ih =>
    rw [List.foldl_cons, ih]
    by_cases here : j = i
    · rw [here, joined_seat, if_pos (List.mem_cons_self ..)]
      exact ite_self _
    · rw [joined_other _ here]
      simp only [List.mem_cons, here, false_or]

/-! ## The energising, and the READY conditions judged (R74, R7) -/

/-- Judging the READY conditions leaves alone a release whose condition holds. -/
theorem evalReady_running (running : s.startUp.phase = .complete) (h : releaseInProgress s = true → ReleaseStands s) :
    (evalReady s).restraint = s.restraint := by
  cases progress : releaseInProgress s
  · exact evalReady_idle progress
  · exact evalReady_stands running (h progress)

theorem fillEnergised_restraint (s : State) :
    (fillEnergised s).restraint = s.restraint.fill s.params.releasePulseTime := rfl

theorem fillEnergised_stands (h : releaseInProgress s = true → ReleaseStands s)
    (progress : releaseInProgress (fillEnergised s) = true) : ReleaseStands (fillEnergised s) := by
  have before : releaseInProgress s = true := by
    by_contra none
    have idle := idle_iff.1 (Bool.eq_false_iff.2 none)
    have still : (fillEnergised s).restraint = s.restraint := fill_idle _ idle.1
    exact none ((releaseInProgress_congr still).symm.trans progress)
  obtain ⟨⟨permit, ground, unload, hold, run⟩, unready⟩ := h before
  refine ⟨⟨permit, ground, unload, hold, run⟩, fun ready => unready fun j => ?_⟩
  have state : seatState (fillEnergised s) j = seatState s j := fill_state ..
  rw [← state]
  exact ready j

/-- A release in progress in a state that holds it meets its condition, and a seat lacks readiness. -/
theorem ReleaseHeld.stands (held : ReleaseHeld s) (progress : releaseInProgress s = true) : ReleaseStands s := by
  have pending := releaseInProgress_iff.1 progress
  refine ⟨held.allowed pending, fun ready => ?_⟩
  obtain ⟨i, hi⟩ : ∃ i, i ∈ s.restraint.queue ∨ i ∈ s.restraint.energised := by
    rcases pending with queued | energised
    · exact (List.exists_mem_of_ne_nil _ queued).imp fun _ => .inl
    · exact (List.exists_mem_of_ne_nil _ energised).imp fun _ => .inr
  have releasing := (held.releasing i).1 hi
  rcases ready i with state | state | state <;> exact absurd (releasing.symm.trans state) nofun

theorem SeatsJoin.released (held : ReleaseHeld s) (joins : SeatsJoin l s u) :
    (evalReady (fillEnergised u)).restraint = (l.foldl Restraint.joined s.restraint).fill u.params.releasePulseTime := by
  have stands : releaseInProgress u = true → ReleaseStands u := by
    by_cases none : l = []
    · rw [joins.none none]
      exact held.stands
    · exact fun _ => (joins.stands none).1
  have judged : (evalReady (fillEnergised u)).restraint = (fillEnergised u).restraint :=
    evalReady_running joins.waits.running (fillEnergised_stands stands)
  rw [judged, fillEnergised_restraint, joins.restraint]

theorem appendRelease_tracker (s : State) (i : Fin 8) : (appendRelease s i).tracker = s.tracker := seatMoved_tracker ..

theorem release_tracker (mask : Byte) (s : State) : (release mask s).tracker = s.tracker := by
  rw [release_eq, evalReady_tracker, fillEnergised_tracker]
  exact foldl_tracker appendRelease_tracker ..

/-- The Restraint Monitor after an accepted RELEASE. -/
theorem release_restraint (held : ReleaseHeld s) (waits : ReleaseWaits s) (mask : Byte) : (release mask s).restraint =
    ((joining mask s).foldl Restraint.joined s.restraint).fill s.params.releasePulseTime := by
  have joins := joining_joins mask waits (releaseHeld_iff.1 held).1
  rw [release_eq, joins.released held, (Keeps.foldl appendRelease_keeps _ s).params]

theorem release_filled (held : ReleaseHeld s) (waits : ReleaseWaits s) (mask : Byte) :
    ReleaseFilled (s.restraint.queue ++ joining mask s) s.restraint.energised s.params.releasePulseTime
      (release mask s).restraint := by
  have joins := joining_joins mask waits (releaseHeld_iff.1 held).1
  have order := joins.ordered.order
  rw [joins.restraint] at order
  have filled := fill_filled s.params.releasePulseTime _ order.distinct order.budget
  rwa [joined_queue, joined_energised, ← release_restraint held waits mask] at filled

theorem release_state (held : ReleaseHeld s) (waits : ReleaseWaits s) (mask : Byte) (j : Fin 8) :
    seatState (release mask s) j = if j ∈ joining mask s then .releasing else seatState s j := by
  rw [seatState, release_restraint held waits, fill_state, joined_state]
  rfl

/-- A seat that joins waits at the end, or is energised. -/
theorem release_pending (held : ReleaseHeld s) (waits : ReleaseWaits s) (mem : i ∈ joining mask s) :
    i ∈ (release mask s).restraint.queue ∨ i ∈ (release mask s).restraint.energised := by
  have filled := release_filled held waits mask
  have named : i ∈ s.restraint.queue ++ joining mask s := List.mem_append_right _ mem
  rw [← List.take_append_drop (2 - s.restraint.energised.length) (s.restraint.queue ++ joining mask s),
    List.mem_append] at named
  rcases named with energised | queued
  · exact .inr ((filled.energised i).2 (.inr energised))
  · rw [filled.order]
    exact .inl queued

/-! ## LOAD and READY (R7) -/

theorem appendRelease_boards (s : State) (i : Fin 8) (h : Boarding s) : Boarding (appendRelease s i) := by
  have boards : Boarding (s.setRestraint (s.restraint.joined i)) := h.of_blocks rfl rfl
  exact boards.moved

theorem release_decided (h : Boarding s) (mask : Byte) : ReadyDecided (release mask s) :=
  ((h.foldl appendRelease_boards (joining mask s)).of_blocks (t := fillEnergised _) rfl rfl).decided

/-! ## HALT (R82, R83) -/

/-- HALT stays, with its active faults and, behind at most `n` later records, those of its log. -/
structure HaltLogs (n : Nat) (s t : State) : Prop where
  halt : t.mc.mode = .halt
  active : ∀ k ∈ s.permit.active, k ∈ t.permit.active
  recent : ∀ x m, m + n ≤ 15 → Recent m x s.permit.log → Recent (m + n) x t.permit.log

theorem HaltLogs.mono {n m : Nat} (h : HaltLogs n s t) (le : n ≤ m) : HaltLogs m s t :=
  ⟨h.halt, h.active, fun x k room recent => (h.recent x k (by omega) recent).mono (by omega)⟩

theorem HaltLogs.trans {n m : Nat} (h : HaltLogs n s t) (k : HaltLogs m t u) : HaltLogs (n + m) s u where
  halt := k.halt
  active j hj := k.active j (h.active j hj)
  recent x p room recent := by
    rw [← Nat.add_assoc]
    exact k.recent x _ (by omega) (h.recent x p (by omega) recent)

theorem HaltLogs.of_blocks (halt : s.mc.mode = .halt) (hm : t.mc = s.mc) (ha : t.permit.active = s.permit.active)
    (hl : t.permit.log = s.permit.log) : HaltLogs 0 s t :=
  ⟨by rw [hm, halt], fun k hk => by rwa [ha], fun x m _ recent => by rwa [hl]⟩

/-- A fault met in HALT is one record more (R14). -/
theorem takeFault_haltLogs (k : FaultKind) (sub : SubCause) (d : Nat) (halt : s.mc.mode = .halt) :
    HaltLogs 1 s (takeFault k sub d s) := by
  obtain ⟨-, active, log⟩ := raiseFault_records k sub d (s := s) (by rw [halt]; exact nofun)
  rw [takeFault_halt halt]
  refine ⟨by rw [raiseFault_mc, if_pos (.inr halt), halt], fun j hj => ?_, fun x m room recent => ?_⟩
  · rw [active]
    exact mem_insertKind hj
  · rw [log]
    exact recent.appendLog (by omega) _

theorem refreshPermit_haltLogs (halt : s.mc.mode = .halt) : HaltLogs 0 s (refreshPermit s) :=
  .of_blocks halt (refreshPermit_mc s) (refreshPermit_formed s).active (refreshPermit_formed s).log

theorem seatMoved_haltLogs {old : SeatState} (halt : s.mc.mode = .halt) : HaltLogs 1 s (seatMoved i old s) := by
  have formed := refreshPermit_haltLogs halt
  have faulted := formed.trans (takeFault_haltLogs .restraintOpen .none (i.val + 1) formed.halt)
  unfold seatMoved
  dsimp only
  split
  · exact (HaltLogs.of_blocks halt rfl rfl rfl).mono (Nat.zero_le 1)
  · split
    · rw [evalReady_halted (.inl faulted.halt)]
      exact faulted
    · rw [evalReady_halted (.inl formed.halt)]
      exact formed.mono (Nat.zero_le 1)

theorem appendRelease_haltLogs (halt : s.mc.mode = .halt) (i : Fin 8) : HaltLogs 1 s (appendRelease s i) := by
  have joined : HaltLogs 0 s (s.setRestraint (s.restraint.joined i)) := .of_blocks halt rfl rfl rfl
  rw [appendRelease_eq]
  exact joined.trans (seatMoved_haltLogs joined.halt)

theorem appended_haltLogs (halt : s.mc.mode = .halt) (l : List (Fin 8)) :
    HaltLogs l.length s (l.foldl appendRelease s) := by
  induction l generalizing s with
  | nil => exact .of_blocks halt rfl rfl rfl
  | cons i l ih =>
    have one := appendRelease_haltLogs halt i
    rw [List.length_cons, Nat.add_comm]
    exact one.trans (ih one.halt)

/-- In HALT a seat that leaves VERIFIED or LOCKED for its release is the last record of the log. -/
theorem appendRelease_opens (halt : s.mc.mode = .halt) (closed : seatState s i = .verified ∨ seatState s i = .locked) :
    Recent 0 (s.permit.nextNumber, faultRecordOf s .restraintOpen .none (i.val + 1)) (appendRelease s i).permit.log ∧
      .restraintOpen ∈ (appendRelease s i).permit.active := by
  obtain ⟨v, hv⟩ : ∃ v, v = s.setRestraint (s.restraint.joined i) := ⟨_, rfl⟩
  have state : seatState v i = .releasing := by rw [hv, seatState, State.setRestraint_restraint, joined_seat]
  have mode : v.mc.mode = .halt := by rw [hv]; exact halt
  have opens : opensRestraint v (seatState s i) (seatState v i) = true := by
    rw [state, opensRestraint, watched_iff.2 (.inr (.inl mode))]
    rcases closed with closed | closed <;> rw [closed] <;> rfl
  obtain ⟨taken, -⟩ := seatMoved_taken opens
  have formed : (refreshPermit v).mc.mode = .halt := by rw [refreshPermit_mc, mode]
  have number : (refreshPermit v).permit.nextNumber = s.permit.nextNumber := by
    rw [(refreshPermit_formed v).nextNumber, hv]
    rfl
  have record : faultRecordOf (refreshPermit v) .restraintOpen .none (i.val + 1) =
      faultRecordOf s .restraintOpen .none (i.val + 1) := by
    rw [faultRecordOf, refreshPermit_tracker, refreshPermit_clock, refreshPermit_mc, hv]
    rfl
  rw [appendRelease_eq, ← hv, taken]
  refine ⟨?_, takeFault_active _ _ _ (by rw [formed]; exact nofun)⟩
  rw [takeFault_halt formed, raiseFault_log, record, ← number]
  exact appendLog_recent ..

/-- Of at most eight seats that join in HALT, each that leaves VERIFIED or LOCKED is a RESTRAINT_OPEN, still in the log. -/
theorem appended_opens (halt : s.mc.mode = .halt) (waits : ReleaseWaits s) (ordered : ReleaseOrdered s)
    (distinct : l.Nodup) (out : ∀ j ∈ l, seatState s j ≠ .releasing) (few : l.length ≤ 8) (mem : i ∈ l)
    (closed : seatState s i = .verified ∨ seatState s i = .locked) :
    FaultTaken .restraintOpen (i.val + 1) s (l.foldl appendRelease s) := by
  obtain ⟨front, back, rfl⟩ := List.append_of_mem mem
  obtain ⟨first, -, apart⟩ := List.nodup_append.1 distinct
  have fresh : i ∉ front := fun inFront => apart i inFront i (List.mem_cons_self ..) rfl
  obtain ⟨u, hu⟩ : ∃ u, u = front.foldl appendRelease s := ⟨_, rfl⟩
  have joins : SeatsJoin front s u :=
    hu ▸ appendRelease_foldl front first waits ordered fun j hj => out j (List.mem_append_left _ hj)
  have state : seatState u i = seatState s i := by
    rw [seatState, joins.restraint, joined_state, if_neg fresh]
    rfl
  have before : HaltLogs front.length s u := hu ▸ appended_haltLogs halt front
  have record : faultRecordOf u .restraintOpen .none (i.val + 1) = faultRecordOf s .restraintOpen .none (i.val + 1) := by
    rw [faultRecordOf, before.halt, hu, foldl_tracker appendRelease_tracker,
      (Keeps.foldl appendRelease_keeps front s).clock, ← halt]
    rfl
  obtain ⟨recent, active⟩ := appendRelease_opens before.halt (by rwa [state])
  have after := appended_haltLogs (appendRelease_haltLogs before.halt i).halt back
  have room : 0 + back.length ≤ 15 := by
    rw [List.length_append, List.length_cons] at few
    omega
  have logged := (after.recent _ 0 room recent).mem
  rw [record] at logged
  rw [List.foldl_append, List.foldl_cons, ← hu]
  exact ⟨⟨_, logged⟩, after.active _ active, after.halt⟩

theorem release_opens (halt : s.mc.mode = .halt) (held : ReleaseHeld s) (waits : ReleaseWaits s)
    (mem : i ∈ joining mask s) (closed : seatState s i = .verified ∨ seatState s i = .locked) :
    FaultTaken .restraintOpen (i.val + 1) s (release mask s) := by
  have ordered := (releaseHeld_iff.1 held).1
  have opened : FaultTaken .restraintOpen (i.val + 1) s ((joining mask s).foldl appendRelease s) :=
    appended_opens halt waits ordered (named_nodup _) (fun j hj => appended_unreleasing ordered (mem_named.1 hj))
      (joining_length mask s) mem closed
  have judged : evalReady (fillEnergised ((joining mask s).foldl appendRelease s)) =
      fillEnergised ((joining mask s).foldl appendRelease s) := evalReady_halted (.inl opened.halt)
  rw [release_eq, judged]
  exact ⟨opened.logged, opened.active, opened.halt⟩

/-! ## RELEASE -/

theorem handleRelease_refuses (h : mask ≠ 0) (refused : s.mc.advance ≠ none ∨ releaseAccepted s = false) :
    handleRelease [mask] s = refuse .mode s := by
  have advancing : s.mc.advance ≠ none ↔ s.mc.advance.isSome = true := Option.isSome_iff_ne_none.symm
  unfold handleRelease
  simp only [if_neg h]
  split_ifs with isAdvancing accepted
  · rfl
  · rfl
  · exact absurd (refused.resolve_left (advancing.not.2 isAdvancing)) accepted

theorem handleRelease_accepts (h : mask ≠ 0) (still : s.mc.advance = none) (accepted : releaseAccepted s = true)
    (held : ReleaseHeld s) : handleRelease [mask] s = done
      ([BitVec.ofNat 8 (maskOf fun i => mask.getLsbD i.val && (seatState s i).inEvaluation && (picture s i).barDown)] ++
        [BitVec.ofNat 8 (release mask s).restraint.queue.length] ++
        [BitVec.ofNat 8 (maskOf (release mask s).restraint.energised.contains)]) (release mask s) := by
  rw [← maskOf_congr (appended_eq held mask)]
  unfold handleRelease
  simp only [if_neg h, still, accepted]
  rfl

/-- Settles O23: the refusals, and an accepted RELEASE as the seats that join, the energising and the READY evaluation. -/
theorem releaseIsTaken : Obligations.ReleaseIsTaken := by
  intro f rest s mask admitted hargs
  refine ⟨fun none => requestRow_answers admitted hargs (if_pos none), fun named refused => ?_,
    fun named still held berth accepts => ?_⟩
  · refine requestRow_answers admitted hargs (handleRelease_refuses named ?_)
    rw [taken_advance]
    exact refused.imp id fun moves =>
      releaseAccepted_refuses (by simpa only [taken_mode, taken_berthed, taken_permit] using moves)
  · have accepted : releaseAccepted (taken s f rest) = true :=
      releaseAccepted_iff.2 (by simpa only [taken_mode, taken_berthed, taken_permit] using accepts)
    have held : ReleaseHeld (taken s f rest) := releaseHeld_taken held
    have waits : ReleaseWaits (taken s f rest) := .of_accepted admitted.running (berthHeld_taken berth) accepted
    have filled := release_filled held waits mask
    rw [joining_eq held] at filled
    refine ⟨release mask (taken s f rest), requestRow_answers admitted hargs
      (handleRelease_accepts named (by rw [taken_advance, still]) accepted held),
      (release_keeps mask _).toSameGround, release_tracker mask _, filled,
      fun mode heard => release_decided (s := taken s f rest) ⟨by rwa [taken_mode], heard⟩ mask,
      fun i => ⟨fun iNamed evaluated down => ?_, fun spared => ?_⟩⟩
    · have mem : i ∈ joining mask (taken s f rest) := (mem_joining held).2 ⟨iNamed, evaluated, down⟩
      refine ⟨(release_state held waits mask i).trans (if_pos mem), release_pending held waits mem, fun halt closed => ?_⟩
      obtain ⟨logged, active, halted⟩ := release_opens (by rwa [taken_mode]) held waits mem closed
      rw [taken_mode] at logged
      exact ⟨logged, active, halted⟩
    · refine (release_state held waits mask i).trans (if_neg fun mem => ?_)
      obtain ⟨iNamed, evaluated, down⟩ := (mem_joining held).1 mem
      rcases spared with unnamed | other | up
      · exact absurd (unnamed.symm.trans iNamed) nofun
      · exact absurd (other.symm.trans evaluated) nofun
      · exact absurd (up.symm.trans down) nofun

end Sys2Proof.Machine
end
